-- ==== Sys2Proof/Word.lean ====
section
/-! DEFINITION. The basic values of the TGN-464: the byte of a frame or record, and the index types of ports,
pools and classes, with the four-fold tables the part keeps for them (spec 00, section 4.2). -/

namespace Sys2Proof

/-- A byte of a frame, an image record or a journal record (R193). -/
abbrev Byte := BitVec 8

/-- Ports P0..P3. -/
abbrev Port := Fin 4

/-- Pools 0..3. -/
abbrev Pool := Fin 4

/-- Port classes 0..3. -/
abbrev Class := Fin 4

/-- The levels of a port's two strap pins PCLn1 and PCLn0, true for high (R4). -/
structure Straps where
  pcl1 : Bool
  pcl0 : Bool
deriving DecidableEq, Repr

/-- The four indices in order, as the part walks ports and pools. -/
def fours : List (Fin 4) := [0, 1, 2, 3]

/-- One value for each of four ports, pools or classes. -/
structure Quad (α : Type) where
  q0 : α
  q1 : α
  q2 : α
  q3 : α
deriving DecidableEq, Repr

/-- The value at an index. -/
def Quad.get {α : Type} (q : Quad α) (i : Fin 4) : α :=
  match i with
  | 0 => q.q0
  | 1 => q.q1
  | 2 => q.q2
  | 3 => q.q3

/-- The table with the value at one index replaced. -/
def Quad.set {α : Type} (q : Quad α) (i : Fin 4) (a : α) : Quad α :=
  match i with
  | 0 => { q with q0 := a }
  | 1 => { q with q1 := a }
  | 2 => { q with q2 := a }
  | 3 => { q with q3 := a }

/-- The table that a function of the index gives. -/
def Quad.ofFn {α : Type} (f : Fin 4 → α) : Quad α := ⟨f 0, f 1, f 2, f 3⟩

/-- The same value four times. -/
def Quad.fill {α : Type} (a : α) : Quad α := ⟨a, a, a, a⟩

/-- A function applied to each value. -/
def Quad.map {α β : Type} (f : α → β) (q : Quad α) : Quad β := ⟨f q.q0, f q.q1, f q.q2, f q.q3⟩

/-- The value at one index changed by a function. -/
def Quad.modify {α : Type} (q : Quad α) (i : Fin 4) (f : α → α) : Quad α := q.set i (f (q.get i))

/-- The four values in index order. -/
def Quad.toList {α : Type} (q : Quad α) : List α := [q.q0, q.q1, q.q2, q.q3]

/-- The sum of four numbers. -/
def Quad.sum (q : Quad Nat) : Nat := q.q0 + q.q1 + q.q2 + q.q3

end Sys2Proof
end

