-- ==== Sys2Proof/Syntax.lean ====
section
/-! DEFINITION. The commands of the TGN-464: one constructor of `Instr` for each row of the opcode table, and the
25 commands a request frame can name (R193). -/

namespace Sys2Proof

/-- The commands of the command code table of R193. -/
inductive Command where
  | checkout | returnCheckout | returnTag | releasePort | queryCheckout | heartbeat
  | cancelWait | queryWait | queryFeature | queryPool
  | timeAssert | windowClose
  | stageBegin | stageRecord | stageFinish | activate | stageAbort
  | policyStage | policyApply | setCeiling | setShare
  | journalStatus | readNotice | setNotice | identify
deriving DecidableEq, Repr

/-- The steps of the part, one for each row of the opcode table. A step that carries out a request names the port
whose request it carries out; the request's payload stands in State since its frame completed (R185). -/
inductive Instr where
  /-- POWER_ON (R18): supply comes, or its monitor trips; `straps` are the levels of each port's two PCL pins (R4). -/
  | powerOn (straps : Quad Straps)
  /-- POWER_LOSS (R157). -/
  | powerLoss
  /-- RESET_ASSERT (R140). -/
  | resetAssert
  /-- RESET_RELEASE (R136); `straps` are the levels of each port's two PCL pins (R4). -/
  | resetRelease (straps : Quad Straps)
  /-- PRST_ASSERT (R186). -/
  | prstAssert (p : Port)
  /-- PRST_RELEASE (R186). -/
  | prstRelease (p : Port)
  /-- REQUEST_FRAME (R183, R185): CSn rises after the whole bytes `bytes` on SDIn, the transaction byte first. -/
  | requestFrame (p : Port) (bytes : List Byte)
  /-- READ_TRANSACTION (R183, R185): CSn rises after the transaction byte and `n` more bytes. `answered` says whether
  the port had entered ANSWERED when the transaction byte was complete; where it had not, every byte reads 0xFF. -/
  | readTransaction (p : Port) (n : Nat) (answered : Bool)
  /-- ATTN_PULSE_END (R191). -/
  | attnPulseEnd (p : Port)
  /-- CHECKOUT (R48). -/
  | checkout (p : Port)
  /-- RETURN (R59). -/
  | returnCheckout (p : Port)
  /-- RETURN_TAG (R61). -/
  | returnTag (p : Port)
  /-- RELEASE_PORT (R62). -/
  | releasePort (p : Port)
  /-- QUERY_CHECKOUT (R63). -/
  | queryCheckout (p : Port)
  /-- HEARTBEAT (R105). -/
  | heartbeat (p : Port)
  /-- CANCEL_WAIT (R80). -/
  | cancelWait (p : Port)
  /-- QUERY_WAIT (R81). -/
  | queryWait (p : Port)
  /-- QUERY_FEATURE (R16). -/
  | queryFeature (p : Port)
  /-- QUERY_POOL (R39). -/
  | queryPool (p : Port)
  /-- TIME_ASSERT (R98). -/
  | timeAssert (p : Port)
  /-- WINDOW_CLOSE (R93). -/
  | windowClose (p : Port)
  /-- STAGE_BEGIN (R143). -/
  | stageBegin (p : Port)
  /-- STAGE_RECORD (R145). -/
  | stageRecord (p : Port)
  /-- STAGE_FINISH (R146). -/
  | stageFinish (p : Port)
  /-- ACTIVATE (R150). -/
  | activate (p : Port)
  /-- STAGE_ABORT (R154). -/
  | stageAbort (p : Port)
  /-- POLICY_STAGE (R159). -/
  | policyStage (p : Port)
  /-- POLICY_APPLY (R160). -/
  | policyApply (p : Port)
  /-- SET_CEILING (R163). -/
  | setCeiling (p : Port)
  /-- SET_SHARE (R165). -/
  | setShare (p : Port)
  /-- JOURNAL_STATUS (R180). -/
  | journalStatus (p : Port)
  /-- READ_NOTICE (R189). -/
  | readNotice (p : Port)
  /-- SET_NOTICE (R190). -/
  | setNotice (p : Port)
  /-- IDENTIFY (R192). -/
  | identify (p : Port)
  /-- SECOND_TICK (R87): the TREF edges up to the one that wraps the prescaler. -/
  | secondTick
  /-- MINUTE_ADVANCE (R88): the second tick that wraps the minute count. -/
  | minuteAdvance
  /-- WINDOW_TIMER_EXPIRY (R91): the second tick that raises the window timer to the window length in AUTO. -/
  | windowTimerExpiry
  /-- WCLK_RISING_EDGE (R94). -/
  | wclkRisingEdge
  /-- WCLK_LOW_SEEN (R94). -/
  | wclkLowSeen
  /-- SWEEP_WINDOW_END (R110). -/
  | sweepWindowEnd
  /-- SWEEP_VISIT (R112): the walk reaches checkout slot `slot`, passing over the FREE slots before it. -/
  | sweepVisit (slot : Nat)
  /-- RECLAIM (R113): the visit of checkout slot `slot` that reclaims its checkout. -/
  | reclaim (slot : Nat)
  /-- GRANT_ENGINE_WINDOW_END (R78). -/
  | grantEngineWindowEnd
  /-- WAIT_EXPIRY (R78): the Grant Engine's window end at which the entry of wait slot `slot` expires. -/
  | waitExpiry (slot : Nat)
  /-- DEMAND_WATCH_WINDOW_END (R122). -/
  | demandWatchWindowEnd (k : Pool)
  /-- PORT_WINDOW_END (R188). `first` gives the pools whose refresh is judged before the others', which follow in index
  order: notices of different pools are stored in either order (R187). -/
  | portWindowEnd (p : Port) (first : List Pool)
  /-- STAGING_TIMEOUT (R156): the second tick that raises the staging timer to 600. -/
  | stagingTimeout
  /-- SAVE_COMPLETE (R138). -/
  | saveComplete
  /-- IMAGE_WRITE_COMPLETE (R152). `ahead` gives for each port how many of its WAIT_ENDED notices are stored before
  its IMAGE notice: notices of different blocks are stored in either order (R187). -/
  | imageWriteComplete (ahead : Quad Nat)
  /-- BATCH_BEGIN (R176); `jend` says whether the recorder drives JEND at that moment. -/
  | batchBegin (jend : Bool)
  /-- RECORD_ACKNOWLEDGE (R177): a JACK rising edge; `jend` says whether the recorder drives JEND at it (R179). -/
  | recordAcknowledge (jend : Bool)
  /-- JCLK_RISING_EDGE (R177). -/
  | jclkRisingEdge
deriving DecidableEq, Repr

end Sys2Proof
end

