-- ==== Sys2Proof/Decode.lean ====
section
/-! DEFINITION. What a word of the opcode table spells. The table gives bits to none of its rows: its rows are steps
of a block, which come as frames, pin events and judgements, not as words. The bytes of request frames are read in
Machine/Operands.lean. -/

namespace Sys2Proof

/-- The command a word spells by the table's bits: none, for every word, since no row of the table has bits. -/
def decodeTableWord (_nbits _w : Nat) : Option Instr := none

end Sys2Proof
end

