-- ==== Sys2Proof/Machine/Bytes.lean ====
section
/-! DEFINITION. Byte order and the two checks of the formats: R193 (most significant byte first), R184 (CRC-8) and
R148 (CRC-32). -/

namespace Sys2Proof.Machine

/-- The low `width` bytes of a number, most significant first (R193). -/
def beBytes : Nat → Nat → List Byte
  | 0, _ => []
  | width + 1, n => BitVec.ofNat 8 (n / 256 ^ width) :: beBytes width n

/-- The number that bytes carry, most significant first (R193). -/
def beNat (bytes : List Byte) : Nat := bytes.foldl (fun n b => n * 256 + b.toNat) 0

/-- The number in `len` bytes of a body from offset `off` (R193's offsets). -/
def field (body : List Byte) (off len : Nat) : Nat := beNat ((body.drop off).take len)

/-- A one-byte field. -/
def b1 (n : Nat) : List Byte := beBytes 1 n
/-- A two-byte field. -/
def b2 (n : Nat) : List Byte := beBytes 2 n
/-- A three-byte field. -/
def b3 (n : Nat) : List Byte := beBytes 3 n
/-- A four-byte field. -/
def b4 (n : Nat) : List Byte := beBytes 4 n
/-- An eight-byte field. -/
def b8 (n : Nat) : List Byte := beBytes 8 n

/-- A single indication: one byte, 0 or 1 (R193). -/
def indication (b : Bool) : List Byte := b1 (if b then 1 else 0)

/-- A set of flags as a number, the first in bit 0 (R193). -/
def flagBits : List Bool → Nat
  | [] => 0
  | b :: bs => (if b then 1 else 0) + 2 * flagBits bs

/-- Four pool charges or token counts, 3 bytes each, pool 0 first (R193). -/
def tokens (q : Quad Nat) : List Byte := q.toList.flatMap b3

/-- One place of R184's shift. -/
def crc8Shift (r : BitVec 8) : BitVec 8 := if r.msb then (r <<< 1) ^^^ 0x07#8 else r <<< 1

/-- One byte taken into the CRC-8 remainder (R184). -/
def crc8Byte (r : BitVec 8) (b : Byte) : BitVec 8 :=
  crc8Shift (crc8Shift (crc8Shift (crc8Shift (crc8Shift (crc8Shift (crc8Shift (crc8Shift (r ^^^ b))))))))

/-- The CRC-8 of bytes in frame order (R184). -/
def crc8 (bytes : List Byte) : Byte := bytes.foldl crc8Byte 0#8

/-- One place of R148's shift. -/
def crc32Shift (r : BitVec 32) : BitVec 32 :=
  if r.getLsbD 0 then (r >>> 1) ^^^ 0xEDB88320#32 else r >>> 1

/-- One byte taken into the CRC-32 remainder (R148). -/
def crc32Byte (r : BitVec 32) (b : Byte) : BitVec 32 :=
  crc32Shift (crc32Shift (crc32Shift (crc32Shift (crc32Shift (crc32Shift (crc32Shift (crc32Shift
    (r ^^^ b.setWidth 32))))))))

/-- The CRC-32 of bytes (R148). -/
def crc32 (bytes : List Byte) : BitVec 32 := ~~~ (bytes.foldl crc32Byte 0xFFFFFFFF#32)

/-- The bytes of an image record: its kind byte and then its body (R144). -/
def recordStream (kind : Byte) (body : List Byte) : List Byte := kind :: body

end Sys2Proof.Machine
end

