-- ==== Sys2Proof/Config.lean ====
section
/-! DEFINITION. The fixed sizes of the TGN-464, each with the rule that gives it, and the values its manual leaves
open, as constants without a body. -/

namespace Sys2Proof.Config

/-- Slots of the checkout table (R41). -/
def checkoutSlots : Nat := 256
/-- The last generation of a checkout slot before it wraps to 1 (R41, R45). -/
def lastCheckoutGeneration : Nat := 127
/-- Wait slots, which is also the most entries the wait queue holds (R69, R71). -/
def waitSlots : Nat := 32
/-- The most waiting entries one port may have (R54, R71). -/
def waitPerPort : Nat := 8
/-- The last generation of a wait slot before it wraps to 1 (R69, R70). -/
def lastWaitGeneration : Nat := 255
/-- What a ticket adds to generation × 32 + slot (R70). -/
def ticketBase : Nat := 32768
/-- Feature slots of the catalogue (R1). -/
def featureSlots : Nat := 64
/-- Bundle slots of the catalogue (R1). -/
def bundleSlots : Nat := 32
/-- Places of the journal FIFO (R170). -/
def journalPlaces : Nat := 512
/-- The largest gap count (R170). -/
def maxGap : Nat := 65535
/-- Places of a port's notice list (R187). -/
def noticePlaces : Nat := 16
/-- The longest request payload (R183, R193). -/
def maxPayload : Nat := 60
/-- The largest value of a 32-bit count: term clock, overdraft meter, sequence number (R97, R118, R170). -/
def maxWord : Nat := 4294967295
/-- The largest tally of a Demand Watch (R118). -/
def maxTally : Nat := 16777215
/-- The largest value of the window timer (R91). -/
def maxWindowTimer : Nat := 65535
/-- TREF rising edges in a second tick (R87). -/
def prescalerEdges : Nat := 32768
/-- Seconds in a minute advance (R88). -/
def minuteSeconds : Nat := 60
/-- The most minutes one TIME ASSERT moves the term clock (R98). -/
def assertLimit : Nat := 1440
/-- Seconds after which a silent staging is discarded (R156). -/
def stagingSeconds : Nat := 600
/-- The window length of a device in NO_IMAGE, in seconds (R89). -/
def noImageWindow : Nat := 60
/-- Bytes of a journal record (R193). -/
def recordBytes : Nat := 32
/-- The part code IDENTIFY reports (R192). -/
def partCode : Nat := 0x54470464

/-- The byte JOURNAL STATUS carries for a batch limit of none (NO_IMAGE). R180 says the reply gives "none" there and
R193 gives no code of "none" for it: a free value (log 15). -/
opaque noneBatchLimit : Byte

/-- The byte JOURNAL STATUS carries for a request mode of none (NO_IMAGE): a free value, as above (log 15). -/
opaque noneRequestMode : Byte

end Sys2Proof.Config
end

