-- ==== Sys2Proof/Machine/State.lean ====
section
/-! DEFINITION. The state of the TGN-464, block by block (spec 00, section 2.1), as plain data, and the state after
power-on of a part as manufactured. -/

namespace Sys2Proof.Machine

/-! ### Names of values (R193's enumerations) -/

/-- Window modes (R89). -/
inductive WindowMode where
  | auto | strobe
deriving DecidableEq, Repr

/-- The two ways a line is signalled: ATTN modes (R190) and journal request modes (R178). -/
inductive SignalMode where
  | level | pulse
deriving DecidableEq, Repr

/-- Term states (R14). -/
inductive TermState where
  | pending | active | grace | lapsed
deriving DecidableEq, Repr

/-- Deny and queue reasons (R48, R54). -/
inductive Reason where
  | featureDisabled | featureInactive | classExcluded | quantityLimit
  | shareCap | held | overcommitted | reservedElsewhere | noTokens | tableFull | journalFull
deriving DecidableEq, Repr

/-- Reply statuses (section 11.2). -/
inductive Status where
  | ok | queued | denied | notFound | notPermitted | badRequest | frameError | notReady
  | stageHeld | storeBusy | timeHeld
deriving DecidableEq, Repr

/-- Causes of a WAIT_ENDED notice (R79). -/
inductive WaitCause where
  | expired | cancelled | failed | image
deriving DecidableEq, Repr

/-- Results of a HEARTBEAT for one handle (R106). -/
inductive BeatResult where
  | renewed | notFound | notOwner | lapsed
deriving DecidableEq, Repr

/-- Verification codes of STAGE FINISH (R147, R149). -/
inductive VerifyCode where
  | noTrailer | countMismatch | crcMismatch | issueNotNewer | fieldRange | codeInvalid | codeRepeated
  | termOrder | lineShape | lineAbsent | lineRepeated | lineQuantity
deriving DecidableEq, Repr

/-- Kinds of journal record (R174). -/
inductive RecordKind where
  | grant | returned | forcedReturn | reclaim | deny | waitEnd | overdraftOpen | overdraftClose | image | time
deriving DecidableEq, Repr

/-- Pool senses (R188). -/
inductive Sense where
  | off | toShort | toClear | both | level
deriving DecidableEq, Repr

/-- Port states (R185). -/
inductive PortState where
  | idle | working | answered
deriving DecidableEq, Repr

/-- Watch states (R124). -/
inductive WatchState where
  | clear | short
deriving DecidableEq, Repr

/-- Overdraft states (R126, R127). -/
inductive OverdraftState where
  | closed | opened
deriving DecidableEq, Repr

/-- States of the WCLK input (R94). -/
inductive WclkState where
  | armed | spent
deriving DecidableEq, Repr

/-- Sweep states (R109). -/
inductive SweepState where
  | idle | sweeping
deriving DecidableEq, Repr

/-- Batch states (R170). -/
inductive BatchState where
  | idle | running
deriving DecidableEq, Repr

/-- Staging states (R141). -/
inductive StagingState where
  | idle | opened | complete | writing
deriving DecidableEq, Repr

/-- The RESET input as the part sees it (R140): not asserted; asserted; or released while a write still runs, so that
the release takes effect at the write's completion. -/
inductive ResetState where
  | released | asserted | releasing
deriving DecidableEq, Repr

/-! ### Catalogue (chapter 1) -/

/-- The header's fields (R2). The window length stands in seconds; a class map entry of none is STRAP. -/
structure Header where
  issue : Nat
  issueMinute : Nat
  windowLength : Nat
  windowMode : WindowMode
  threshold : Nat
  boundary : Nat
  classMap : Quad (Option Class)
  batchLimit : Nat
  requestMode : SignalMode
deriving DecidableEq, Repr

/-- The privileges of a class record (R3). -/
structure Privileges where
  admin : Bool
  time : Bool
deriving DecidableEq, Repr

/-- A pool record's image fields (R7). -/
structure PoolRec where
  capacity : Nat
  allowance : Nat
  watchEnable : Bool
  threshold : Nat
  taps : Nat
  quorum : Nat
deriving DecidableEq, Repr

/-- The part of an image that is always present in SERVING (R1). -/
structure ImageHead where
  header : Header
  classes : Quad Privileges
  pools : Quad PoolRec
deriving DecidableEq, Repr

/-- A present feature slot's image fields (R8, R9). -/
structure Feature where
  code : Nat
  pool : Pool
  rate : Nat
  scales : Quad Nat
  maxQuantity : Nat
  termStart : Nat
  termEnd : Nat
  grace : Nat
  metered : Bool
  overdraftOk : Bool
  queueable : Bool
deriving DecidableEq, Repr

/-- The four site flags (R10), which are also a policy staging record (R159). -/
structure SiteFlags where
  enabled : Bool
  queue : Bool
  watchMask : Bool
  termNotice : Bool
deriving DecidableEq, Repr

/-- One feature slot: its image content (none is an empty slot), its site flags and its stored term state (R1, R15). -/
structure FeatureSlot where
  feature : Option Feature
  site : SiteFlags
  term : Option TermState
deriving DecidableEq, Repr

/-- One line of a bundle (R12). -/
structure BundleLine where
  feature : Nat
  base : Nat
deriving DecidableEq, Repr

/-- A present bundle slot (R12). -/
structure Bundle where
  code : Nat
  rebate : Nat
  lines : List BundleLine
deriving DecidableEq, Repr

/-- The catalogue (R1): no head in NO_IMAGE. -/
structure Catalogue where
  head : Option ImageHead
  slots : List FeatureSlot
  bundles : List (Option Bundle)
deriving DecidableEq, Repr

/-! ### Grant Engine (chapters 2 to 4) -/

/-- A line of a checkout or waiting entry (R42, R69); an index of none is the 255 of an ORPHAN line. -/
structure Line where
  index : Option Nat
  code : Nat
  quantity : Nat
  pool : Pool
  cost : Nat
  orphan : Bool
deriving DecidableEq, Repr

/-- The bundle code and multiplier of a bundle request (R41). -/
structure BundleRef where
  code : Nat
  multiplier : Nat
deriving DecidableEq, Repr

/-- A checkout's flags (R41). -/
structure CheckoutFlags where
  overdraft : Bool
  grace : Bool
  orphan : Bool
  metered : Bool
deriving DecidableEq, Repr

/-- A checkout entry (R41). -/
structure Checkout where
  owner : Port
  tag : Nat
  bundle : Option BundleRef
  lines : List Line
  charges : Quad Nat
  flags : CheckoutFlags
  grantedMinute : Nat
  renewed : Bool
  missed : Nat
deriving DecidableEq, Repr

/-- A slot of the checkout table: FREE when it holds no entry (R41). -/
structure CheckoutSlot where
  generation : Nat
  entry : Option Checkout
deriving DecidableEq, Repr

/-- A reason with its pool index, where it has one (R69). -/
structure QueueReason where
  reason : Reason
  pool : Option Pool
deriving DecidableEq, Repr

/-- A waiting entry, with the wait slot it stands in (R69). -/
structure WaitEntry where
  slot : Nat
  port : Port
  tag : Nat
  bundle : Option BundleRef
  lines : List Line
  charges : Quad Nat
  blocking : Bool
  remaining : Nat
  arrival : QueueReason
  last : QueueReason
deriving DecidableEq, Repr

/-- The runtime fields of a pool (R22); the ceiling is absent in NO_IMAGE (R24). -/
structure PoolState where
  ceiling : Option Nat
  pendingCeiling : Option Nat
  inUse : Nat
  held : Quad Nat
  cap : Quad Nat
  reserve : Quad Nat
deriving DecidableEq, Repr

/-- The Grant Engine: checkout table, wait slot generations, waiting entries oldest first, pools (R22, R41, R69). -/
structure GrantEngine where
  table : List CheckoutSlot
  waitGens : List Nat
  queue : List WaitEntry
  pools : Quad PoolState
deriving DecidableEq, Repr

/-- A Demand Watch (R118); a verdict is true when hot, the newest first. -/
structure Watch where
  tally : Nat
  history : List Bool
  watch : WatchState
  overdraft : OverdraftState
  meter : Nat
deriving DecidableEq, Repr

/-! ### Timebase and Sweep Unit (chapters 5 and 6) -/

/-- The Timebase (R87 to R97). -/
structure Timebase where
  prescaler : Nat
  windowTimer : Nat
  minuteCount : Nat
  clock : Nat
  mode : WindowMode
  length : Nat
  wclk : WclkState
deriving DecidableEq, Repr

/-- Window ends produced and not yet taken, for each receiver of R90: the model's own counts (log 7). -/
structure WindowEnds where
  sweep : Nat
  grant : Nat
  demand : Quad Nat
  port : Quad Nat
deriving DecidableEq, Repr

/-- The Sweep Unit (R109). -/
structure Sweep where
  state : SweepState
  position : Nat
  limit : Option Nat
  threshold : Option Nat
  pendingEnd : Bool
deriving DecidableEq, Repr

/-! ### Journal (chapter 10) -/

/-- A journal record (R174). -/
structure JournalRecord where
  sequence : Nat
  kind : RecordKind
  port : Fin 4
  overdraft : Bool
  grace : Bool
  orphan : Bool
  forced : Bool
  gap : Nat
  minute : Nat
  handle : Nat
  tag : Nat
  code : Nat
  charges : Quad Nat
deriving DecidableEq, Repr

/-- The Journal (R170), the settings of the running batch (R176), and its pins. -/
structure Journal where
  fifo : List JournalRecord
  rv : Nat
  gap : Nat
  nextSeq : Nat
  batch : BatchState
  remaining : Nat
  bytePos : Nat
  batchMode : SignalMode
  jreqPulses : Nat
  jendRecorder : Bool
deriving DecidableEq, Repr

/-! ### Image Stager and Store Controller (chapter 8) -/

/-- An image record as it was staged: its kind byte and its body (R144). -/
structure ImageRecord where
  kind : Byte
  body : List Byte
deriving DecidableEq, Repr

/-- The verified summary (R141, R146). -/
structure Summary where
  issue : Nat
  records : Nat
  features : Nat
  bundles : Nat
  crc : Nat
deriving DecidableEq, Repr

/-- The Image Stager (R141). -/
structure Stager where
  state : StagingState
  port : Option Port
  area : List ImageRecord
  summary : Option Summary
  timer : Nat
deriving DecidableEq, Repr

/-- What a save writes (R103). -/
structure SavedValues where
  clock : Nat
  meters : Quad Nat
  sequence : Nat
deriving DecidableEq, Repr

/-- Write states of the Store Controller (R138). A save holds the values it took when its write began (R103). -/
inductive WriteState where
  | idle
  | saving (values : SavedValues)
  | imageWrite
deriving DecidableEq, Repr

/-- The nonvolatile store (R137: an image of none is INVALID, saved values of none are ABSENT) and the state of the
Store Controller (R138). -/
structure Store where
  image : Option (List ImageRecord)
  saved : Option SavedValues
  write : WriteState
  saveWaiting : Bool
  imageWaiting : Bool
deriving DecidableEq, Repr

/-! ### Port Interfaces (chapter 11) -/

/-- A notice with its payload (R187). -/
inductive Notice where
  | granted (ticket handle : Nat) (overdraft grace : Bool)
  | waitEnded (ticket : Nat) (cause : WaitCause)
  | reclaimed (handle tag : Nat)
  | forced (handle tag : Nat) (by_ : Port)
  | poolShort (k : Pool)
  | poolClear (k : Pool)
  | term (code : Nat) (state : TermState)
  | image (issue : Nat)
deriving DecidableEq, Repr

/-- The kind enables of SET NOTICE (R190). -/
structure KindEnables where
  granted : Bool
  waitEnded : Bool
  reclaimed : Bool
  forced : Bool
  poolShort : Bool
  poolClear : Bool
  term : Bool
  image : Bool
deriving DecidableEq, Repr

/-- A port's notice settings (R190). -/
structure NoticeSettings where
  enables : KindEnables
  senses : Quad Sense
  attn : SignalMode
deriving DecidableEq, Repr

/-- A response in a port's buffer: status byte's two parts and payload (R185, R193). -/
structure Response where
  status : Status
  overrun : Bool
  payload : List Byte
deriving DecidableEq, Repr

/-- A Port Interface (R4, R5, R183 to R191). `sdo` is what SDOn carried in the last write or read transaction. -/
structure PortIf where
  state : PortState
  response : Option Response
  overrun : Bool
  notices : List Notice
  overflow : Bool
  settings : NoticeSettings
  pulse : Bool
  prst : Bool
  strapPins : Straps
  strapClass : Class
  effClass : Class
  sdo : List Byte
deriving DecidableEq, Repr

/-- What a request is judged by (R1, R5): a catalogue, and the effective class of its port. -/
structure Basis where
  catalogue : Catalogue
  effClass : Class
deriving DecidableEq, Repr

/-- A request that a port has passed on and whose owning block has not yet carried it out (R185). `under` is none
while the catalogue it was taken under is still the active one, and holds that catalogue and the port's effective class
once an activation has replaced it (R1, R57); only a request that outlasts a completion comes to that. -/
structure Request where
  port : Port
  command : Command
  payload : List Byte
  current : Bool
  under : Option Basis
deriving DecidableEq, Repr

/-! ### The whole part -/

/-- The state of the part, and the queue of the commands that wait. -/
structure State where
  powered : Bool
  resetPin : ResetState
  ports : Quad PortIf
  requests : List Request
  cat : Catalogue
  grant : GrantEngine
  watches : Quad Watch
  time : Timebase
  due : WindowEnds
  sweep : Sweep
  journal : Journal
  stager : Stager
  store : Store
  policy : Quad SiteFlags
  pending : List Instr
deriving DecidableEq, Repr

/-- The faults of the part: it has none. The spec gives every malformed frame and payload a reply and every event an
effect or none, so no command stops the machine and there is no constructor to raise. -/
inductive Fault where
deriving DecidableEq, Repr

/-- The refusals of the model. -/
inductive Refusal where
  /-- Raised by an arm of `exec` whose command has no meaning yet, with the row's mnemonic. Safe: the machine stops
  where the hardware goes on. No arm raises it. -/
  | notModelled (mnemonic : String)
deriving DecidableEq, Repr

/-! ### Values after power-on and after release of RESET -/

/-- Site flags after reset (R10, R158). -/
def SiteFlags.initial : SiteFlags := { enabled := true, queue := true, watchMask := false, termNotice := true }

/-- A policy staging record after reset (R158). -/
def SiteFlags.clear : SiteFlags := { enabled := false, queue := false, watchMask := false, termNotice := false }

/-- An empty feature slot with the reset flags (R18). -/
def FeatureSlot.empty : FeatureSlot := { feature := none, site := SiteFlags.initial, term := none }

/-- The catalogue of a device in NO_IMAGE (R18, R19). -/
def Catalogue.absent : Catalogue :=
  { head := none
    slots := List.replicate Config.featureSlots FeatureSlot.empty
    bundles := List.replicate Config.bundleSlots none }

/-- A pool's runtime fields after reset, but for the ceiling an image gives (R24). -/
def PoolState.initial : PoolState :=
  { ceiling := none, pendingCeiling := none, inUse := 0, held := Quad.fill 0, cap := Quad.fill 0, reserve := Quad.fill 0 }

/-- The Grant Engine after reset (R24, R46, R85). -/
def GrantEngine.initial : GrantEngine :=
  { table := List.replicate Config.checkoutSlots { generation := 1, entry := none }
    waitGens := List.replicate Config.waitSlots 1
    queue := []
    pools := Quad.fill PoolState.initial }

/-- A Demand Watch after reset, with the meter it keeps (R133). -/
def Watch.initial (meter : Nat) : Watch :=
  { tally := 0, history := List.replicate 8 false, watch := .clear, overdraft := .closed, meter := meter }

/-- No window end waits to be taken (R96). -/
def WindowEnds.zero : WindowEnds := { sweep := 0, grant := 0, demand := Quad.fill 0, port := Quad.fill 0 }

/-- The Timebase after reset in NO_IMAGE, with the term clock it keeps (R87 to R89, R94, R96, R101). -/
def Timebase.initial (clock : Nat) : Timebase :=
  { prescaler := 0, windowTimer := 0, minuteCount := 0, clock := clock
    mode := .auto, length := Config.noImageWindow, wclk := .spent }

/-- The Sweep Unit after reset (R109). -/
def Sweep.initial : Sweep :=
  { state := .idle, position := 0, limit := none, threshold := none, pendingEnd := false }

/-- The Journal after reset, with the sequence number it keeps (R181). -/
def Journal.initial (nextSeq : Nat) : Journal :=
  { fifo := [], rv := 0, gap := 0, nextSeq := nextSeq, batch := .idle, remaining := 0, bytePos := 0
    batchMode := .level, jreqPulses := 0, jendRecorder := false }

/-- The Image Stager with no staging (R141, R153). -/
def Stager.initial : Stager :=
  { state := .idle, port := none, area := [], summary := none, timer := 0 }

/-- The store of a part that leaves manufacture (R137), its controller idle (R138). -/
def Store.factory : Store :=
  { image := none, saved := none, write := .idle, saveWaiting := false, imageWaiting := false }

/-- Notice settings after reset (R190). -/
def NoticeSettings.initial : NoticeSettings :=
  { enables := { granted := true, waitEnded := true, reclaimed := true, forced := true, poolShort := true,
                 poolClear := true, term := true, image := true }
    senses := Quad.fill .both
    attn := .level }

/-- A Port Interface after reset, for the levels of its PRST pin and its strap pins, the strap class they give and its
effective class (R4, R5, R185, R187, R190, R191). -/
def PortIf.initial (prst : Bool) (pins : Straps) (strap eff : Class) : PortIf :=
  { state := .idle, response := none, overrun := false, notices := [], overflow := false
    settings := NoticeSettings.initial, pulse := false, prst := prst
    strapPins := pins, strapClass := strap, effClass := eff, sdo := [] }

/-- The part right after power-on as it leaves manufacture: an empty store (R137), so NO_IMAGE (R18, R136), and every
block at its power-on values. The strap pins are low and PRST is not asserted (log 9); the queue of commands is empty
(log 1). -/
def State.reset : State :=
  { powered := true
    resetPin := .released
    ports := Quad.fill (PortIf.initial false { pcl1 := false, pcl0 := false } 0 0)
    requests := []
    cat := Catalogue.absent
    grant := GrantEngine.initial
    watches := Quad.fill (Watch.initial 0)
    time := Timebase.initial 0
    due := WindowEnds.zero
    sweep := Sweep.initial
    journal := Journal.initial 0
    stager := Stager.initial
    store := Store.factory
    policy := Quad.fill SiteFlags.clear
    pending := [] }

end Sys2Proof.Machine
end

