-- ==== Sys2Proof/Machine/Catalogue.lean ====
section
/-! DEFINITION. The Catalogue (chapter 1): what image records mean, how the catalogue is loaded from them, lookups,
term states, privileges and effective classes. -/

namespace Sys2Proof.Machine

/-! ### Image records (R144, R193) -/

/-- Kind byte of a HEADER record (R193). -/
def kindHeader : Nat := 1
/-- Kind byte of a CLASS record. -/
def kindClass : Nat := 2
/-- Kind byte of a POOL record. -/
def kindPool : Nat := 3
/-- Kind byte of a FEATURE record. -/
def kindFeature : Nat := 4
/-- Kind byte of a BUNDLE record. -/
def kindBundle : Nat := 5
/-- Kind byte of a TRAILER record. -/
def kindTrailer : Nat := 6

/-- The record's kind byte is the one given. -/
def ImageRecord.isKind (r : ImageRecord) (kind : Nat) : Bool := r.kind.toNat == kind

/-- The first byte of a body: the class, pool or slot index of a CLASS, POOL, FEATURE or BUNDLE record (R193). -/
def ImageRecord.index (r : ImageRecord) : Nat := field r.body 0 1

/-- The seconds a window length code stands for (R193). -/
def windowSeconds : Nat → Nat
  | 0 => 15
  | 1 => 30
  | 2 => 60
  | 3 => 120
  | 4 => 300
  | _ => 600

/-- A port class map entry: 0x80 is STRAP, any other value a class (R193). -/
def classMapEntry (n : Nat) : Option Class := if n = 0x80 then none else some (Fin.ofNat 4 n)

/-- A HEADER body (R193). -/
def headerOf (body : List Byte) : Header :=
  { issue := field body 0 4
    issueMinute := field body 4 4
    windowLength := windowSeconds (field body 8 1)
    windowMode := if (field body 9 1).testBit 0 then .strobe else .auto
    threshold := field body 10 1
    boundary := field body 11 1
    classMap := Quad.ofFn fun p => classMapEntry (field body (12 + p.val) 1)
    batchLimit := field body 16 1
    requestMode := if (field body 9 1).testBit 1 then .pulse else .level }

/-- A CLASS body (R193). -/
def privilegesOf (body : List Byte) : Privileges :=
  { admin := (field body 1 1).testBit 0, time := (field body 1 1).testBit 1 }

/-- A POOL body (R193). -/
def poolRecOf (body : List Byte) : PoolRec :=
  { capacity := field body 1 3
    allowance := field body 4 3
    watchEnable := field body 7 1 == 1
    threshold := field body 8 3
    taps := field body 11 1
    quorum := field body 12 1 }

/-- A FEATURE body (R193). -/
def featureOf (body : List Byte) : Feature :=
  { code := field body 1 2
    pool := Fin.ofNat 4 (field body 3 1)
    rate := field body 4 1
    scales := Quad.ofFn fun c => field body (5 + c.val) 1
    maxQuantity := field body 9 1
    termStart := field body 10 4
    termEnd := field body 14 4
    grace := field body 18 2
    metered := (field body 20 1).testBit 0
    overdraftOk := (field body 20 1).testBit 1
    queueable := (field body 20 1).testBit 2 }

/-- The eight line positions of a BUNDLE body, each a feature index and a base quantity (R193). -/
def bundlePositions (body : List Byte) : List (Nat × Nat) :=
  (List.range 8).map fun i => (field body (4 + 2 * i) 1, field body (5 + 2 * i) 1)

/-- The held lines of a BUNDLE body: the positions before the first 255 (R12). -/
def bundleLines (body : List Byte) : List BundleLine :=
  ((bundlePositions body).takeWhile fun x => x.1 != 255).map fun x => { feature := x.1, base := x.2 }

/-- A BUNDLE body (R193). -/
def bundleOf (body : List Byte) : Bundle :=
  { code := field body 1 2, rebate := field body 3 1, lines := bundleLines body }

/-- The body of the record of a kind with an index, among records (R145: at most one). -/
def bodyAt (rs : List ImageRecord) (kind index : Nat) : Option (List Byte) :=
  (rs.find? fun r => r.isKind kind && r.index == index).map (·.body)

/-- The header, class and pool records of a list of records (R1). -/
def headOf (rs : List ImageRecord) : ImageHead :=
  { header := headerOf (((rs.find? fun r => r.isKind kindHeader).map (·.body)).getD [])
    classes := Quad.ofFn fun c => privilegesOf ((bodyAt rs kindClass c.val).getD [])
    pools := Quad.ofFn fun k => poolRecOf ((bodyAt rs kindPool k.val).getD []) }

/-! ### Term states -/

/-- The term state of a feature at a value of the term clock (R14). -/
def Feature.termAt (f : Feature) (clock : Nat) : TermState :=
  if clock < f.termStart then .pending
  else if clock < f.termEnd then .active
  else if clock < f.termEnd + f.grace then .grace
  else .lapsed

/-- A slot with the term state of a clock value stored (R15). -/
def FeatureSlot.atClock (sl : FeatureSlot) (clock : Nat) : FeatureSlot :=
  { sl with term := sl.feature.map fun f => f.termAt clock }

/-- Every present slot's term state stored from a clock value (R15). -/
def Catalogue.atClock (c : Catalogue) (clock : Nat) : Catalogue :=
  { c with slots := c.slots.map fun sl => sl.atClock clock }

/-! ### Loading -/

/-- The catalogue that image records give, with the site flags that a function of the feature code gives each present
slot, and term states from a clock value (R18, R20). Empty slots take the default flags (R167). -/
def catalogueOf (rs : List ImageRecord) (clock : Nat) (flags : Nat → SiteFlags) : Catalogue :=
  { head := some (headOf rs)
    slots := (List.range Config.featureSlots).map fun i =>
      match (bodyAt rs kindFeature i).map featureOf with
      | none => FeatureSlot.empty
      | some f => { feature := some f, site := flags f.code, term := some (f.termAt clock) }
    bundles := (List.range Config.bundleSlots).map fun i => (bodyAt rs kindBundle i).map bundleOf }

/-- The catalogue after power-on or release of RESET, from the store's image area (R18): default site flags. -/
def loadCatalogue (image : Option (List ImageRecord)) (clock : Nat) : Catalogue :=
  match image with
  | none => Catalogue.absent
  | some rs => catalogueOf rs clock fun _ => SiteFlags.initial

/-! ### Lookups (R11, R13) -/

/-- The slot at an index (an index above 63 finds an empty slot). -/
def Catalogue.slot (c : Catalogue) (i : Nat) : FeatureSlot := c.slots.getD i FeatureSlot.empty

/-- The present content of the slot at an index (R11, by index). -/
def Catalogue.feature (c : Catalogue) (i : Nat) : Option Feature := (c.slot i).feature

/-- The slot's feature carries the code. -/
def FeatureSlot.hasCode (sl : FeatureSlot) (code : Nat) : Bool :=
  match sl.feature with
  | none => false
  | some f => f.code == code

/-- The index of the present slot holding a code (R11, by code). -/
def Catalogue.findCode (c : Catalogue) (code : Nat) : Option Nat := c.slots.findIdx? fun sl => sl.hasCode code

/-- The lowest present slot at or above an index (R11, from a slot). -/
def Catalogue.findFrom (c : Catalogue) (i : Nat) : Option Nat :=
  (List.range Config.featureSlots).find? fun j => decide (i ≤ j) && (c.feature j).isSome

/-- The present bundle holding a code (R13). -/
def Catalogue.findBundle (c : Catalogue) (code : Nat) : Option Bundle :=
  (c.bundles.find? fun b => match b with | none => false | some b => b.code == code).join

/-- The slot at an index is locked against site policy (R10). -/
def Catalogue.locked (c : Catalogue) (i : Nat) : Bool :=
  match c.head with
  | none => false
  | some h => decide (h.header.boundary ≤ i)

/-- The pool record of a pool, where there is one (R7). -/
def Catalogue.poolRec (c : Catalogue) (k : Pool) : Option PoolRec := c.head.map fun h => h.pools.get k

/-- The capacity of a pool; 0 where there is no pool record. -/
def Catalogue.capacity (c : Catalogue) (k : Pool) : Nat := ((c.poolRec k).map (·.capacity)).getD 0

/-- The overdraft allowance of a pool; 0 where there is no pool record. -/
def Catalogue.allowance (c : Catalogue) (k : Pool) : Nat := ((c.poolRec k).map (·.allowance)).getD 0

/-- The stored term state of a line's feature in a catalogue: none for a line of no slot (R63, R106). -/
def Catalogue.lineTerm (c : Catalogue) (l : Line) : Option TermState := l.index.bind fun i => (c.slot i).term

/-- A property of the feature a line refers to; false for a line of no present slot. -/
def Catalogue.lineHas (c : Catalogue) (l : Line) (f : Feature → Bool) : Bool :=
  match l.index.bind c.feature with
  | none => false
  | some x => f x

/-! ### Device state, classes and privileges -/

/-- An image is active: SERVING (R136). -/
def Catalogue.serving (c : Catalogue) : Bool := c.head.isSome

/-- The device state is SERVING (R136). -/
def State.serving (s : State) : Bool := s.cat.serving

/-- The strap class of a port's pins: twice the level of PCLn1 plus the level of PCLn0, high counting as 1 (R4). -/
def strapClassOf (x : Straps) : Class := Fin.ofNat 4 (2 * x.pcl1.toNat + x.pcl0.toNat)

/-- The effective class of a port from its strap class and the class map (R5). -/
def effectiveClass (head : Option ImageHead) (strap : Class) (p : Port) : Class :=
  match head with
  | none => strap
  | some h => (h.header.classMap.get p).getD strap

/-- The privileges a basis gives: both in NO_IMAGE, else those of the effective class (R3, R5). -/
def Basis.privileges (b : Basis) : Privileges :=
  match b.catalogue.head with
  | none => { admin := true, time := true }
  | some h => h.classes.get b.effClass

/-- The basis is a catalogue in SERVING. -/
def Basis.serving (b : Basis) : Bool := b.catalogue.serving

/-- A request for the command that waits at the completion of an activation is carried out after it: a CHECKOUT and a
HEARTBEAT, judged by the catalogue they were taken under (R57, R108), and the two commands that read no catalogue. A
request for any other command is finished before the completion replaces the catalogue (R1, R152, R169; log 4). -/
def outlasts (c : Command) : Bool :=
  match c with
  | .checkout | .heartbeat | .readNotice | .setNotice => true
  | .returnCheckout | .returnTag | .releasePort | .queryCheckout | .cancelWait | .queryWait
  | .queryFeature | .queryPool | .timeAssert | .windowClose
  | .stageBegin | .stageRecord | .stageFinish | .activate | .stageAbort
  | .policyStage | .policyApply | .setCeiling | .setShare
  | .journalStatus | .identify => false

/-- The active catalogue and a port's effective class. -/
def State.activeBasis (s : State) (p : Port) : Basis := { catalogue := s.cat, effClass := (s.ports.get p).effClass }

/-- What a request is judged by: the catalogue and effective class it was taken under, which are the active ones unless a
completion has come in between (R1, R5, R6, R57). -/
def State.basis (s : State) (r : Request) : Basis :=
  if outlasts r.command then r.under.getD (s.activeBasis r.port) else s.activeBasis r.port

end Sys2Proof.Machine
end

