-- ==== Sys2Proof/Machine/Flags.lean ====
section
/-! DEFINITION. The codes and flag bytes of R193: how each enumerated value and each set of flags stands in a frame
or record, and how a byte of a request is read back as one. -/

namespace Sys2Proof.Machine

/-! ### Codes of enumerated fields -/

/-- Status codes, bits 3..0 of the status byte (R193). -/
def Status.code : Status → Nat
  | .ok => 0x0
  | .queued => 0x1
  | .denied => 0x2
  | .notFound => 0x3
  | .notPermitted => 0x4
  | .badRequest => 0x5
  | .frameError => 0x6
  | .notReady => 0x7
  | .stageHeld => 0x8
  | .storeBusy => 0x9
  | .timeHeld => 0xA

/-- Deny and queue reason codes (R193). -/
def Reason.code : Reason → Nat
  | .featureDisabled => 1
  | .featureInactive => 2
  | .classExcluded => 3
  | .quantityLimit => 4
  | .shareCap => 5
  | .held => 6
  | .overcommitted => 7
  | .reservedElsewhere => 8
  | .noTokens => 9
  | .tableFull => 10
  | .journalFull => 11

/-- WAIT_ENDED cause codes (R193). -/
def WaitCause.code : WaitCause → Nat
  | .expired => 1
  | .cancelled => 2
  | .failed => 3
  | .image => 4

/-- HEARTBEAT result codes (R193). -/
def BeatResult.code : BeatResult → Nat
  | .renewed => 0
  | .notFound => 1
  | .notOwner => 2
  | .lapsed => 3

/-- Verification codes (R193). -/
def VerifyCode.code : VerifyCode → Nat
  | .noTrailer => 1
  | .countMismatch => 2
  | .crcMismatch => 3
  | .issueNotNewer => 4
  | .fieldRange => 5
  | .codeInvalid => 6
  | .codeRepeated => 7
  | .termOrder => 8
  | .lineShape => 9
  | .lineAbsent => 10
  | .lineRepeated => 11
  | .lineQuantity => 12

/-- Term state codes (R193). -/
def TermState.code : TermState → Nat
  | .pending => 0
  | .active => 1
  | .grace => 2
  | .lapsed => 3

/-- A term state or none, which is carried as 255 (R193). -/
def termCode : Option TermState → Nat
  | some t => t.code
  | none => 255

/-- ATTN mode and journal request mode codes (R193). -/
def SignalMode.code : SignalMode → Nat
  | .level => 0
  | .pulse => 1

/-- Window mode codes (R193). -/
def WindowMode.code : WindowMode → Nat
  | .auto => 0
  | .strobe => 1

/-- Pool sense codes (R193). -/
def Sense.code : Sense → Nat
  | .off => 0
  | .toShort => 1
  | .toClear => 2
  | .both => 3
  | .level => 4

/-- The pool sense a code names; no code above 4 names one (R190, R193). -/
def Sense.ofCode : Nat → Option Sense
  | 0 => some .off
  | 1 => some .toShort
  | 2 => some .toClear
  | 3 => some .both
  | 4 => some .level
  | _ => none

/-- The mode a code names (R190, R193). -/
def SignalMode.ofCode : Nat → Option SignalMode
  | 0 => some .level
  | 1 => some .pulse
  | _ => none

/-- Staging state codes (R193). -/
def StagingState.code : StagingState → Nat
  | .idle => 0
  | .opened => 1
  | .complete => 2
  | .writing => 3

/-- Watch state codes (R193). -/
def WatchState.code : WatchState → Nat
  | .clear => 0
  | .short => 1

/-- Overdraft state codes (R193). -/
def OverdraftState.code : OverdraftState → Nat
  | .closed => 0
  | .opened => 1

/-- Batch state codes (R193). -/
def BatchState.code : BatchState → Nat
  | .idle => 0
  | .running => 1

/-- Journal record kind codes (R193). -/
def RecordKind.code : RecordKind → Nat
  | .grant => 1
  | .returned => 2
  | .forcedReturn => 3
  | .reclaim => 4
  | .deny => 5
  | .waitEnd => 6
  | .overdraftOpen => 7
  | .overdraftClose => 8
  | .image => 9
  | .time => 10

/-- The command a command code names (R193). -/
def commandOfCode : Nat → Option Command
  | 0x10 => some .checkout
  | 0x11 => some .returnCheckout
  | 0x12 => some .returnTag
  | 0x13 => some .releasePort
  | 0x14 => some .queryCheckout
  | 0x15 => some .heartbeat
  | 0x16 => some .cancelWait
  | 0x17 => some .queryWait
  | 0x18 => some .queryFeature
  | 0x19 => some .queryPool
  | 0x20 => some .timeAssert
  | 0x21 => some .windowClose
  | 0x30 => some .stageBegin
  | 0x31 => some .stageRecord
  | 0x32 => some .stageFinish
  | 0x33 => some .activate
  | 0x34 => some .stageAbort
  | 0x40 => some .policyStage
  | 0x41 => some .policyApply
  | 0x42 => some .setCeiling
  | 0x43 => some .setShare
  | 0x50 => some .journalStatus
  | 0x51 => some .readNotice
  | 0x52 => some .setNotice
  | 0x53 => some .identify
  | _ => none

/-- The code of a command (R193). -/
def commandCode : Command → Nat
  | .checkout => 0x10
  | .returnCheckout => 0x11
  | .returnTag => 0x12
  | .releasePort => 0x13
  | .queryCheckout => 0x14
  | .heartbeat => 0x15
  | .cancelWait => 0x16
  | .queryWait => 0x17
  | .queryFeature => 0x18
  | .queryPool => 0x19
  | .timeAssert => 0x20
  | .windowClose => 0x21
  | .stageBegin => 0x30
  | .stageRecord => 0x31
  | .stageFinish => 0x32
  | .activate => 0x33
  | .stageAbort => 0x34
  | .policyStage => 0x40
  | .policyApply => 0x41
  | .setCeiling => 0x42
  | .setShare => 0x43
  | .journalStatus => 0x50
  | .readNotice => 0x51
  | .setNotice => 0x52
  | .identify => 0x53

/-! ### Flag bytes -/

/-- OVERDRAFT, GRACE, ORPHAN, METERED in bits 0..3 (R193). -/
def CheckoutFlags.byte (f : CheckoutFlags) : List Byte := b1 (flagBits [f.overdraft, f.grace, f.orphan, f.metered])

/-- The flags OVERDRAFT and GRACE of a CHECKOUT reply or GRANTED notice (R52, R76, R193). -/
def grantFlagsByte (overdraft grace : Bool) : List Byte := b1 (flagBits [overdraft, grace])

/-- ENABLED, QUEUE, WATCH_MASK, TERM_NOTICE in bits 0..3 (R193). -/
def SiteFlags.bits (f : SiteFlags) : Nat := flagBits [f.enabled, f.queue, f.watchMask, f.termNotice]

/-- The site flags a byte of POLICY STAGE names; any other bit makes the payload malformed (R159, R193). -/
def SiteFlags.ofByte (n : Nat) : Option SiteFlags :=
  if n < 16 then
    some { enabled := n.testBit 0, queue := n.testBit 1, watchMask := n.testBit 2, termNotice := n.testBit 3 }
  else none

/-- ADMIN and TIME in bits 0 and 1, as in the CLASS record (R193). -/
def Privileges.byte (p : Privileges) : List Byte := b1 (flagBits [p.admin, p.time])

/-- METERED, OVERDRAFT_OK, QUEUEABLE in bits 0..2, as in the FEATURE record (R193). -/
def Feature.vendorByte (f : Feature) : List Byte := b1 (flagBits [f.metered, f.overdraftOk, f.queueable])

/-- The kind enables, GRANTED in bit 0 to IMAGE in bit 7 (R193). -/
def KindEnables.bits (e : KindEnables) : Nat :=
  flagBits [e.granted, e.waitEnded, e.reclaimed, e.forced, e.poolShort, e.poolClear, e.term, e.image]

/-- The kind enables a byte of SET NOTICE names (R190, R193). -/
def KindEnables.ofByte (n : Nat) : KindEnables :=
  { granted := n.testBit 0, waitEnded := n.testBit 1, reclaimed := n.testBit 2, forced := n.testBit 3
    poolShort := n.testBit 4, poolClear := n.testBit 5, term := n.testBit 6, image := n.testBit 7 }

/-! ### Fields with a value of none -/

/-- A pool index, or 255 where the reply carries none (R193). -/
def poolCode (k : Option Pool) : Nat :=
  match k with
  | some k => k.val
  | none => 255

/-- A feature index, or 255 for none (R193). -/
def indexCode (i : Option Nat) : Nat := i.getD 255

/-- A reason and its pool index (R81, R193). -/
def QueueReason.bytes (q : QueueReason) : List Byte := b1 q.reason.code ++ b1 (poolCode q.pool)

/-- A bundle code, 0 for none (R193). -/
def bundleCode (b : Option BundleRef) : Nat :=
  match b with
  | some r => r.code
  | none => 0

/-- A multiplier, 0 for none (R193). -/
def multiplierCode (b : Option BundleRef) : Nat :=
  match b with
  | some r => r.multiplier
  | none => 0

/-- A notice's kind and payload as READ NOTICE carries them (R187, R189, R193). -/
def Notice.bytes : Notice → List Byte
  | .granted t h o g => b1 1 ++ b2 t ++ b2 h ++ grantFlagsByte o g
  | .waitEnded t c => b1 2 ++ b2 t ++ b1 c.code
  | .reclaimed h t => b1 3 ++ b2 h ++ b4 t
  | .forced h t q => b1 4 ++ b2 h ++ b4 t ++ b1 q.val
  | .poolShort k => b1 5 ++ b1 k.val
  | .poolClear k => b1 6 ++ b1 k.val
  | .term c st => b1 7 ++ b2 c ++ b1 st.code
  | .image i => b1 8 ++ b4 i

/-- A port's notice settings as SET NOTICE carries them (R190, R193). -/
def NoticeSettings.bytes (n : NoticeSettings) : List Byte :=
  b1 n.enables.bits ++ n.senses.toList.flatMap (fun x => b1 x.code) ++ b1 n.attn.code

/-- The 32 bytes of a journal record (R193). -/
def JournalRecord.bytes (r : JournalRecord) : List Byte :=
  b4 r.sequence ++ b1 r.kind.code ++
    b1 (r.port.val + 4 * flagBits [r.overdraft, r.grace, r.orphan, r.forced]) ++
    b2 r.gap ++ b4 r.minute ++ b2 r.handle ++ b4 r.tag ++ b2 r.code ++ tokens r.charges

/-- The status byte: the code in bits 3..0 and OVERRUN in bit 7 (R193). -/
def Response.statusByte (r : Response) : Byte := BitVec.ofNat 8 (r.status.code + if r.overrun then 128 else 0)

/-- The response frame as SDOn carries it: status, length, payload, CRC-8 (R183, R184, R193). -/
def Response.frame (r : Response) : List Byte :=
  let covered := r.statusByte :: BitVec.ofNat 8 r.payload.length :: r.payload
  covered ++ [crc8 covered]

end Sys2Proof.Machine
end

