-- ==== Sys2Proof/Machine/JournalOps.lean ====
section
/-! DEFINITION. The operations of the Journal (chapter 10): records written, skipped and converted, and the batch that
drains them. -/

namespace Sys2Proof.Machine

/-- What an event gives a record; the Journal adds sequence, gap and minute (R171, R174). -/
structure RecordBody where
  kind : RecordKind
  port : Fin 4
  overdraft : Bool
  grace : Bool
  orphan : Bool
  forced : Bool
  handle : Nat
  tag : Nat
  code : Nat
  charges : Quad Nat
deriving DecidableEq, Repr

/-- A record body with every flag clear (R174). -/
def RecordBody.plain (kind : RecordKind) (port : Fin 4) (handle tag code : Nat) (charges : Quad Nat) : RecordBody :=
  { kind := kind, port := port, overdraft := false, grace := false, orphan := false, forced := false
    handle := handle, tag := tag, code := code, charges := charges }

/-- The record a body becomes when it is written with the journal and term clock as they stand (R171). -/
def Journal.record (j : Journal) (minute : Nat) (b : RecordBody) : JournalRecord :=
  { sequence := j.nextSeq, kind := b.kind, port := b.port, overdraft := b.overdraft, grace := b.grace
    orphan := b.orphan, forced := b.forced, gap := j.gap, minute := minute, handle := b.handle, tag := b.tag
    code := b.code, charges := b.charges }

/-- A record is written (R171): appended, the sequence number rises with wrap, the gap count returns to 0. -/
def Journal.write (j : Journal) (minute : Nat) (b : RecordBody) : Journal :=
  { j with fifo := j.fifo ++ [j.record minute b], nextSeq := (j.nextSeq + 1) % (Config.maxWord + 1), gap := 0 }

/-- There are `n` places free beyond the records and reservations (R51, R173): O + Rv + n ≤ 512. -/
def Journal.room (j : Journal) (n : Nat) : Bool := decide (j.fifo.length + j.rv + n ≤ Config.journalPlaces)

/-- A droppable record is written, or skipped and counted (R173). -/
def Journal.writeDroppable (j : Journal) (minute : Nat) (b : RecordBody) : Journal :=
  if j.room 1 then j.write minute b else { j with gap := min Config.maxGap (j.gap + 1) }

/-- A record written with the term clock as it stands. -/
def State.record (s : State) (b : RecordBody) : State := { s with journal := s.journal.write s.time.clock b }

/-- A droppable record with the term clock as it stands. -/
def State.recordDroppable (s : State) (b : RecordBody) : State :=
  { s with journal := s.journal.writeDroppable s.time.clock b }

/-- A metered grant's GRANT record and reservation (R52, R172). -/
def State.recordGrant (s : State) (b : RecordBody) : State :=
  { s with journal := { s.journal.write s.time.clock b with rv := s.journal.rv + 1 } }

/-- A metered release's record, written in the place of its reservation without a space test (R58, R172). -/
def State.recordRelease (s : State) (b : RecordBody) : State :=
  { s with journal := { s.journal.write s.time.clock b with rv := s.journal.rv - 1 } }

/-! ### The journal port -/

/-- The record presented: the oldest, while a batch runs (R177). -/
def Journal.presented (j : Journal) : Option JournalRecord :=
  match j.batch with
  | .idle => none
  | .running => j.fifo.head?

/-- JD7..JD0 while a record is presented (R177): its byte at the byte position, and 0 at position 32. The spec gives
them no value otherwise (log 21). While RESET is asserted they keep the byte that the Journal's fields give (log 37). -/
def Journal.jd (j : Journal) : Option Byte := j.presented.map fun r => r.bytes.getD j.bytePos 0#8

/-- JREQ is held asserted: LEVEL mode, from the beginning of a batch to its end (R178). While RESET is asserted it stays at
the level of the Journal's fields, which the release sets; R178 and R181 speak of the release alone (log 37). -/
def Journal.jreqLevel (j : Journal) : Bool := j.batch == .running && j.batchMode == .level

/-- The part drives JEND: while it presents the last record of a batch (R179), and through RESET as JREQ (log 37). -/
def Journal.jendDriven (j : Journal) : Bool := j.batch == .running && j.remaining == 1

/-- JEND is asserted: the part or the recorder drives it (R179). -/
def Journal.jend (j : Journal) : Bool := j.jendDriven || j.jendRecorder

/-- A record is presented from its first byte, with a pulse on JREQ in PULSE mode (R177, R178). -/
def Journal.present (j : Journal) : Journal :=
  { j with bytePos := 0, jreqPulses := if j.batchMode = .pulse then j.jreqPulses + 1 else j.jreqPulses }

/-- A batch of at most `limit` records begins (R176). -/
def Journal.beginBatch (j : Journal) (limit : Nat) (mode : SignalMode) : Journal :=
  { j with batch := .running, remaining := min j.fifo.length limit, batchMode := mode }.present

/-- A batch ends (R179). -/
def Journal.endBatch (j : Journal) : Journal := { j with batch := .idle, remaining := 0, bytePos := 0 }

/-- The presented record is acknowledged: it leaves the FIFO, and JEND is judged (R177, R179). -/
def Journal.acknowledge (j : Journal) : Journal :=
  let j' := { j with fifo := j.fifo.tail, remaining := j.remaining - 1 }
  if j'.remaining = 0 ∨ j.jend = true then j'.endBatch else j'.present

/-- A JACK rising edge (R177): early, it presents the record again; after all 32 bytes, it acknowledges. -/
def Journal.jack (j : Journal) : Journal :=
  match j.batch with
  | .idle => j
  | .running => if j.bytePos = Config.recordBytes then j.acknowledge else j.present

/-- A JCLK rising edge (R177). -/
def Journal.jclk (j : Journal) : Journal :=
  match j.batch with
  | .idle => j
  | .running => if j.bytePos < Config.recordBytes then { j with bytePos := j.bytePos + 1 } else j

end Sys2Proof.Machine
end

