-- ==== Sys2Proof/Machine/Ports.lean ====
section
/-! DEFINITION. The operations of a Port Interface (chapter 11): attention, notices, responses. -/

namespace Sys2Proof.Machine

/-! ### Attention (R191) -/

/-- A cause of attention: in PULSE mode it starts or restarts a pulse, but not while PRST is asserted (log 20). -/
def PortIf.attend (p : PortIf) : PortIf :=
  if p.settings.attn = .pulse ∧ p.prst = false then { p with pulse := true } else p

/-- ATTNn is asserted (R191), for a port of a part that has supply and is out of RESET. -/
def PortIf.attn (p : PortIf) : Bool :=
  !p.prst &&
    match p.settings.attn with
    | .level => p.state == .answered || !p.notices.isEmpty
    | .pulse => p.pulse

/-! ### Notices (R187, R188) -/

/-- The kind enable for a notice (R187). -/
def NoticeSettings.allows (n : NoticeSettings) : Notice → Bool
  | .granted .. => n.enables.granted
  | .waitEnded .. => n.enables.waitEnded
  | .reclaimed .. => n.enables.reclaimed
  | .forced .. => n.enables.forced
  | .poolShort .. => n.enables.poolShort
  | .poolClear .. => n.enables.poolClear
  | .term .. => n.enables.term
  | .image .. => n.enables.image

/-- The port's pool sense passes the notice on (R188); notices of other kinds have no sense. -/
def PortIf.sensePasses (p : PortIf) : Notice → Bool
  | .poolShort k =>
    match p.settings.senses.get k with
    | .toShort => true
    | .both => true
    | .level => !p.notices.contains (.poolShort k)
    | .off => false
    | .toClear => false
  | .poolClear k =>
    match p.settings.senses.get k with
    | .toClear => true
    | .both => true
    | .off => false
    | .toShort => false
    | .level => false
  | .granted .. => true
  | .waitEnded .. => true
  | .reclaimed .. => true
  | .forced .. => true
  | .term .. => true
  | .image .. => true

/-- A notice handed to the port, judged when it arrives (R187, R188). -/
def PortIf.hand (p : PortIf) (x : Notice) : PortIf :=
  if p.sensePasses x = false then p
  else if p.settings.allows x = false then p
  else if Config.noticePlaces ≤ p.notices.length then { p with overflow := true }
  else { p with notices := p.notices ++ [x] }.attend

/-- Notices handed to the port one after another. -/
def PortIf.handAll (p : PortIf) (xs : List Notice) : PortIf := xs.foldl PortIf.hand p

/-- A notice handed to one port. -/
def State.notify (s : State) (p : Port) (x : Notice) : State :=
  { s with ports := s.ports.modify p fun q => q.hand x }

/-- Notices handed to every port. -/
def State.notifyAll (s : State) (xs : List Notice) : State :=
  { s with ports := s.ports.map fun q => q.handAll xs }

/-! ### Responses (R185) -/

/-- What an owning block answers: a status and a payload. -/
structure Reply where
  status : Status
  payload : List Byte
deriving DecidableEq, Repr

/-- A reply of a status alone. -/
def Reply.bare (st : Status) : Reply := { status := st, payload := [] }

/-- An OK reply. -/
def Reply.ok (payload : List Byte) : Reply := { status := .ok, payload := payload }

/-- A response is placed in the buffer: the port is ANSWERED, the response carries the overrun mark, and the mark is
cleared (R185). -/
def PortIf.place (p : PortIf) (r : Reply) : PortIf :=
  { p with
    state := .answered
    response := some { status := r.status, overrun := p.overrun, payload := r.payload }
    overrun := false }

/-- The port enters ANSWERED with a response, which is a cause of attention (R185, R191). -/
def PortIf.answer (p : PortIf) (r : Reply) : PortIf := (p.place r).attend

/-- The response of a request is ready: placed when the request is current, discarded otherwise (R185). -/
def State.respond (s : State) (req : Request) (r : Reply) : State :=
  if req.current then { s with ports := s.ports.modify req.port fun q => q.answer r } else s

/-- The port after PRST is asserted (R186): IDLE, empty buffer, no notices; ATTN is released (R191). What R186 lists as
kept is kept. -/
def PortIf.portReset (p : PortIf) : PortIf :=
  { p with state := .idle, response := none, overrun := false, notices := [], overflow := false, pulse := false
           prst := true }

/-- A port answers a frame itself, with a frame error or an unknown command (R185): in WORKING the frame is dropped and
the overrun mark set; in ANSWERED the unread response is discarded and the port stays ANSWERED. -/
def PortIf.answerItself (p : PortIf) (st : Status) : PortIf :=
  match p.state with
  | .idle => p.answer (.bare st)
  | .working => { p with overrun := true }
  | .answered => p.place (.bare st)

/-- SDOn's bytes of a transaction that reads 0xFF throughout (R183). -/
def silentBytes (n : Nat) : List Byte := List.replicate n 0xFF#8

end Sys2Proof.Machine
end

