-- ==== Sys2Proof/Machine/Grant.lean ====
section
/-! DEFINITION. The Grant Engine's operations (chapters 2 to 4): charges and the fit test, handles and tickets, grant and
release, waiting entries and the queue pass. -/

namespace Sys2Proof.Machine

/-! ### Charges (R26 to R30) -/

/-- A line's cost: rate × quantity × scale / 16, rounded up (R29). -/
def lineCost (rate quantity scale : Nat) : Nat := (rate * quantity * scale + 15) / 16

/-- The total of the line costs on a pool (R30). -/
def poolTotal (lines : List Line) (k : Pool) : Nat := ((lines.filter fun l => l.pool = k).map (·.cost)).sum

/-- A pool total less the rebate, whose reduction is rounded down (R30). -/
def chargeOf (total rebate : Nat) : Nat := total - total * rebate / 64

/-- The four pool charges of lines under a rebate (R30). -/
def chargesOf (lines : List Line) (rebate : Nat) : Quad Nat := Quad.ofFn fun k => chargeOf (poolTotal lines k) rebate

/-- The pool is in the pools-needed set of the charges (R26). -/
def needs (charges : Quad Nat) (k : Pool) : Bool := decide (1 ≤ charges.get k)

/-- The code a record carries for a request: its bundle code, or its first line's feature code (R52). -/
def requestCode (bundle : Option BundleRef) (lines : List Line) : Nat :=
  match bundle with
  | some b => b.code
  | none => (lines.head?.map (·.code)).getD 0

/-! ### Pools (R22 to R25, R31 to R37) -/

/-- The runtime fields of a pool. -/
def State.pool (s : State) (k : Pool) : PoolState := s.grant.pools.get k

/-- The site ceiling of a pool; 0 while it is absent (no request is judged then, R24). -/
def State.ceiling (s : State) (k : Pool) : Nat := (s.pool k).ceiling.getD 0

/-- The number of waiting entries whose pools-needed set has the pool (R23). -/
def State.waitingCount (s : State) (k : Pool) : Nat := (s.grant.queue.filter fun e => needs e.charges k).length

/-- The pool's overdraft is OPEN. -/
def State.overdraftOpen (s : State) (k : Pool) : Bool := (s.watches.get k).overdraft == .opened

/-- Every line that draws on the pool is on an OVERDRAFT_OK feature (R31). -/
def overdraftOk (c : Catalogue) (lines : List Line) (k : Pool) : Bool :=
  (lines.filter fun l => l.pool = k).all fun l => c.lineHas l (·.overdraftOk)

/-- The effective limit of a pool for a request whose lines on it are all OVERDRAFT_OK or not (R31), with the overdraft
allowance of the catalogue the request is judged by (R1, R7, R57). -/
def State.effectiveLimit (s : State) (c : Catalogue) (k : Pool) (ok : Bool) : Nat :=
  if s.overdraftOpen k && ok then s.ceiling k + c.allowance k else s.ceiling k

/-- The others' unused reserve (R32): what each other port's reserve exceeds its holding by, where it does. -/
def State.othersUnused (s : State) (k : Pool) (p : Port) : Nat :=
  (Quad.ofFn fun q => if q = p then 0 else (s.pool k).reserve.get q - (s.pool k).held.get q).sum

/-- The fit test of a pool (R33): no reason when it fits. -/
def State.fitReason (s : State) (c : Catalogue) (p : Port) (k : Pool) (charge : Nat) (ok : Bool) : Option Reason :=
  let limit := s.effectiveLimit c k ok
  let used := (s.pool k).inUse
  if used + charge + s.othersUnused k p ≤ limit then none
  else if limit < used then some .overcommitted
  else if used + charge ≤ limit then some .reservedElsewhere
  else some .noTokens

/-- The share cap test of a pool fails (R34). -/
def State.shareCapFails (s : State) (p : Port) (k : Pool) (charge : Nat) : Bool :=
  (s.pool k).cap.get p != 0 && decide ((s.pool k).cap.get p < (s.pool k).held.get p + charge)

/-- The first failure of one pool (R48, R75): the share cap test, then the HELD test where it applies, then the fit
test. -/
def State.poolReason (s : State) (c : Catalogue) (p : Port) (k : Pool) (charge : Nat) (ok held : Bool) :
    Option Reason :=
  if s.shareCapFails p k charge then some .shareCap
  else if held then some .held
  else s.fitReason c p k charge ok

/-- The first failing pool of the pools-needed set, in index order (R48, R50, R75). -/
def State.poolFailure (s : State) (c : Catalogue) (p : Port) (charges : Quad Nat) (ok held : Pool → Bool) :
    Option QueueReason :=
  fours.findSome? fun k =>
    if needs charges k then
      (s.poolReason c p k (charges.get k) (ok k) (held k)).map fun r => { reason := r, pool := some k }
    else none

/-- The HELD test of stage 3 (R48, R72): some waiting entry blocks the pool. -/
def State.heldByQueue (s : State) (k : Pool) : Bool := s.grant.queue.any fun e => e.blocking && needs e.charges k

/-- Tokens taken from a pool by a port (R36). -/
def PoolState.take (q : PoolState) (p : Port) (n : Nat) : PoolState :=
  { q with inUse := q.inUse + n, held := q.held.modify p (· + n) }

/-- Tokens given back to a pool by a port (R37). -/
def PoolState.give (q : PoolState) (p : Port) (n : Nat) : PoolState :=
  { q with inUse := q.inUse - n, held := q.held.modify p (· - n) }

/-- Pool states replaced. -/
def State.withPools (s : State) (pools : Quad PoolState) : State := { s with grant := { s.grant with pools := pools } }

/-- A grant's charges applied to every pool together (R36). -/
def State.applyCharges (s : State) (p : Port) (charges : Quad Nat) : State :=
  s.withPools (Quad.ofFn fun k => (s.pool k).take p (charges.get k))

/-- A release's charges credited to every pool together (R37). -/
def State.creditCharges (s : State) (p : Port) (charges : Quad Nat) : State :=
  s.withPools (Quad.ofFn fun k => (s.pool k).give p (charges.get k))

/-! ### New capacities (R168) -/

/-- The reserves of a pool cut to a capacity, from port 3 down (R168, step 3). -/
def cutReserves (capacity : Nat) (r : Quad Nat) : Quad Nat :=
  let e := r.sum - capacity
  let e2 := e - r.q3
  let e1 := e2 - r.q2
  let e0 := e1 - r.q1
  { q0 := r.q0 - e0, q1 := r.q1 - e1, q2 := r.q2 - e2, q3 := r.q3 - e }

/-- A pool's runtime fields brought to a new capacity (R25, R168). -/
def PoolState.toCapacity (q : PoolState) (serving : Bool) (capacity : Nat) : PoolState :=
  if serving then
    { q with ceiling := q.ceiling.map (min capacity), cap := q.cap.map (min capacity)
             reserve := cutReserves capacity q.reserve }
  else { q with ceiling := some capacity, cap := Quad.fill 0, reserve := Quad.fill 0 }

/-! ### The checkout table (R41 to R45) -/

/-- The handle of a slot under a generation (R43). -/
def handleOf (generation slot : Nat) : Nat := generation * 256 + slot

/-- The generation after a checkout slot is freed (R45). -/
def nextGeneration (g : Nat) : Nat := if Config.lastCheckoutGeneration ≤ g then 1 else g + 1

/-- The lowest-numbered FREE slot (R44). -/
def State.freeSlot (s : State) : Option Nat := s.grant.table.findIdx? fun c => c.entry.isNone

/-- The checkout in a slot, when it is HELD. -/
def State.checkoutAt (s : State) (slot : Nat) : Option Checkout := (s.grant.table[slot]?).bind (·.entry)

/-- The generation of a slot. -/
def State.generationAt (s : State) (slot : Nat) : Nat := ((s.grant.table[slot]?).map (·.generation)).getD 1

/-- A slot of the table replaced. -/
def State.setSlot (s : State) (slot : Nat) (c : CheckoutSlot) : State :=
  { s with grant := { s.grant with table := s.grant.table.set slot c } }

/-- The checkout that a handle finds, with its slot (R43). -/
def State.findHandle (s : State) (h : Nat) : Option (Nat × Checkout) :=
  match s.checkoutAt (h % 256) with
  | some e => if s.generationAt (h % 256) = h / 256 then some (h % 256, e) else none
  | none => none

/-! ### Grant (R52, R53, R76) -/

/-- What a grant is made from: a judged request, or a waiting entry. `capacities` are those of the pool records it is
judged by (R1, R57). -/
structure GrantOrder where
  owner : Port
  tag : Nat
  bundle : Option BundleRef
  lines : List Line
  charges : Quad Nat
  capacities : Quad Nat
  grace : Bool
  metered : Bool
deriving DecidableEq, Repr

/-- The OVERDRAFT flag of a grant (R36, R53): after its charges some pool of the request stands above capacity. -/
def State.overdraftAfter (s : State) (g : GrantOrder) : Bool :=
  fours.any fun k => needs g.charges k && decide (g.capacities.get k < (s.pool k).inUse + g.charges.get k)

/-- The checkout entry a grant creates (R41, R53). -/
def State.grantEntry (s : State) (g : GrantOrder) : Checkout :=
  { owner := g.owner, tag := g.tag, bundle := g.bundle, lines := g.lines, charges := g.charges
    flags := { overdraft := s.overdraftAfter g, grace := g.grace, orphan := g.lines.any (·.orphan), metered := g.metered }
    grantedMinute := s.time.clock, renewed := true, missed := 0 }

/-- The GRANT record's content (R52, R174). -/
def State.grantBody (s : State) (slot : Nat) (g : GrantOrder) : RecordBody :=
  { RecordBody.plain .grant g.owner (handleOf (s.generationAt slot) slot) g.tag (requestCode g.bundle g.lines) g.charges with
    overdraft := s.overdraftAfter g, grace := g.grace }

/-- A grant into a FREE slot, all its effects together (R52). -/
def State.grantInto (s : State) (slot : Nat) (g : GrantOrder) : State :=
  let s' := (s.applyCharges g.owner g.charges).setSlot slot
    { generation := s.generationAt slot, entry := some (s.grantEntry g) }
  if g.metered then s'.recordGrant (s.grantBody slot g) else s'

/-! ### Release (R58) -/

/-- The release record's content (R58, R174): FORCED is set on a forced return alone. -/
def State.releaseBody (s : State) (slot : Nat) (e : Checkout) (kind : RecordKind) : RecordBody :=
  { RecordBody.plain kind e.owner (handleOf (s.generationAt slot) slot) e.tag (requestCode e.bundle e.lines) e.charges with
    overdraft := e.flags.overdraft, grace := e.flags.grace, orphan := e.flags.orphan, forced := kind == .forcedReturn }

/-- The release of the checkout `e` in a slot, with the record kind its cause gives (R58): charges credited, slot freed
and its generation advanced, a metered reservation converted. -/
def State.release (s : State) (slot : Nat) (e : Checkout) (kind : RecordKind) : State :=
  let s' := (s.creditCharges e.owner e.charges).setSlot slot
    { generation := nextGeneration (s.generationAt slot), entry := none }
  if e.flags.metered then s'.recordRelease (s.releaseBody slot e kind) else s'

/-- The release of whatever checkout a slot holds. -/
def State.releaseSlot (s : State) (kind : RecordKind) (slot : Nat) : State :=
  match s.checkoutAt slot with
  | some e => s.release slot e kind
  | none => s

/-- The slots whose checkout satisfies a condition, in slot order (R61, R62). -/
def State.slotsWhere (s : State) (f : Checkout → Bool) : List Nat :=
  (List.range s.grant.table.length).filter fun i => match s.checkoutAt i with | some e => f e | none => false

/-- The charges of some slots' checkouts, added up pool by pool (R61). -/
def State.totalCharges (s : State) (slots : List Nat) : Quad Nat :=
  Quad.ofFn fun k => (slots.map fun i => match s.checkoutAt i with | some e => e.charges.get k | none => 0).sum

/-! ### Reconciliation (R67) -/

/-- A line reconciled with a catalogue by its feature code (R67). -/
def Line.reconcile (c : Catalogue) (l : Line) : Line :=
  match c.findCode l.code with
  | some i => { l with index := some i, orphan := false }
  | none => { l with index := none, orphan := true }

/-- A checkout reconciled with a catalogue: its lines, and the ORPHAN flag they give (R67). -/
def Checkout.reconcile (c : Catalogue) (e : Checkout) : Checkout :=
  let lines := e.lines.map (Line.reconcile c)
  { e with lines := lines, flags := { e.flags with orphan := lines.any (·.orphan) } }

/-! ### Waiting entries (R69 to R72, R79) -/

/-- The ticket of a wait slot under a generation (R70). -/
def ticketOf (generation slot : Nat) : Nat := Config.ticketBase + generation * 32 + slot

/-- The generation after a wait slot is freed (R70). -/
def nextWaitGeneration (g : Nat) : Nat := if Config.lastWaitGeneration ≤ g then 1 else g + 1

/-- The generation of a wait slot. -/
def State.waitGeneration (s : State) (slot : Nat) : Nat := s.grant.waitGens.getD slot 1

/-- The ticket of a waiting entry (R70). -/
def State.ticket (s : State) (e : WaitEntry) : Nat := ticketOf (s.waitGeneration e.slot) e.slot

/-- The waiting entry in a wait slot. -/
def State.waiting (s : State) (slot : Nat) : Option WaitEntry := s.grant.queue.find? fun e => e.slot == slot

/-- The lowest-numbered FREE wait slot (R71). -/
def State.freeWaitSlot (s : State) : Option Nat :=
  (List.range s.grant.waitGens.length).find? fun i => (s.waiting i).isNone

/-- The waiting entry a ticket finds (R70). -/
def State.findTicket (s : State) (t : Nat) : Option WaitEntry :=
  let u := t - Config.ticketBase
  (s.waiting (u % 32)).filter fun e => s.waitGeneration e.slot == u / 32

/-- The number of entries created before the entry of a wait slot and still in the queue (R71). -/
def State.entriesAhead (s : State) (slot : Nat) : Nat := (s.grant.queue.takeWhile fun e => e.slot != slot).length

/-- The queue replaced. -/
def State.withQueue (s : State) (queue : List WaitEntry) : State := { s with grant := { s.grant with queue := queue } }

/-- The entry of a wait slot changed, in its place. -/
def State.updateEntry (s : State) (slot : Nat) (f : WaitEntry → WaitEntry) : State :=
  s.withQueue (s.grant.queue.map fun e => if e.slot = slot then f e else e)

/-- An entry leaves the queue: its slot is FREE under the next generation (R70, R79). -/
def State.leaveQueue (s : State) (e : WaitEntry) : State :=
  { s with grant := { s.grant with
      queue := s.grant.queue.filter fun x => x.slot != e.slot
      waitGens := s.grant.waitGens.set e.slot (nextWaitGeneration (s.waitGeneration e.slot)) } }

/-- The WAIT_END record's content (R79, R174). -/
def State.waitEndBody (s : State) (e : WaitEntry) : RecordBody :=
  RecordBody.plain .waitEnd e.port (s.ticket e) e.tag (requestCode e.bundle e.lines) e.charges

/-- An entry is removed without a grant: it leaves the queue, the cause's notice goes to its port where the cause has
one, and a droppable WAIT_END record is written (R79). -/
def State.endWait (s : State) (cause : Option WaitCause) (e : WaitEntry) : State :=
  let s' := s.leaveQueue e
  let s'' := match cause with
    | some c => s'.notify e.port (.waitEnded (s.ticket e) c)
    | none => s'
  s''.recordDroppable (s.waitEndBody e)

/-- Entries removed one after another, in the order given. -/
def State.endWaits (s : State) (cause : Option WaitCause) (es : List WaitEntry) : State :=
  es.foldl (fun s e => s.endWait cause e) s

/-! ### The queue pass (R73 to R77) -/

/-- The re-check of an entry's lines against the active catalogue fails (R74). -/
def State.recheckFails (s : State) (e : WaitEntry) : Bool :=
  e.lines.any fun l =>
    match l.index with
    | none => true
    | some i =>
      !(s.cat.slot i).site.enabled ||
        (match (s.cat.slot i).term with
          | some .pending => true
          | some .lapsed => true
          | some .active => false
          | some .grace => false
          | none => true)

/-- The entry needs a pool of the blocked set (R74). -/
def anyBlocked (blocked : Quad Bool) (charges : Quad Nat) : Bool := fours.any fun k => blocked.get k && needs charges k

/-- The blocked set with every pool of the entry added (R75). -/
def blockAll (blocked : Quad Bool) (charges : Quad Nat) : Quad Bool :=
  Quad.ofFn fun k => blocked.get k || needs charges k

/-- The grant a waiting entry asks for, judged now (R76). -/
def State.orderOf (s : State) (e : WaitEntry) : GrantOrder :=
  { owner := e.port, tag := e.tag, bundle := e.bundle, lines := e.lines, charges := e.charges
    capacities := Quad.ofFn s.cat.capacity
    grace := e.lines.any fun l => s.cat.lineTerm l == some .grace
    metered := e.lines.any fun l => s.cat.lineHas l (·.metered) }

/-- A waiting entry granted into a FREE slot (R76): the grant, the entry's leaving, the GRANTED notice. -/
def State.grantWaiting (s : State) (slot : Nat) (e : WaitEntry) : State :=
  let g := s.orderOf e
  ((s.grantInto slot g).leaveQueue e).notify e.port
    (.granted (s.ticket e) (handleOf (s.generationAt slot) slot) (s.overdraftAfter g) g.grace)

/-- The first pool failure of an entry in a pass (R75): the HELD test is not applied. -/
def State.entryFailure (s : State) (e : WaitEntry) : Option QueueReason :=
  s.poolFailure s.cat e.port e.charges (fun k => overdraftOk s.cat e.lines k) fun _ => false

/-- How a queue pass ended: the state it left, the pools it had blocked, and the entries it did not visit (R74, R77). -/
structure PassResult where
  state : State
  blocked : Quad Bool
  unvisited : List WaitEntry

/-- The rest of a queue pass over entries, oldest first, with the blocked set so far (R74, R75, R77). An entry that fits
while the table is full takes the last reason TABLE_FULL and ends the pass: the entries after it are not visited (R44,
R77). -/
def State.passOver (s : State) (blocked : Quad Bool) : List WaitEntry → PassResult
  | [] => { state := s, blocked := blocked, unvisited := [] }
  | e :: es =>
    if anyBlocked blocked e.charges then s.passOver blocked es
    else if s.recheckFails e then (s.endWait (some .failed) e).passOver blocked es
    else
      match s.entryFailure e with
      | some r =>
        if r.reason = .shareCap then
          (s.updateEntry e.slot fun x => { x with blocking := false, last := r }).passOver blocked es
        else
          (s.updateEntry e.slot fun x => { x with blocking := true, last := r }).passOver (blockAll blocked e.charges) es
      | none =>
        match s.freeSlot with
        | none =>
          { state := s.updateEntry e.slot fun x => { x with last := { reason := .tableFull, pool := none } }
            blocked := blocked, unvisited := es }
        | some slot =>
          if (s.orderOf e).metered && !s.journal.room 2 then s.passOver blocked es
          else (s.grantWaiting slot e).passOver blocked es

/-- A queue pass with how it ended (R73, R74): the blocked set is empty when it starts. -/
def State.pass (s : State) : PassResult := s.passOver (Quad.fill false) s.grant.queue

/-- A queue pass (R73 to R77). -/
def State.queuePass (s : State) : State := s.pass.state

/-- The entries a pass left unvisited that R162 has a POLICY APPLY remove: those whose re-check fails and none of whose
pools the pass had blocked. -/
def PassResult.failing (r : PassResult) : List WaitEntry :=
  r.unvisited.filter fun e => !anyBlocked r.blocked e.charges && r.state.recheckFails e

/-- What follows the flag changes of a POLICY APPLY, in one judgement with them (R162): the queue pass, which ends at a
full table as every pass does (R77), and the removal of the entries behind that end whose re-check fails, unless an older
entry blocks one of their pools (R162, log 29). -/
def State.applyPass (s : State) : State := s.queuePass.endWaits (some .failed) s.pass.failing

end Sys2Proof.Machine
end

