-- ==== Sys2Proof/Machine/Operands.lean ====
section
/-! DEFINITION. The forms of a request: the request frame (R183) and the payload of each command (R193, with the
owning rule of each), read from bytes. A payload that is malformed reads as none. -/

namespace Sys2Proof.Machine

/-! ### Frames (R183) -/

/-- What a write transaction's frame is (R183, R185). -/
inductive Frame where
  /-- A frame error. -/
  | error
  /-- A valid request whose command code names no command. -/
  | unknown
  /-- A valid request. -/
  | request (c : Command) (payload : List Byte)
deriving DecidableEq, Repr

/-- The frame in the bytes after a write transaction's transaction byte (R183): cut short, a length above 60, or a
wrong CRC-8 is a frame error; bytes after the CRC byte are ignored. -/
def parseFrame (bytes : List Byte) : Frame :=
  match bytes with
  | command :: len :: rest =>
    let n := len.toNat
    let payload := rest.take n
    match rest.drop n with
    | crc :: _ =>
      if Config.maxPayload < n then .error
      else if crc8 (command :: len :: payload) = crc then
        match commandOfCode command.toNat with
        | some c => .request c payload
        | none => .unknown
      else .error
    | [] => .error
  | _ => .error

/-- The bytes of a request frame after the transaction byte: code, length, payload and CRC-8 (R183, R184, R193). -/
def frameBytes (c : Command) (payload : List Byte) : List Byte :=
  let covered := BitVec.ofNat 8 (commandCode c) :: BitVec.ofNat 8 payload.length :: payload
  covered ++ [crc8 covered]

/-! ### Payloads -/

/-- A payload of one number of a fixed width. -/
def parseNumber (width : Nat) (payload : List Byte) : Option Nat :=
  if payload.length = width then some (beNat payload) else none

/-- No value stands twice in a list. -/
def noRepeat : List Nat → Bool
  | [] => true
  | x :: xs => !xs.contains x && noRepeat xs

/-- A code a feature or bundle can carry: 1..65,534 (R8, R12). -/
def isCode (n : Nat) : Bool := decide (1 ≤ n) && decide (n ≤ 65534)

/-- Pairs of feature code and quantity (R28). -/
def parsePairs : List Byte → List (Nat × Nat)
  | a :: b :: q :: rest => (beNat [a, b], q.toNat) :: parsePairs rest
  | _ => []

/-- What a CHECKOUT names (R47). -/
inductive CheckoutWant where
  | bundle (code multiplier : Nat)
  | lines (pairs : List (Nat × Nat))
deriving DecidableEq, Repr

/-- A well-formed CHECKOUT (R47). -/
structure CheckoutRequest where
  tag : Nat
  timeout : Nat
  want : CheckoutWant
deriving DecidableEq, Repr

/-- The last part of a CHECKOUT for a form: BUNDLE 0 or LINES 1, with the malformation tests of R49. -/
def parseWant (form : Nat) (body : List Byte) : Option CheckoutWant :=
  match form, body with
  | 0, [a, b, m] =>
    if isCode (beNat [a, b]) && decide (1 ≤ m.toNat) && decide (m.toNat ≤ 16) then
      some (.bundle (beNat [a, b]) m.toNat)
    else none
  | 1, n :: rest =>
    let pairs := parsePairs rest
    if decide (rest.length = 3 * n.toNat) && decide (1 ≤ n.toNat) && decide (n.toNat ≤ 8)
        && pairs.all (fun x => isCode x.1 && decide (1 ≤ x.2)) && noRepeat (pairs.map (·.1)) then
      some (.lines pairs)
    else none
  | _, _ => none

/-- A CHECKOUT payload: form, job tag, wait timeout, and the bundle or the lines (R47, R49). -/
def parseCheckout (payload : List Byte) : Option CheckoutRequest :=
  match payload with
  | form :: t3 :: t2 :: t1 :: t0 :: w :: body =>
    (parseWant form.toNat body).map fun want => { tag := beNat [t3, t2, t1, t0], timeout := w.toNat, want := want }
  | _ => none

/-- A number that is a handle: 256..32,767 (R43). -/
def isHandle (h : Nat) : Bool := decide (256 ≤ h) && decide (h ≤ 32767)

/-- A payload of one handle (R59, R63). -/
def parseHandle (payload : List Byte) : Option Nat := (parseNumber 2 payload).filter isHandle

/-- A number that is a ticket: 32,800..40,959 (R70). -/
def isTicket (t : Nat) : Bool := decide (32800 ≤ t) && decide (t ≤ 40959)

/-- A payload of one ticket (R80, R81). -/
def parseTicket (payload : List Byte) : Option Nat := (parseNumber 2 payload).filter isTicket

/-- Numbers of two bytes each. -/
def parseWords : List Byte → List Nat
  | a :: b :: rest => beNat [a, b] :: parseWords rest
  | _ => []

/-- A HEARTBEAT payload: a count 1..15 and that many handles (R105). -/
def parseHandles (payload : List Byte) : Option (List Nat) :=
  match payload with
  | n :: rest =>
    let hs := parseWords rest
    if decide (1 ≤ n.toNat) && decide (n.toNat ≤ 15) && decide (rest.length = 2 * n.toNat) && hs.all isHandle then
      some hs
    else none
  | [] => none

/-- What a QUERY FEATURE asks (R16). -/
inductive FeatureQuery where
  | byCode (code : Nat)
  | fromSlot (slot : Nat)
deriving DecidableEq, Repr

/-- A QUERY FEATURE payload (R16): the form, then a feature code (two bytes) for BY_CODE or a slot index (one byte)
for FROM_SLOT, the widths R193 gives those fields (log 14). -/
def parseFeatureQuery (payload : List Byte) : Option FeatureQuery :=
  match payload with
  | [form, a, b] => if form.toNat = 0 && isCode (beNat [a, b]) then some (.byCode (beNat [a, b])) else none
  | [form, i] => if form.toNat = 1 && decide (i.toNat ≤ 63) then some (.fromSlot i.toNat) else none
  | _ => none

/-- A QUERY POOL payload: a pool index (R39). -/
def parsePool (payload : List Byte) : Option Pool :=
  match payload with
  | [k] => if h : k.toNat < 4 then some ⟨k.toNat, h⟩ else none
  | _ => none

/-- The modes of POLICY APPLY (R160). -/
inductive ApplyMode where
  | copy | merge | strip
deriving DecidableEq, Repr

/-- A POLICY APPLY payload: the feature mask and the mode (R160, R193). -/
def parseApply (payload : List Byte) : Option (Nat × ApplyMode) :=
  if payload.length = 9 then
    match field payload 8 1 with
    | 0 => some (field payload 0 8, .copy)
    | 1 => some (field payload 0 8, .merge)
    | 2 => some (field payload 0 8, .strip)
    | _ => none
  else none

/-- A POLICY STAGE payload: one byte of the four flags (R159). -/
def parseStageFlags (payload : List Byte) : Option SiteFlags :=
  match payload with
  | [b] => SiteFlags.ofByte b.toNat
  | _ => none

/-- A well-formed SET CEILING (R163): `deferred` is the timing AT_WINDOW_END. -/
structure CeilingRequest where
  pool : Pool
  value : Nat
  deferred : Bool
deriving DecidableEq, Repr

/-- A SET CEILING payload: pool index, value, timing (R163, R193). -/
def parseCeiling (payload : List Byte) : Option CeilingRequest :=
  match payload with
  | [k, a, b, c, t] =>
    if h : k.toNat < 4 then
      match t.toNat with
      | 0 => some { pool := ⟨k.toNat, h⟩, value := beNat [a, b, c], deferred := false }
      | 1 => some { pool := ⟨k.toNat, h⟩, value := beNat [a, b, c], deferred := true }
      | _ => none
    else none
  | _ => none

/-- A well-formed SET SHARE (R165). -/
structure ShareRequest where
  port : Port
  pool : Pool
  cap : Nat
  reserve : Nat
deriving DecidableEq, Repr

/-- A SET SHARE payload: port index, pool index, cap, reserve (R165, R193). -/
def parseShare (payload : List Byte) : Option ShareRequest :=
  match payload with
  | [q, k, a, b, c, d, e, f] =>
    if hq : q.toNat < 4 then
      if hk : k.toNat < 4 then
        some { port := ⟨q.toNat, hq⟩, pool := ⟨k.toNat, hk⟩, cap := beNat [a, b, c], reserve := beNat [d, e, f] }
      else none
    else none
  | _ => none

/-- A SET NOTICE payload: kind enables, four senses, ATTN mode (R190, R193). -/
def parseSettings (payload : List Byte) : Option NoticeSettings :=
  match payload with
  | [e, s0, s1, s2, s3, m] =>
    match Sense.ofCode s0.toNat, Sense.ofCode s1.toNat, Sense.ofCode s2.toNat, Sense.ofCode s3.toNat,
        SignalMode.ofCode m.toNat with
    | some x0, some x1, some x2, some x3, some mode =>
      some { enables := KindEnables.ofByte e.toNat, senses := ⟨x0, x1, x2, x3⟩, attn := mode }
    | _, _, _, _, _ => none
  | _ => none

/-- A STAGE RECORD payload as a record: the kind byte and the body (R145). -/
def parseRecord (payload : List Byte) : Option ImageRecord :=
  match payload with
  | kind :: body => some { kind := kind, body := body }
  | [] => none

end Sys2Proof.Machine
end

