-- ==== Sys2Proof/Machine/Ops.lean ====
section
/-! DEFINITION. The operations several commands share: running and serving a request, window ends, the term clock and
its saves, the store's writes, staging, and the values blocks take at reset. -/

namespace Sys2Proof.Machine

/-! ### Running -/

/-- The part has supply and is out of RESET, so its blocks take events (R140, R157). -/
def State.running (s : State) : Bool := s.powered && s.resetPin == .released

/-- An event the blocks take while the part runs; without supply or in RESET it has no effect (log 12). -/
def whenRunning (s : State) (f : State → State) : Host.Outcome State Fault Refusal :=
  .next (if s.running then f s else s)

/-- ATTNn is asserted (R191): it is released without supply and during RESET. -/
def State.attn (s : State) (p : Port) : Bool := s.running && (s.ports.get p).attn

/-! ### Serving a request (R185) -/

/-- The request is the port's and names the command. -/
def Request.isFor (r : Request) (c : Command) (p : Port) : Bool := r.command == c && r.port == p

/-- The oldest request of a port for a command, among those passed on (log 3). -/
def State.nextRequest (s : State) (c : Command) (p : Port) : Option Request :=
  s.requests.find? fun r => r.isFor c p

/-- The requests without the oldest one of a port for a command. -/
def State.dropRequest (s : State) (c : Command) (p : Port) : State :=
  { s with requests := s.requests.eraseP fun r => r.isFor c p }

/-- A request carried out: its command's work gives a state and a reply, and the reply is placed (R185). -/
def State.carryOut (s : State) (c : Command) (p : Port) (r : Request) (work : Request → State → State × Reply) :
    State :=
  let out := work r (s.dropRequest c p)
  out.1.respond r out.2

/-- The row of a command: the port's oldest request of it is carried out. Where the port has passed on no such request,
nothing happens (log 2). -/
def serve (c : Command) (p : Port) (s : State) (work : Request → State → State × Reply) :
    Host.Outcome State Fault Refusal :=
  whenRunning s fun s =>
    match s.nextRequest c p with
    | none => s
    | some r => s.carryOut c p r work

/-- A command that needs the catalogue is answered NOT_READY in NO_IMAGE (R19). -/
def needsCatalogue (b : Basis) (s : State) (work : State × Reply) : State × Reply :=
  if b.serving then work else (s, .bare .notReady)

/-- A command that needs ADMIN is answered NOT_PERMITTED from a port without it (R6). -/
def needsAdmin (b : Basis) (s : State) (work : State × Reply) : State × Reply :=
  if b.privileges.admin then work else (s, .bare .notPermitted)

/-- A command that needs TIME is answered NOT_PERMITTED from a port without it (R6). -/
def needsTime (b : Basis) (s : State) (work : State × Reply) : State × Reply :=
  if b.privileges.time then work else (s, .bare .notPermitted)

/-! ### The store (R103, R104, R137 to R139) -/

/-- The values a save takes when its write begins (R103). -/
def State.savedNow (s : State) : SavedValues :=
  { clock := s.time.clock, meters := s.watches.map (·.meter), sequence := s.journal.nextSeq }

/-- A save's write begins (R138). -/
def State.beginSave (s : State) : State :=
  { s with store := { s.store with write := .saving s.savedNow, saveWaiting := false } }

/-- A save is asked for (R103, R138): it begins, or waits behind the write in progress. -/
def State.askSave (s : State) : State :=
  match s.store.write with
  | .idle => s.beginSave
  | .saving _ => { s with store := { s.store with saveWaiting := true } }
  | .imageWrite => { s with store := { s.store with saveWaiting := true } }

/-- An image write begins: the image area becomes INVALID (R139). -/
def State.beginImageWrite (s : State) : State :=
  { s with store := { s.store with write := .imageWrite, image := none, imageWaiting := false } }

/-- An image write is asked for (R138). -/
def State.askImageWrite (s : State) : State :=
  match s.store.write with
  | .idle => s.beginImageWrite
  | .saving _ => { s with store := { s.store with imageWaiting := true } }
  | .imageWrite => s

/-- The Store Controller after a completed write: a waiting image write goes before a waiting save (R138). -/
def State.nextWrite (s : State) : State :=
  if s.store.imageWaiting then s.beginImageWrite
  else if s.store.saveWaiting then s.beginSave
  else { s with store := { s.store with write := .idle } }

/-- A write is in progress (R140). -/
def Store.busy (st : Store) : Bool :=
  match st.write with
  | .idle => false
  | .saving _ => true
  | .imageWrite => true

/-- The store after a loss of power or a trip of the supply monitor (R157). -/
def Store.afterLoss (st : Store) : Store :=
  { image := (match st.write with | .imageWrite => none | .idle => st.image | .saving _ => st.image)
    saved := st.saved, write := .idle, saveWaiting := false, imageWaiting := false }

/-! ### The term clock (R97, R102, R103) -/

/-- The TERM notices of a change from one list of slots to the re-evaluated one, in slot order (R102). -/
def termNotices (old new : List FeatureSlot) : List Notice :=
  (old.zip new).filterMap fun x =>
    match x.2.feature, x.2.term with
    | some f, some t =>
      if x.1.term ≠ some t ∧ (t = .grace ∨ t = .lapsed) ∧ x.2.site.termNotice = true then some (.term f.code t) else none
    | _, _ => none

/-- The term clock's value set, without what follows a change. -/
def State.withClock (s : State) (clock : Nat) : State := { s with time := { s.time with clock := clock } }

/-- A change of the term clock by minute advance or TIME ASSERT: term states stored (R15), TERM notices raised (R102),
a save asked for when the hour number changes (R103). A value that is no change changes nothing (R97). -/
def State.changeClock (s : State) (clock : Nat) : State :=
  if clock = s.time.clock then s
  else
    let cat := s.cat.atClock clock
    let s' := ({ s.withClock clock with cat := cat }).notifyAll (termNotices s.cat.slots cat.slots)
    if clock / 60 = s.time.clock / 60 then s' else s'.askSave

/-! ### Window ends and second ticks (R87 to R91, R156) -/

/-- The Timebase produces a window end: each receiver has one more to take (R90), and the window timer returns to 0
(R91). -/
def State.produceWindowEnd (s : State) : State :=
  { s with
    time := { s.time with windowTimer := 0 }
    due := { sweep := s.due.sweep + 1, grant := s.due.grant + 1, demand := s.due.demand.map (· + 1)
             port := s.due.port.map (· + 1) } }

/-- The window timer counts a second tick; in AUTO the tick that raises it to the window length ends the window (R91). -/
def State.countWindow (s : State) : State :=
  let timer := min Config.maxWindowTimer (s.time.windowTimer + 1)
  let s' := { s with time := { s.time with windowTimer := timer } }
  if s.time.mode = .auto ∧ timer = s.time.length then s'.produceWindowEnd else s'

/-- The minute count counts a second tick; at its wrap the term clock rises by one minute, saturating (R88, R97). -/
def State.countMinute (s : State) : State :=
  if s.time.minuteCount + 1 < Config.minuteSeconds then
    { s with time := { s.time with minuteCount := s.time.minuteCount + 1 } }
  else
    ({ s with time := { s.time with minuteCount := 0 } }).changeClock (min Config.maxWord (s.time.clock + 1))

/-- A staging is discarded (R153). -/
def State.discardStaging (s : State) : State := { s with stager := Stager.initial }

/-- The staging is OPEN or COMPLETE. -/
def Stager.open_ (t : Stager) : Bool := t.state == .opened || t.state == .complete

/-- The staging timer counts a second tick in OPEN and COMPLETE; the tick that raises it to 600 discards the staging
(R156). -/
def State.countStaging (s : State) : State :=
  if s.stager.open_ then
    if s.stager.timer + 1 < Config.stagingSeconds then
      { s with stager := { s.stager with timer := s.stager.timer + 1 } }
    else s.discardStaging
  else s

/-- A second tick (R87): the prescaler has wrapped, and the three holders of R88 count the tick. A window end that the tick
produces is taken by its receivers after the tick's minute advance, with its clock change, TERM notices and save; R88 and
R90 give the two no order, and the choice is the model's (log 39). -/
def State.tick (s : State) : State :=
  ((({ s with time := { s.time with prescaler := 0 } }).countWindow).countMinute).countStaging

/-- One rising edge of TREF (R87). -/
def State.trefEdge (s : State) : State :=
  if s.time.prescaler + 1 < Config.prescalerEdges then
    { s with time := { s.time with prescaler := s.time.prescaler + 1 } }
  else s.tick

/-! ### Demand Watches -/

/-- A Demand Watch replaced. -/
def State.withWatch (s : State) (k : Pool) (w : Watch) : State := { s with watches := s.watches.set k w }

/-! ### Values after power-on and after release of RESET -/

/-- The site ceilings an image gives (R24): its capacities, or absent. -/
def initialPools (c : Catalogue) : Quad PoolState :=
  Quad.ofFn fun k => { PoolState.initial with ceiling := (c.poolRec k).map (·.capacity) }

/-- The Timebase after reset under a catalogue (R87 to R89, R94, R96). -/
def timebaseOf (c : Catalogue) (clock : Nat) : Timebase :=
  match c.head with
  | none => Timebase.initial clock
  | some h => { Timebase.initial clock with mode := h.header.windowMode, length := h.header.windowLength }

/-- Every block at its values after power-on or release of RESET, with the store, term clock, meters and sequence number
given (R18, R24, R46, R85, R96, R101, R109, R133, R141, R158, R181, R185, R187, R190). The levels of the PRST pins and
of the recorder's JEND, and the queue of commands, are not the part's to reset. A request passed on and not yet carried
out when RESET was asserted, or supply lost, is dropped here with no effect; R140 and R185 do not say what becomes of it,
and the choice is the model's (log 40). -/
def State.bringUp (s : State) (store : Store) (values : SavedValues) (straps : Quad Straps) : State :=
  let cat := loadCatalogue store.image values.clock
  { powered := true
    resetPin := .released
    ports := Quad.ofFn fun p => PortIf.initial (s.ports.get p).prst (straps.get p) (strapClassOf (straps.get p))
      (effectiveClass cat.head (strapClassOf (straps.get p)) p)
    requests := []
    cat := cat
    grant := { GrantEngine.initial with pools := initialPools cat }
    watches := Quad.ofFn fun k => Watch.initial (values.meters.get k)
    time := timebaseOf cat values.clock
    due := WindowEnds.zero
    sweep := Sweep.initial
    journal := { Journal.initial values.sequence with jendRecorder := s.journal.jendRecorder }
    stager := Stager.initial
    store := store
    policy := Quad.fill SiteFlags.clear
    pending := s.pending }

/-- The values power-on restores: the saved ones, or 0 when there are none (R101, R130, R181). -/
def Store.restored (st : Store) : SavedValues := st.saved.getD { clock := 0, meters := Quad.fill 0, sequence := 0 }

/-- The release of RESET takes effect (R136, R140): the term clock, meters and sequence number keep their live values. -/
def State.leaveReset (s : State) : State :=
  s.bringUp { s.store with write := .idle, saveWaiting := false, imageWaiting := false } s.savedNow
    (s.ports.map (·.strapPins))

end Sys2Proof.Machine
end

