-- ==== Sys2Proof/Machine/PortCommands.lean ====
section
/-! DEFINITION. What the blocks do at a port reset, and the meanings of the events on a port's link: REQUEST_FRAME,
READ_TRANSACTION, ATTN_PULSE_END (R183 to R186, R191). -/

namespace Sys2Proof.Machine

/-- One port changed. -/
def State.modifyPort (s : State) (p : Port) (f : PortIf → PortIf) : State := { s with ports := s.ports.modify p f }

/-! ### PRST (R83, R155, R186) -/

/-- The waiting entries of a port, in queue order. -/
def State.entriesOf (s : State) (p : Port) : List WaitEntry := s.grant.queue.filter fun e => e.port == p

/-- The Port Interface's part of a port reset: the port, and its requests no longer current (R186). -/
def State.clearPort (s : State) (p : Port) : State :=
  { s.modifyPort p PortIf.portReset with
    requests := s.requests.map fun r => if r.port = p then { r with current := false } else r }

/-- The Grant Engine's part of a port reset: the port's entries removed without notice, and a queue pass when one of
them was blocking (R83). -/
def State.dropEntries (s : State) (p : Port) : State :=
  let es := s.entriesOf p
  let s' := s.endWaits none es
  if es.any (·.blocking) then s'.queuePass else s'

/-- The Image Stager's part of a port reset or RELEASE PORT: an OPEN or COMPLETE staging of the port is discarded
(R155). -/
def State.abandonStaging (s : State) (p : Port) : State :=
  if s.stager.port = some p ∧ s.stager.open_ = true then s.discardStaging else s

/-! ### Transactions (R183, R185) -/

/-- A valid request completed at a port (R185): dropped in WORKING, else taken, with any unread response discarded. -/
def State.takeFrame (s : State) (p : Port) (c : Command) (payload : List Byte) : State :=
  match (s.ports.get p).state with
  | .working => s.modifyPort p fun q => { q with overrun := true }
  | .idle | .answered =>
    { s.modifyPort p (fun q => { q with state := .working, response := none }) with
      requests := s.requests ++ [{ port := p, command := c, payload := payload, current := true, under := none }] }

/-- A write transaction with the bytes after its transaction byte (R183, R185). SDOn carries 0xFF throughout. -/
def State.writeTransaction (s : State) (p : Port) (bytes : List Byte) : State :=
  let s' := s.modifyPort p fun q => { q with sdo := silentBytes (bytes.length + 1) }
  match parseFrame bytes with
  | .error => s'.modifyPort p fun q => q.answerItself .frameError
  | .unknown => s'.modifyPort p fun q => q.answerItself .badRequest
  | .request c payload => s'.takeFrame p c payload

/-- A read transaction at a port, with `n` bytes after its transaction byte (R183, R185). -/
def PortIf.read (q : PortIf) (n : Nat) (answered : Bool) : PortIf :=
  match q.state, q.response, answered with
  | .answered, some r, true =>
    let q' := { q with sdo := 0xFF#8 :: (r.frame ++ silentBytes n).take n }
    if r.frame.length ≤ n then { q' with state := .idle, response := none } else q'
  | _, _, _ => { q with sdo := silentBytes (n + 1) }

/-- The end of a transaction whose bytes on SDIn are given (R183): its first byte tells a write from a read, and one
with no whole byte or another first byte has no effect. -/
def State.endTransaction (s : State) (p : Port) (bytes : List Byte) : State :=
  match bytes with
  | [] => s
  | t :: rest =>
    if t = 0x01#8 then s.writeTransaction p rest
    else if t = 0x02#8 then s.modifyPort p fun q => q.read rest.length true
    else s

/-- A transaction has no effect while the port's PRST is asserted (R186). It is judged at its end, the rise of CSn: one
begun while PRST is asserted and ended after the release is taken. R186 does not say so, and the choice is the model's
(log 34). The same holds of one begun while RESET is asserted or without supply (log 38). -/
def State.unlessPrst (s : State) (p : Port) (f : State → State) : State := if (s.ports.get p).prst then s else f s

/-- REQUEST_FRAME (R183, R185). Whether the part runs is judged at the rise of CSn, with the whole transaction: one begun
under an asserted RESET, or in progress at its assertion, whose CSn rises after the release is taken whole. The spec
does not say so, and the choice is the model's (log 38). -/
def execRequestFrame (p : Port) (bytes : List Byte) (s : State) : Host.Outcome State Fault Refusal :=
  whenRunning s fun s => s.unlessPrst p fun s => s.endTransaction p bytes

/-- READ_TRANSACTION (R183, R185), judged at the rise of CSn as REQUEST_FRAME is (log 38). -/
def execReadTransaction (p : Port) (n : Nat) (answered : Bool) (s : State) : Host.Outcome State Fault Refusal :=
  whenRunning s fun s => s.unlessPrst p fun s => s.modifyPort p fun q => q.read n answered

/-- ATTN_PULSE_END (R191): the pulse runs out and ATTN is released. -/
def execAttnPulseEnd (p : Port) (s : State) : Host.Outcome State Fault Refusal :=
  whenRunning s fun s => s.modifyPort p fun q => { q with pulse := false }

end Sys2Proof.Machine
end

