-- ==== Sys2Proof/Machine/CheckoutCommands.lean ====
section
/-! DEFINITION. The meanings of CHECKOUT, RETURN, RETURN TAG, RELEASE PORT, QUERY CHECKOUT and HEARTBEAT (chapters 3
and 6). -/

namespace Sys2Proof.Machine

/-! ### CHECKOUT: what is asked (R27, R28, R48 stage 1) -/

/-- What a CHECKOUT's names lead to: an absent code at a line position (0 for a bundle code), or feature slots and
quantities in line order with the request's bundle and rebate. -/
inductive Resolution where
  | absent (position : Nat)
  | found (bundle : Option BundleRef) (rebate : Nat) (items : List (Nat × Nat))
deriving DecidableEq, Repr

/-- The position, from `n`, of the first pair whose code no present slot holds (R49). -/
def firstAbsent (c : Catalogue) : Nat → List (Nat × Nat) → Option Nat
  | _, [] => none
  | n, x :: xs => if (c.findCode x.1).isSome then firstAbsent c (n + 1) xs else some n

/-- The lookups of stage 1 (R48, R49): the bundle code, or each line's feature code. -/
def resolve (c : Catalogue) (want : CheckoutWant) : Resolution :=
  match want with
  | .bundle code m =>
    match c.findBundle code with
    | none => .absent 0
    | some b =>
      if b.lines.all fun l => (c.feature l.feature).isSome then
        .found (some { code := code, multiplier := m }) b.rebate (b.lines.map fun l => (l.feature, l.base * m))
      else .absent 0
  | .lines pairs =>
    match firstAbsent c 1 pairs with
    | some n => .absent n
    | none => .found none 0 (pairs.filterMap fun x => (c.findCode x.1).map fun i => (i, x.2))

/-- The code a DENY record carries for what a CHECKOUT names (R55). -/
def wantCode (want : CheckoutWant) : Nat :=
  match want with
  | .bundle code _ => code
  | .lines pairs => (pairs.head?.map (·.1)).getD 0

/-! ### CHECKOUT: lines (R26, R29, R48 stage 2) -/

/-- The stage 2 tests of one line, in their order (R48). -/
def lineFault (c : Catalogue) (cls : Class) (x : Nat × Nat) : Option Reason :=
  match c.feature x.1 with
  | none => none
  | some f =>
    if (c.slot x.1).site.enabled = false then some .featureDisabled
    else if (c.slot x.1).term = some .pending ∨ (c.slot x.1).term = some .lapsed then some .featureInactive
    else if f.scales.get cls = 0 then some .classExcluded
    else if f.maxQuantity < x.2 then some .quantityLimit
    else none

/-- The first line that fails stage 2, with its reason and its position from `n` (R48). -/
def firstFault (c : Catalogue) (cls : Class) : Nat → List (Nat × Nat) → Option (Reason × Nat)
  | _, [] => none
  | n, x :: xs =>
    match lineFault c cls x with
    | some r => some (r, n)
    | none => firstFault c cls (n + 1) xs

/-- The lines of a request, with their costs (R26, R29). -/
def buildLines (c : Catalogue) (cls : Class) (items : List (Nat × Nat)) : List Line :=
  items.filterMap fun x => (c.feature x.1).map fun f =>
    { index := some x.1, code := f.code, quantity := x.2, pool := f.pool
      cost := lineCost f.rate x.2 (f.scales.get cls), orphan := false }

/-! ### CHECKOUT: judgement (R48 stages 3 to 5) -/

/-- The first failure of stages 3 to 5 for a grant order, judged by a catalogue (R48, R51). -/
def State.orderFailure (s : State) (c : Catalogue) (g : GrantOrder) : Option QueueReason :=
  match s.poolFailure c g.owner g.charges (fun k => overdraftOk c g.lines k) fun k => s.heldByQueue k with
  | some q => some q
  | none =>
    if s.freeSlot.isNone then some { reason := .tableFull, pool := none }
    else if g.metered && !s.journal.room 2 then some { reason := .journalFull, pool := none }
    else none

/-- A request's shortfall on a pool: the pre-rebate costs of its lines there whose feature is not WATCH_MASKed (R120). -/
def shortfall (c : Catalogue) (lines : List Line) (k : Pool) : Nat :=
  poolTotal (lines.filter fun l => match l.index with | some i => !(c.slot i).site.watchMask | none => true) k

/-- The shortfalls of a request that is not granted, handed to each pool whose own fit test failed (R50, R120). -/
def State.handShortfalls (s : State) (c : Catalogue) (g : GrantOrder) : State :=
  { s with watches := Quad.ofFn fun k =>
      let w := s.watches.get k
      if needs g.charges k && (s.fitReason c g.owner k (g.charges.get k) (overdraftOk c g.lines k)).isSome then
        { w with tally := min Config.maxTally (w.tally + shortfall c g.lines k) }
      else w }

/-- A queueable reason (R54). -/
def Reason.queueable : Reason → Bool
  | .shareCap | .held | .overcommitted | .reservedElsewhere | .noTokens | .tableFull => true
  | .featureDisabled | .featureInactive | .classExcluded | .quantityLimit | .journalFull => false

/-- A pool reason, which sets the blocking flag (R56, R72). -/
def Reason.isPoolReason : Reason → Bool
  | .held | .overcommitted | .reservedElsewhere | .noTokens => true
  | .featureDisabled | .featureInactive | .classExcluded | .quantityLimit | .shareCap | .tableFull | .journalFull => false

/-- Every line's feature has QUEUEABLE and its site flag QUEUE set (R54). -/
def linesQueueable (c : Catalogue) (lines : List Line) : Bool :=
  lines.all fun l => c.lineHas l (·.queueable) &&
    (match l.index with | some i => (c.slot i).site.queue | none => false)

/-- The queue has a place for another entry of the port (R54). -/
def State.queueHasRoom (s : State) (p : Port) : Bool :=
  decide (s.grant.queue.length < Config.waitSlots) &&
    decide ((s.grant.queue.filter fun e => e.port == p).length < Config.waitPerPort)

/-- DENIED (R55): the reply, and a droppable DENY record. -/
def State.deny (s : State) (p : Port) (tag code : Nat) (reason : Reason) (place : Nat) (queueFull : Bool)
    (charges : Quad Nat) : State × Reply :=
  (s.recordDroppable (RecordBody.plain .deny p 0 tag code charges),
   { status := .denied, payload := b1 reason.code ++ b1 place ++ indication queueFull ++ tokens charges })

/-- The waiting entry a queued request becomes (R56, R69, R71). -/
def waitEntryOf (slot : Nat) (g : GrantOrder) (timeout : Nat) (q : QueueReason) : WaitEntry :=
  { slot := slot, port := g.owner, tag := g.tag, bundle := g.bundle, lines := g.lines, charges := g.charges
    blocking := q.reason.isPoolReason, remaining := timeout, arrival := q, last := q }

/-- QUEUED (R56, R71): the entry at the newest end, in the lowest FREE wait slot. -/
def State.enqueue (s : State) (g : GrantOrder) (timeout : Nat) (q : QueueReason) : State × Reply :=
  let slot := s.freeWaitSlot.getD 0
  (s.withQueue (s.grant.queue ++ [waitEntryOf slot g timeout q]),
   { status := .queued
     payload := b2 (ticketOf (s.waitGeneration slot) slot) ++ q.bytes ++ b1 s.grant.queue.length })

/-- A request that failed stages 3 to 5 (R54 to R56). `kept` says that the catalogue it was taken under is still the
active one; where it is not, a request that would be queued is denied instead (R57). -/
def State.refuse (s : State) (c : Catalogue) (kept : Bool) (g : GrantOrder) (timeout : Nat) (q : QueueReason) :
    State × Reply :=
  let s' := s.handShortfalls c g
  let deny (full : Bool) :=
    s'.deny g.owner g.tag (requestCode g.bundle g.lines) q.reason (poolCode q.pool) full g.charges
  if q.reason.queueable && decide (1 ≤ timeout) && linesQueueable c g.lines then
    if s.queueHasRoom g.owner then
      if kept then s'.enqueue g timeout q else deny false
    else deny true
  else deny false

/-- The order with its lines reconciled with the active catalogue, for a request taken under an earlier one (R57). -/
def GrantOrder.reconcile (g : GrantOrder) (c : Catalogue) : GrantOrder :=
  { g with lines := g.lines.map (Line.reconcile c) }

/-- OK (R52): the grant into the lowest FREE slot, and its reply. -/
def State.grantNow (s : State) (slot : Nat) (g : GrantOrder) : State × Reply :=
  (s.grantInto slot g,
   .ok (b2 (handleOf (s.generationAt slot) slot) ++ grantFlagsByte (s.overdraftAfter g) g.grace ++ tokens g.charges))

/-- A CHECKOUT whose lines passed stage 2, judged through stages 3 to 5 (R48). -/
def State.judgeOrder (s : State) (c : Catalogue) (kept : Bool) (g : GrantOrder) (timeout : Nat) : State × Reply :=
  match s.orderFailure c g with
  | some q => s.refuse c kept g timeout q
  | none => s.grantNow (s.freeSlot.getD 0) (if kept then g else g.reconcile s.cat)

/-- The grant order of a CHECKOUT (R26, R53): lines and charges, and GRACE and METERED as the judging catalogue has
them. -/
def orderFor (c : Catalogue) (cls : Class) (p : Port) (tag : Nat) (bundle : Option BundleRef) (rebate : Nat)
    (items : List (Nat × Nat)) : GrantOrder :=
  let lines := buildLines c cls items
  { owner := p, tag := tag, bundle := bundle, lines := lines, charges := chargesOf lines rebate
    capacities := Quad.ofFn c.capacity
    grace := lines.any fun l => c.lineTerm l == some .grace
    metered := lines.any fun l => c.lineHas l (·.metered) }

/-- A CHECKOUT carried out (R47 to R57). -/
def checkoutWork (r : Request) (s : State) : State × Reply :=
  let b := s.basis r
  needsCatalogue b s <|
    match parseCheckout r.payload with
    | none => (s, .bare .badRequest)
    | some q =>
      match resolve b.catalogue q.want with
      | .absent n => (s, { status := .notFound, payload := b1 n })
      | .found bundle rebate items =>
        match firstFault b.catalogue b.effClass 1 items with
        | some (reason, n) => s.deny r.port q.tag (wantCode q.want) reason n false (Quad.fill 0)
        | none =>
          s.judgeOrder b.catalogue r.under.isNone
            (orderFor b.catalogue b.effClass r.port q.tag bundle rebate items) q.timeout

/-- CHECKOUT. -/
def execCheckout (p : Port) (s : State) : Host.Outcome State Fault Refusal := serve .checkout p s checkoutWork

/-! ### RETURN (R59, R60) -/

/-- An own return (R59). -/
def State.ownReturn (s : State) (h slot : Nat) (e : Checkout) : State × Reply :=
  ((s.release slot e .returned).queuePass, .ok (b2 h ++ tokens e.charges ++ e.flags.byte))

/-- A forced return by a port (R60). -/
def State.forcedReturn (s : State) (by_ : Port) (h slot : Nat) (e : Checkout) : State × Reply :=
  (((s.release slot e .forcedReturn).notify e.owner (.forced h e.tag by_)).queuePass,
   .ok (b2 h ++ b1 e.owner.val ++ b4 e.tag ++ tokens e.charges ++ e.flags.byte))

/-- A RETURN carried out (R59). -/
def returnWork (r : Request) (s : State) : State × Reply :=
  let b := s.basis r
  needsCatalogue b s <|
    match parseHandle r.payload with
    | none => (s, .bare .badRequest)
    | some h =>
      match s.findHandle h with
      | none => (s, .bare .notFound)
      | some (slot, e) =>
        if e.owner = r.port then s.ownReturn h slot e
        else if b.privileges.admin then s.forcedReturn r.port h slot e
        else (s, .bare .notPermitted)

/-- RETURN. -/
def execReturn (p : Port) (s : State) : Host.Outcome State Fault Refusal := serve .returnCheckout p s returnWork

/-! ### RETURN TAG and RELEASE PORT (R61, R62) -/

/-- Checkouts of some slots released and waiting entries removed together, then one queue pass when there was any
(R61, R82). The release records, in slot order, are written before the WAIT_END records, in queue order; R171 orders each
group and not the two, and the choice is the model's (log 33). -/
def State.releaseMany (s : State) (slots : List Nat) (entries : List WaitEntry) : State :=
  let s' := (slots.foldl (State.releaseSlot · .returned) s).endWaits none entries
  if slots.isEmpty && entries.isEmpty then s' else s'.queuePass

/-- What the reply of RETURN TAG and RELEASE PORT counts (R61). -/
def State.releaseCounts (s : State) (slots : List Nat) (entries : List WaitEntry) : List Byte :=
  b2 slots.length ++ b1 entries.length ++ tokens (s.totalCharges slots)

/-- A RETURN TAG carried out (R61). -/
def returnTagWork (r : Request) (s : State) : State × Reply :=
  needsCatalogue (s.basis r) s <|
    match parseNumber 4 r.payload with
    | none => (s, .bare .badRequest)
    | some tag =>
      let slots := s.slotsWhere fun e => e.owner == r.port && e.tag == tag
      let entries := (s.entriesOf r.port).filter fun e => e.tag == tag
      (s.releaseMany slots entries, .ok (s.releaseCounts slots entries))

/-- RETURN TAG. -/
def execReturnTag (p : Port) (s : State) : Host.Outcome State Fault Refusal := serve .returnTag p s returnTagWork

/-- A RELEASE PORT carried out (R62). -/
def releasePortWork (r : Request) (s : State) : State × Reply :=
  needsCatalogue (s.basis r) s <|
    if r.payload ≠ [] then (s, .bare .badRequest)
    else
      let slots := s.slotsWhere fun e => e.owner == r.port
      let entries := s.entriesOf r.port
      let abandoned := decide (s.stager.port = some r.port) && s.stager.open_
      ((s.releaseMany slots entries).abandonStaging r.port, .ok (s.releaseCounts slots entries ++ indication abandoned))

/-- RELEASE PORT. -/
def execReleasePort (p : Port) (s : State) : Host.Outcome State Fault Refusal := serve .releasePort p s releasePortWork

/-! ### QUERY CHECKOUT (R63) -/

/-- A line as QUERY CHECKOUT carries it (R63). -/
def checkoutLineBytes (c : Catalogue) (l : Line) : List Byte :=
  b1 (indexCode l.index) ++ b2 l.code ++ b1 l.quantity ++ b1 l.pool.val ++ b2 l.cost ++ indication l.orphan ++
    b1 (termCode (c.lineTerm l))

/-- A checkout as QUERY CHECKOUT carries it (R63). -/
def checkoutBytes (c : Catalogue) (h : Nat) (e : Checkout) : List Byte :=
  b2 h ++ b1 e.owner.val ++ b4 e.tag ++ b2 (bundleCode e.bundle) ++ b1 (multiplierCode e.bundle) ++
    e.lines.flatMap (checkoutLineBytes c) ++ tokens e.charges ++ e.flags.byte ++ b4 e.grantedMinute ++
    indication e.renewed ++ b1 e.missed

/-- A QUERY CHECKOUT carried out (R63). -/
def queryCheckoutWork (r : Request) (s : State) : State × Reply :=
  needsCatalogue (s.basis r) s <|
    match parseHandle r.payload with
    | none => (s, .bare .badRequest)
    | some h =>
      match s.findHandle h with
      | none => (s, .bare .notFound)
      | some (_, e) => (s, .ok (checkoutBytes s.cat h e))

/-- QUERY CHECKOUT. -/
def execQueryCheckout (p : Port) (s : State) : Host.Outcome State Fault Refusal :=
  serve .queryCheckout p s queryCheckoutWork

/-! ### HEARTBEAT (R105 to R108) -/

/-- A line of a held checkout blocks renewal (R106): its orphan mark is clear and its feature's stored term state is
LAPSED. Under an earlier catalogue the feature is found there by the line's code (R108, log 4). -/
def lineLapsed (b : Basis) (kept : Bool) (l : Line) : Bool :=
  if kept then !l.orphan && b.catalogue.lineTerm l == some .lapsed
  else
    match b.catalogue.findCode l.code with
    | some i => (b.catalogue.slot i).term == some .lapsed
    | none => false

/-- One handle of a HEARTBEAT judged (R106). -/
def State.beat (s : State) (b : Basis) (kept : Bool) (p : Port) (h : Nat) : State × BeatResult :=
  match s.findHandle h with
  | none => (s, .notFound)
  | some (slot, e) =>
    if e.owner ≠ p then (s, .notOwner)
    else if e.lines.any (lineLapsed b kept) then (s, .lapsed)
    else (s.setSlot slot { generation := s.generationAt slot, entry := some { e with renewed := true } }, .renewed)

/-- The handles of a HEARTBEAT judged in order (R105). -/
def State.beatAll (s : State) (b : Basis) (kept : Bool) (p : Port) : List Nat → State × List BeatResult
  | [] => (s, [])
  | h :: hs =>
    let x := s.beat b kept p h
    let y := x.1.beatAll b kept p hs
    (y.1, x.2 :: y.2)

/-- A HEARTBEAT carried out (R105 to R107). -/
def heartbeatWork (r : Request) (s : State) : State × Reply :=
  let b := s.basis r
  needsCatalogue b s <|
    match parseHandles r.payload with
    | none => (s, .bare .badRequest)
    | some hs =>
      let x := s.beatAll b r.under.isNone r.port hs
      (x.1, .ok (b1 hs.length ++ x.2.flatMap (fun y => b1 y.code) ++
        b1 (x.2.filter fun y => y == .renewed).length ++ b1 s.time.mode.code ++ b2 s.time.length ++
        b2 s.time.windowTimer))

/-- HEARTBEAT. -/
def execHeartbeat (p : Port) (s : State) : Host.Outcome State Fault Refusal := serve .heartbeat p s heartbeatWork

end Sys2Proof.Machine
end

