-- ==== Sys2Proof/Machine/JournalCommands.lean ====
section
/-! DEFINITION. The meanings of the journal port's events: BATCH_BEGIN, RECORD_ACKNOWLEDGE and JCLK_RISING_EDGE (R176 to
R179). -/

namespace Sys2Proof.Machine

/-- The Journal replaced. -/
def State.withJournal (s : State) (j : Journal) : State := { s with journal := j }

/-- The level at which the recorder drives JEND. -/
def State.withJend (s : State) (jend : Bool) : State := s.withJournal { s.journal with jendRecorder := jend }

/-- A batch begins when the conditions of R176 hold. -/
def State.batchBegins (s : State) : State :=
  match s.cat.head with
  | none => s
  | some h =>
    if s.journal.batch = .idle ∧ 1 ≤ s.journal.fifo.length ∧ s.journal.jend = false then
      s.withJournal (s.journal.beginBatch h.header.batchLimit h.header.requestMode)
    else s

/-- BATCH_BEGIN (R176), with the recorder's drive of JEND as it stands. R176 has a batch begin as soon as its conditions
hold; the model begins it at this row, and other rows may come before it (log 36). The recorder's pin keeps its level in RESET and
without supply (log 9). -/
def execBatchBegin (jend : Bool) (s : State) : Host.Outcome State Fault Refusal :=
  whenRunning (s.withJend jend) State.batchBegins

/-- RECORD_ACKNOWLEDGE (R177, R179): a JACK rising edge, with the recorder's drive of JEND at it. -/
def execRecordAcknowledge (jend : Bool) (s : State) : Host.Outcome State Fault Refusal :=
  whenRunning (s.withJend jend) fun s => s.withJournal s.journal.jack

/-- JCLK_RISING_EDGE (R177). -/
def execJclkRisingEdge (s : State) : Host.Outcome State Fault Refusal :=
  whenRunning s fun s => s.withJournal s.journal.jclk

end Sys2Proof.Machine
end

