-- ==== Sys2Proof/Machine/PolicyCommands.lean ====
section
/-! DEFINITION. The meanings of POLICY STAGE, POLICY APPLY, SET CEILING and SET SHARE (chapter 9). One taken
before the completion of an activation is finished before it (R169), so each acts on the active catalogue. -/

namespace Sys2Proof.Machine

/-- The tests every policy command passes first: NO_IMAGE, then ADMIN (R159, R160, R163, R165). -/
def policyCommand (r : Request) (s : State) (own : State × Reply) : State × Reply :=
  needsCatalogue (s.basis r) s (needsAdmin (s.basis r) s own)

/-! ### POLICY STAGE (R159) -/

/-- A POLICY STAGE carried out (R159). -/
def policyStageWork (r : Request) (s : State) : State × Reply :=
  policyCommand r s <|
    match parseStageFlags r.payload with
    | none => (s, .bare .badRequest)
    | some f => ({ s with policy := s.policy.set r.port f }, .ok (b1 f.bits))

/-- POLICY STAGE. -/
def execPolicyStage (p : Port) (s : State) : Host.Outcome State Fault Refusal :=
  serve .policyStage p s policyStageWork

/-! ### POLICY APPLY (R160 to R162) -/

/-- One flag of a slot after an apply, from the staged flag and the flag held (R161). -/
def ApplyMode.flag (m : ApplyMode) (staged held : Bool) : Bool :=
  match m with
  | .copy => staged
  | .merge => held || staged
  | .strip => held && !staged

/-- A slot's four flags after an apply of a staged record (R161). -/
def ApplyMode.flags (m : ApplyMode) (staged held : SiteFlags) : SiteFlags :=
  { enabled := m.flag staged.enabled held.enabled
    queue := m.flag staged.queue held.queue
    watchMask := m.flag staged.watchMask held.watchMask
    termNotice := m.flag staged.termNotice held.termNotice }

/-- A slot is skipped by an apply: empty or locked (R160). -/
def Catalogue.skips (c : Catalogue) (i : Nat) : Bool := (c.feature i).isNone || c.locked i

/-- The flags of a slot after an apply (R160, R161). -/
def Catalogue.flagsAfter (c : Catalogue) (mask : Nat) (m : ApplyMode) (staged : SiteFlags) (i : Nat) : SiteFlags :=
  if mask.testBit i && !c.skips i then m.flags staged (c.slot i).site else (c.slot i).site

/-- The catalogue after an apply (R161). -/
def Catalogue.applyFlags (c : Catalogue) (mask : Nat) (m : ApplyMode) (staged : SiteFlags) : Catalogue :=
  { c with slots := c.slots.mapIdx fun i sl => { sl with site := c.flagsAfter mask m staged i } }

/-- The feature mask of the slots with a property (R161): position i is slot i. -/
def maskOf (f : Nat → Bool) : Nat := flagBits ((List.range Config.featureSlots).map f)

/-- The changed mask of an apply (R161). -/
def Catalogue.changedMask (c : Catalogue) (mask : Nat) (m : ApplyMode) (staged : SiteFlags) : Nat :=
  maskOf fun i => c.flagsAfter mask m staged i != (c.slot i).site

/-- The skipped mask of an apply (R161). -/
def Catalogue.skippedMask (c : Catalogue) (mask : Nat) : Nat := maskOf fun i => mask.testBit i && c.skips i

/-- A POLICY APPLY carried out (R160, R161), with the queue pass that always follows and the removals of R162 (log 29). -/
def policyApplyWork (r : Request) (s : State) : State × Reply :=
  policyCommand r s <|
    match parseApply r.payload with
    | none => (s, .bare .badRequest)
    | some (mask, m) =>
      let staged := s.policy.get r.port
      (({ s with cat := s.cat.applyFlags mask m staged }).applyPass,
       .ok (b8 (s.cat.changedMask mask m staged) ++ b8 (s.cat.skippedMask mask) ++ b1 staged.bits))

/-- POLICY APPLY. -/
def execPolicyApply (p : Port) (s : State) : Host.Outcome State Fault Refusal :=
  serve .policyApply p s policyApplyWork

/-! ### SET CEILING (R163, R164) -/

/-- One pool's runtime fields replaced. -/
def State.withPool (s : State) (k : Pool) (q : PoolState) : State := s.withPools (s.grant.pools.set k q)

/-- The ceiling of a well-formed SET CEILING taken, clamped to the pool's capacity (R163, R164): IMMEDIATE sets the
ceiling, cancels a pending one and is followed by a pass when the ceiling rose; AT_WINDOW_END sets the pending ceiling
alone. -/
def State.setCeiling (s : State) (q : CeilingRequest) : State :=
  let v := min q.value (s.cat.capacity q.pool)
  if q.deferred then s.withPool q.pool { s.pool q.pool with pendingCeiling := some v }
  else
    let s' := s.withPool q.pool { s.pool q.pool with ceiling := some v, pendingCeiling := none }
    if s.ceiling q.pool < v then s'.queuePass else s'

/-- The reply of SET CEILING, with the pool's capacity and the pool as the command left it (R163). The value of a pending
ceiling that is absent is carried as three bytes of 0; R163 gives it no value (log 30). -/
def ceilingBytes (q : CeilingRequest) (capacity : Nat) (after : PoolState) : List Byte :=
  b1 q.pool.val ++ b3 q.value ++ b3 (min q.value capacity) ++ indication (decide (capacity < q.value)) ++
    b3 (after.ceiling.getD 0) ++ b3 after.inUse ++ indication after.pendingCeiling.isSome ++
    b3 (after.pendingCeiling.getD 0)

/-- A SET CEILING carried out (R163, R164). -/
def setCeilingWork (r : Request) (s : State) : State × Reply :=
  policyCommand r s <|
    match parseCeiling r.payload with
    | none => (s, .bare .badRequest)
    | some q => (s.setCeiling q, .ok (ceilingBytes q (s.cat.capacity q.pool) ((s.setCeiling q).pool q.pool)))

/-- SET CEILING. -/
def execSetCeiling (p : Port) (s : State) : Host.Outcome State Fault Refusal := serve .setCeiling p s setCeilingWork

/-! ### SET SHARE (R165, R166) -/

/-- The cap a SET SHARE applies (R165, step 1). -/
def State.appliedCap (s : State) (q : ShareRequest) : Nat := min q.cap (s.cat.capacity q.pool)

/-- The room for a port's reserve on a pool (R165, step 2): the capacity less the other three ports' reserves. -/
def State.reserveRoom (s : State) (q : ShareRequest) : Nat :=
  s.cat.capacity q.pool - ((s.pool q.pool).reserve.set q.port 0).sum

/-- The reserve a SET SHARE applies (R165, step 3). -/
def State.appliedReserve (s : State) (q : ShareRequest) : Nat :=
  let v := min q.reserve (s.reserveRoom q)
  if s.appliedCap q = 0 then v else min v (s.appliedCap q)

/-- The share of a well-formed SET SHARE taken, and the queue pass that always follows (R165, R166). -/
def State.setShare (s : State) (q : ShareRequest) : State :=
  (s.withPool q.pool { s.pool q.pool with
    cap := (s.pool q.pool).cap.set q.port (s.appliedCap q)
    reserve := (s.pool q.pool).reserve.set q.port (s.appliedReserve q) }).queuePass

/-- A SET SHARE carried out (R165). The reply's held of the port named stands as the command's queue pass left it; R165
does not say whether it stands before or after that pass (log 31). -/
def setShareWork (r : Request) (s : State) : State × Reply :=
  policyCommand r s <|
    match parseShare r.payload with
    | none => (s, .bare .badRequest)
    | some q =>
      let cap := s.appliedCap q
      let reserve := s.appliedReserve q
      let s' := s.setShare q
      (s', .ok (b1 q.port.val ++ b1 q.pool.val ++ b3 q.cap ++ b3 q.reserve ++ b3 cap ++ b3 reserve ++
        indication (cap != q.cap) ++ indication (reserve != q.reserve) ++ b3 ((s'.pool q.pool).held.get q.port)))

/-- SET SHARE. -/
def execSetShare (p : Port) (s : State) : Host.Outcome State Fault Refusal := serve .setShare p s setShareWork

end Sys2Proof.Machine
end

