-- ==== Sys2Proof/Machine/PowerCommands.lean ====
section
/-! DEFINITION. The meanings of POWER_ON, POWER_LOSS, RESET_ASSERT and RESET_RELEASE (R18, R136, R140, R157). -/

namespace Sys2Proof.Machine

/-- Values of zero, as power-on takes them without saved ones (R101, R130, R181). -/
def SavedValues.zero : SavedValues := { clock := 0, meters := Quad.fill 0, sequence := 0 }

/-- POWER_ON (R18, R136, R157): the store is as the loss or the trip left it, its image is loaded, its saved values are
restored and the straps are sampled. -/
def execPowerOn (straps : Quad Straps) (s : State) : Host.Outcome State Fault Refusal :=
  .next (s.bringUp s.store.afterLoss s.store.afterLoss.restored straps)

/-- The part without supply: the store is left as R157 gives, and every volatile block holds nothing (log 11). -/
def State.goDark (s : State) : State :=
  { s.bringUp { s.store.afterLoss with image := none } SavedValues.zero (s.ports.map (·.strapPins)) with
    powered := false
    store := s.store.afterLoss }

/-- POWER_LOSS (R157). -/
def execPowerLoss (s : State) : Host.Outcome State Fault Refusal :=
  .next (if s.powered then s.goDark else s)

/-- RESET is asserted (R140): waiting writes are discarded; the blocks are held until the release. -/
def State.enterReset (s : State) : State :=
  { s with resetPin := .asserted, store := { s.store with saveWaiting := false, imageWaiting := false } }

/-- RESET_ASSERT (R140). An assertion while an earlier release still waits for the running write cancels that release, and
the part stays in RESET until the next one; R140 does not name the case, and the choice is the model's (log 35). -/
def execResetAssert (s : State) : Host.Outcome State Fault Refusal :=
  .next (if s.powered then s.enterReset else s)

/-- The levels of the strap pins at the release of the RESET input, which a release that waits for a write samples when
it takes effect; a level that changes in between does not show. R4 samples at the release and does not say which of the
two moments that is: the model's choice (log 28). -/
def State.withStrapPins (s : State) (straps : Quad Straps) : State :=
  { s with ports := Quad.ofFn fun p => { s.ports.get p with strapPins := straps.get p } }

/-- RESET_RELEASE (R136, R140): it takes effect at once, or at the completion of the write in progress. -/
def execResetRelease (straps : Quad Straps) (s : State) : Host.Outcome State Fault Refusal :=
  .next
    (if s.powered && s.resetPin == .asserted then
      let s' := s.withStrapPins straps
      if s.store.busy then { s' with resetPin := .releasing } else s'.leaveReset
    else s)

end Sys2Proof.Machine
end

