-- ==== Sys2Proof/Machine/QueryCommands.lean ====
section
/-! DEFINITION. The meanings of QUERY FEATURE and QUERY POOL (R16, R17, R39, R40). -/

namespace Sys2Proof.Machine

/-- A slot's content as QUERY FEATURE carries it, for a port of an effective class (R17). -/
def featureBytes (c : Catalogue) (cls : Class) (i : Nat) (f : Feature) : List Byte :=
  b1 i ++ b2 f.code ++ b1 f.pool.val ++ b1 f.rate ++ f.scales.toList.flatMap b1 ++ b1 cls.val ++ b1 f.maxQuantity ++
    b4 f.termStart ++ b4 f.termEnd ++ b2 f.grace ++ b1 (termCode (c.slot i).term) ++ f.vendorByte ++
    b1 (c.slot i).site.bits ++ indication (c.locked i)

/-- The slot a QUERY FEATURE finds (R16). -/
def findFeature (c : Catalogue) (q : FeatureQuery) : Option Nat :=
  match q with
  | .byCode code => c.findCode code
  | .fromSlot i => c.findFrom i

/-- A QUERY FEATURE carried out (R16, R17). The site flags and the stored term state it reports are those at the moment it
is carried out, after any POLICY APPLY or change of the term clock since its frame completed. R17 says 'when the command
is taken', and the choice of this moment is the model's (log 4). -/
def queryFeatureWork (r : Request) (s : State) : State × Reply :=
  let b := s.basis r
  needsCatalogue b s <|
    match parseFeatureQuery r.payload with
    | none => (s, .bare .badRequest)
    | some q =>
      match findFeature b.catalogue q with
      | none => (s, .bare .notFound)
      | some i =>
        match b.catalogue.feature i with
        | none => (s, .bare .notFound)
        | some f => (s, .ok (featureBytes b.catalogue b.effClass i f))

/-- QUERY FEATURE. -/
def execQueryFeature (p : Port) (s : State) : Host.Outcome State Fault Refusal :=
  serve .queryFeature p s queryFeatureWork

/-- The room under a limit for a port (R40): what the limit exceeds in_use and the others' unused reserve by. -/
def State.roomUnder (s : State) (k : Pool) (p : Port) (limit : Nat) : Nat :=
  limit - (s.pool k).inUse - s.othersUnused k p

/-- A pool as QUERY POOL carries it to a port, with the pool record of a catalogue (R40). -/
def State.poolBytes (s : State) (c : Catalogue) (k : Pool) (p : Port) : List Byte :=
  let q := s.pool k
  let raised := if s.overdraftOpen k then s.ceiling k + c.allowance k else s.ceiling k
  b1 k.val ++ b3 (c.capacity k) ++ b3 (c.allowance k) ++ b3 (s.ceiling k) ++
    indication q.pendingCeiling.isSome ++ b3 (q.pendingCeiling.getD 0) ++ b3 q.inUse ++
    fours.flatMap (fun n => b3 (q.held.get n) ++ b3 (q.cap.get n) ++ b3 (q.reserve.get n)) ++
    b1 (s.waitingCount k) ++ b1 (s.watches.get k).overdraft.code ++ b1 (s.watches.get k).watch.code ++
    b4 (s.watches.get k).meter ++ b3 (s.othersUnused k p) ++ b3 (s.roomUnder k p (s.ceiling k)) ++
    b3 (s.roomUnder k p raised)

/-- A QUERY POOL carried out (R39, R40). -/
def queryPoolWork (r : Request) (s : State) : State × Reply :=
  let b := s.basis r
  needsCatalogue b s <|
    match parsePool r.payload with
    | none => (s, .bare .badRequest)
    | some k => (s, .ok (s.poolBytes b.catalogue k r.port))

/-- QUERY POOL. -/
def execQueryPool (p : Port) (s : State) : Host.Outcome State Fault Refusal := serve .queryPool p s queryPoolWork

end Sys2Proof.Machine
end

