-- ==== Sys2Proof/Machine/Verify.lean ====
section
/-! DEFINITION. The sequence a staging accepts (R145) and the verification of STAGE FINISH (R147 to R149). -/

namespace Sys2Proof.Machine

/-! ### The sequence (R145) -/

/-- The body length of each record kind (R144). -/
def bodyLength : Nat → Option Nat
  | 1 => some 17
  | 2 => some 2
  | 3 => some 13
  | 4 => some 21
  | 5 => some 20
  | 6 => some 5
  | _ => none

/-- The slot index of the last record of a kind, or none (R145). -/
def lastIndex (area : List ImageRecord) (kind : Nat) : Option Nat :=
  (area.reverse.find? fun r => r.isKind kind).map ImageRecord.index

/-- The last record held is of the kind. -/
def lastIs (area : List ImageRecord) (kind : Nat) : Bool :=
  match area.getLast? with
  | some r => r.isKind kind
  | none => false

/-- An index above the last one held of its kind (R145). -/
def isAbove (last : Option Nat) (i : Nat) : Bool :=
  match last with
  | none => true
  | some j => decide (j < i)

/-- The record kinds and indices the table of R145 accepts next. -/
def placeAccepts (area : List ImageRecord) (kind index : Nat) : Bool :=
  let n := area.length
  if lastIs area kindTrailer then false
  else if n = 0 then kind == kindHeader
  else if n ≤ 4 then kind == kindClass && index == n - 1
  else if n ≤ 8 then kind == kindPool && index == n - 5
  else if kind = kindFeature then
    !lastIs area kindBundle && decide (index < Config.featureSlots) && isAbove (lastIndex area kindFeature) index
  else if kind = kindBundle then decide (index < Config.bundleSlots) && isAbove (lastIndex area kindBundle) index
  else kind == kindTrailer

/-- The record is accepted: a known kind, its body length, and a place in the sequence (R145). -/
def acceptsRecord (area : List ImageRecord) (r : ImageRecord) : Bool :=
  bodyLength r.kind.toNat == some r.body.length && placeAccepts area r.kind.toNat r.index

/-- The kinds accepted next, HEADER in bit 0 to TRAILER in bit 5 (R145, R193): those of which some record would be
accepted (log 16). -/
def kindsNext (area : List ImageRecord) : List Byte :=
  b1 (flagBits ([1, 2, 3, 4, 5, 6].map fun kind => (List.range 64).any fun i => placeAccepts area kind i))

/-- The payload of a STAGE RECORD refusal (R145). -/
def refusalBytes (area : List ImageRecord) : List Byte :=
  b1 area.length ++ kindsNext area ++ b1 (indexCode (lastIndex area kindFeature)) ++
    b1 (indexCode (lastIndex area kindBundle))

/-! ### Field tests (R149) -/

/-- The value lies between two bounds, both included. -/
def within (lo hi n : Nat) : Bool := decide (lo ≤ n) && decide (n ≤ hi)

/-- HEADER tests (R149). -/
def headerInRange (body : List Byte) : Bool :=
  within 0 5 (field body 8 1) && within 0 3 (field body 9 1) && within 1 8 (field body 10 1) &&
    within 0 64 (field body 11 1) &&
    fours.all (fun p => within 0 3 (field body (12 + p.val) 1) || field body (12 + p.val) 1 == 0x80) &&
    within 1 64 (field body 16 1)

/-- POOL tests (R149). -/
def poolInRange (body : List Byte) : Bool :=
  within 0 1048575 (field body 1 3) && within 0 262143 (field body 4 3) && within 0 1 (field body 7 1) &&
    within 1 1048575 (field body 8 3) && within 1 8 (field body 11 1) && within 1 (field body 11 1) (field body 12 1)

/-- The FEATURE fields under FIELD_RANGE (R149). -/
def featureInRange (body : List Byte) : Bool :=
  within 0 3 (field body 3 1) && within 1 255 (field body 4 1) &&
    fours.all (fun c => within 0 64 (field body (5 + c.val) 1)) && within 1 64 (field body 9 1) &&
    within 0 7 (field body 20 1)

/-- A record of a kind among earlier ones carries the code of this body (R149). -/
def codeRepeated (earlier : List ImageRecord) (kind : Nat) (body : List Byte) : Bool :=
  earlier.any fun r => r.isKind kind && field r.body 1 2 == field body 1 2

/-- FEATURE tests, in order (R149). -/
def featureFault (earlier : List ImageRecord) (body : List Byte) : Option VerifyCode :=
  if isCode (field body 1 2) = false then some .codeInvalid
  else if codeRepeated earlier kindFeature body then some .codeRepeated
  else if featureInRange body = false then some .fieldRange
  else if field body 14 4 ≤ field body 10 4 then some .termOrder
  else none

/-- The first positions hold feature indices and the others 255, with at least one held (R149). -/
def linesShaped (body : List Byte) : Bool :=
  let is := (bundlePositions body).map (·.1)
  let held := is.takeWhile fun i => i != 255
  !held.isEmpty && held.all (fun i => decide (i < Config.featureSlots)) && (is.drop held.length).all fun i => i == 255

/-- The tests of a bundle's held lines, line by line in position order (R149, log 17), after the indices seen so far. -/
def lineFaults (earlier : List ImageRecord) : List Nat → List BundleLine → Option VerifyCode
  | _, [] => none
  | seen, l :: ls =>
    match bodyAt earlier kindFeature l.feature with
    | none => some .lineAbsent
    | some f =>
      if seen.contains l.feature then some .lineRepeated
      else if within 1 64 l.base = false then some .fieldRange
      else if field f 9 1 < l.base then some .lineQuantity
      else lineFaults earlier (l.feature :: seen) ls

/-- BUNDLE tests, in order (R149). -/
def bundleFault (earlier : List ImageRecord) (body : List Byte) : Option VerifyCode :=
  if isCode (field body 1 2) = false then some .codeInvalid
  else if codeRepeated earlier kindBundle body then some .codeRepeated
  else if within 0 32 (field body 3 1) = false then some .fieldRange
  else if linesShaped body = false then some .lineShape
  else lineFaults earlier [] (bundleLines body)

/-- The first failing test of one record after the earlier ones (R149). -/
def recordFault (earlier : List ImageRecord) (r : ImageRecord) : Option VerifyCode :=
  match r.kind.toNat with
  | 1 => if headerInRange r.body then none else some .fieldRange
  | 2 => if within 0 3 (field r.body 1 1) then none else some .fieldRange
  | 3 => if poolInRange r.body then none else some .fieldRange
  | 4 => featureFault earlier r.body
  | 5 => bundleFault earlier r.body
  | _ => none

/-- Step 5 of R147: the first failing record, numbered from the records already passed. -/
def firstRecordFault : List ImageRecord → List ImageRecord → Option (VerifyCode × Nat)
  | _, [] => none
  | earlier, r :: rs =>
    match recordFault earlier r with
    | some c => some (c, earlier.length + 1)
    | none => firstRecordFault (earlier ++ [r]) rs

/-- The CRC-32 of records (R148): each kind byte and then its body, in order. -/
def recordsCrc (rs : List ImageRecord) : Nat := (crc32 (rs.flatMap fun r => recordStream r.kind r.body)).toNat

/-- The steps of R147 with the active issue number (none in NO_IMAGE): the first failure's code and record number. -/
def verifyFault (area : List ImageRecord) (active : Option Nat) : Option (VerifyCode × Nat) :=
  match area.getLast? with
  | none => some (.noTrailer, 0)
  | some t =>
    let body := area.dropLast
    if t.isKind kindTrailer = false then some (.noTrailer, 0)
    else if field t.body 0 1 ≠ body.length then some (.countMismatch, area.length)
    else if field t.body 1 4 ≠ recordsCrc body then some (.crcMismatch, area.length)
    else if (match active with | some i => decide ((headOf body).header.issue ≤ i) | none => false) then
      some (.issueNotNewer, 1)
    else firstRecordFault [] body

/-- The verified summary of a staging area (R146). -/
def summaryOf (area : List ImageRecord) : Summary :=
  { issue := (headOf area).header.issue
    records := area.length
    features := (area.filter fun r => r.isKind kindFeature).length
    bundles := (area.filter fun r => r.isKind kindBundle).length
    crc := recordsCrc area.dropLast }

/-- A summary as STAGE FINISH carries it (R146). -/
def Summary.bytes (x : Summary) : List Byte := b4 x.issue ++ b1 x.records ++ b1 x.features ++ b1 x.bundles ++ b4 x.crc

end Sys2Proof.Machine
end

