-- ==== Sys2Proof/Machine/StagingCommands.lean ====
section
/-! DEFINITION. The meanings of the five staging commands (R142 to R154). -/

namespace Sys2Proof.Machine

/-- The stager replaced. -/
def State.withStager (s : State) (t : Stager) : State := { s with stager := t }

/-- A staging command that passed the privilege test, taken from the stager, sets the staging timer to 0 (R142). -/
def State.noteStaging (s : State) (p : Port) : State :=
  if s.stager.port = some p then s.withStager { s.stager with timer := 0 } else s

/-- The tests every staging command passes first (R142): privilege, WRITING, and the stager test where it applies. -/
def staging (stagerOnly : Bool) (r : Request) (s : State) (own : State → State × Reply) : State × Reply :=
  needsAdmin (s.basis r) s <|
    let s' := s.noteStaging r.port
    if s'.stager.state = .writing then (s', .bare .storeBusy)
    else if stagerOnly && decide (s'.stager.port ≠ some r.port) then (s', .bare .notPermitted)
    else own s'

/-- The stager's port number as a reply carries it. -/
def Stager.portByte (t : Stager) : List Byte := b1 (match t.port with | some p => p.val | none => 255)

/-! ### STAGE BEGIN (R143) -/

/-- A STAGE BEGIN carried out (R143). -/
def stageBeginWork (r : Request) (s : State) : State × Reply :=
  staging false r s fun s =>
    if r.payload ≠ [] then (s, .bare .badRequest)
    else if s.stager.state = .idle then
      (s.withStager { state := .opened, port := some r.port, area := [], summary := none, timer := 0 },
       .ok (b1 r.port.val ++ b1 0))
    else
      (s, { status := .stageHeld, payload := s.stager.portByte ++ b1 s.stager.state.code ++ b1 s.stager.area.length })

/-- STAGE BEGIN. -/
def execStageBegin (p : Port) (s : State) : Host.Outcome State Fault Refusal := serve .stageBegin p s stageBeginWork

/-! ### STAGE RECORD (R145) -/

/-- A record offered to an OPEN staging (R145). -/
def State.offerRecord (s : State) (payload : List Byte) : State × Reply :=
  match (parseRecord payload).filter (acceptsRecord s.stager.area) with
  | some rec =>
    (s.withStager { s.stager with area := s.stager.area ++ [rec] }, .ok (b1 (s.stager.area.length + 1)))
  | none => (s, { status := .badRequest, payload := refusalBytes s.stager.area })

/-- A STAGE RECORD carried out (R145); in COMPLETE it is refused without more (log 16). -/
def stageRecordWork (r : Request) (s : State) : State × Reply :=
  staging true r s fun s =>
    if s.stager.state = .opened then s.offerRecord r.payload else (s, .bare .badRequest)

/-- STAGE RECORD. -/
def execStageRecord (p : Port) (s : State) : Host.Outcome State Fault Refusal := serve .stageRecord p s stageRecordWork

/-! ### STAGE FINISH (R146, R147) -/

/-- The active issue number a new image must exceed: none in NO_IMAGE (R147). -/
def Catalogue.activeIssue (c : Catalogue) : Option Nat := c.head.map fun h => h.header.issue

/-- An OPEN staging verified (R146): COMPLETE with its summary, or discarded. The active issue is that of the catalogue
the STAGE FINISH was taken under (R147). -/
def State.verifyStaging (s : State) (c : Catalogue) : State × Reply :=
  match verifyFault s.stager.area c.activeIssue with
  | some (code, n) => (s.discardStaging, { status := .badRequest, payload := b1 code.code ++ b1 n })
  | none =>
    let x := summaryOf s.stager.area
    (s.withStager { s.stager with state := .complete, summary := some x }, .ok x.bytes)

/-- A STAGE FINISH carried out (R146). -/
def stageFinishWork (r : Request) (s : State) : State × Reply :=
  staging true r s fun s =>
    if r.payload ≠ [] then (s, .bare .badRequest)
    else
      match s.stager.summary with
      | some x => (s, .ok x.bytes)
      | none => s.verifyStaging (s.basis r).catalogue

/-- STAGE FINISH. -/
def execStageFinish (p : Port) (s : State) : Host.Outcome State Fault Refusal := serve .stageFinish p s stageFinishWork

/-! ### ACTIVATE (R150) -/

/-- The activation is taken (R150): WRITING, the timer stopped at 0, the image write asked for. -/
def State.takeActivation (s : State) : State :=
  (s.withStager { s.stager with state := .writing, timer := 0 }).askImageWrite

/-- The Store Controller is saving, so that an image write asked for now waits (R150). -/
def Store.isSaving (st : Store) : Bool :=
  match st.write with
  | .saving _ => true
  | .idle => false
  | .imageWrite => false

/-- An ACTIVATE carried out (R150). -/
def activateWork (r : Request) (s : State) : State × Reply :=
  staging true r s fun s =>
    match parseNumber 4 r.payload with
    | none => (s, .bare .badRequest)
    | some issue =>
      match s.stager.summary with
      | none => (s, .bare .badRequest)
      | some x =>
        if issue ≠ x.issue then (s, .bare .badRequest)
        else (s.takeActivation, .ok (b4 issue ++ indication s.store.isSaving))

/-- ACTIVATE. -/
def execActivate (p : Port) (s : State) : Host.Outcome State Fault Refusal := serve .activate p s activateWork

/-! ### STAGE ABORT (R154) -/

/-- A STAGE ABORT carried out (R154). -/
def stageAbortWork (r : Request) (s : State) : State × Reply :=
  staging true r s fun s =>
    if r.payload ≠ [] then (s, .bare .badRequest)
    else (s.discardStaging, .ok (b1 s.stager.area.length))

/-- STAGE ABORT. -/
def execStageAbort (p : Port) (s : State) : Host.Outcome State Fault Refusal := serve .stageAbort p s stageAbortWork

end Sys2Proof.Machine
end

