-- ==== Sys2Proof/Machine/StatusCommands.lean ====
section
/-! DEFINITION. The meanings of JOURNAL STATUS (R180), READ NOTICE (R189), SET NOTICE (R190) and IDENTIFY (R192). -/

namespace Sys2Proof.Machine

/-! ### JOURNAL STATUS (R180) -/

/-- The batch limit and request mode a JOURNAL STATUS carries: those of the active header, or the bytes of none
(log 15). -/
def settingBytes (c : Catalogue) : List Byte :=
  match c.head with
  | some h => b1 h.header.batchLimit ++ b1 h.header.requestMode.code
  | none => [Config.noneBatchLimit, Config.noneRequestMode]

/-- The oldest record's sequence number, or one byte of indication that there is none (log 15). -/
def Journal.oldestBytes (j : Journal) : List Byte :=
  match j.fifo.head? with
  | some r => b4 r.sequence
  | none => indication true

/-- The reply of JOURNAL STATUS (R180). -/
def journalBytes (c : Catalogue) (j : Journal) : List Byte :=
  b2 j.fifo.length ++ b2 j.rv ++ b2 (Config.journalPlaces - j.fifo.length - j.rv) ++ b2 j.gap ++
    b1 j.batch.code ++ b1 j.remaining ++ b1 j.bytePos ++ indication c.serving ++ settingBytes c ++
    j.oldestBytes ++ b4 j.nextSeq

/-- A JOURNAL STATUS carried out (R180), at one moment: its device state and settings are those of the active header,
which is the one it was taken under, since it is finished before a completion (R1, log 4). -/
def journalStatusWork (r : Request) (s : State) : State × Reply :=
  if r.payload ≠ [] then (s, .bare .badRequest) else (s, .ok (journalBytes s.cat s.journal))

/-- JOURNAL STATUS. -/
def execJournalStatus (p : Port) (s : State) : Host.Outcome State Fault Refusal :=
  serve .journalStatus p s journalStatusWork

/-! ### READ NOTICE (R189) -/

/-- The kind and payload of the oldest notice, or kind NONE (R189, R193). -/
def oldestNotice (xs : List Notice) : List Byte :=
  match xs with
  | [] => b1 0
  | x :: _ => x.bytes

/-- The port after a READ NOTICE: the oldest notice is gone and OVERFLOW is clear (R189). -/
def PortIf.takeNotice (q : PortIf) : PortIf := { q with notices := q.notices.tail, overflow := false }

/-- A READ NOTICE carried out (R189). -/
def readNoticeWork (r : Request) (s : State) : State × Reply :=
  if r.payload ≠ [] then (s, .bare .badRequest)
  else
    let q := s.ports.get r.port
    (s.modifyPort r.port PortIf.takeNotice,
     .ok (oldestNotice q.notices ++ indication q.overflow ++ b1 q.notices.tail.length))

/-- READ NOTICE. -/
def execReadNotice (p : Port) (s : State) : Host.Outcome State Fault Refusal := serve .readNotice p s readNoticeWork

/-! ### SET NOTICE (R190) -/

/-- The port under new settings (R190, R191): a change of the ATTN mode starts no pulse and ends one (log 20). -/
def PortIf.adopt (q : PortIf) (x : NoticeSettings) : PortIf :=
  { q with settings := x, pulse := q.pulse && q.settings.attn == x.attn }

/-- A SET NOTICE carried out (R190). -/
def setNoticeWork (r : Request) (s : State) : State × Reply :=
  match parseSettings r.payload with
  | none => (s, .bare .badRequest)
  | some x => (s.modifyPort r.port fun q => q.adopt x, .ok x.bytes)

/-- SET NOTICE. -/
def execSetNotice (p : Port) (s : State) : Host.Outcome State Fault Refusal := serve .setNotice p s setNoticeWork

/-! ### IDENTIFY (R192) -/

/-- The code of the device state (R193). -/
def servingCode (serving : Bool) : Nat := if serving then 1 else 0

/-- The active issue number, 0 in NO_IMAGE (R136, R192). -/
def Catalogue.issue (c : Catalogue) : Nat := (c.head.map fun h => h.header.issue).getD 0

/-- The reply of IDENTIFY to a port, under the basis its request was taken under (R192, log 4). -/
def identifyBytes (b : Basis) (p : Port) (strap : Class) : List Byte :=
  b4 Config.partCode ++ b1 (servingCode b.serving) ++ b4 b.catalogue.issue ++ b1 p.val ++ b1 b.effClass.val ++
    b1 strap.val ++ b.privileges.byte

/-- An IDENTIFY carried out (R192). -/
def identifyWork (r : Request) (s : State) : State × Reply :=
  if r.payload ≠ [] then (s, .bare .badRequest)
  else (s, .ok (identifyBytes (s.basis r) r.port (s.ports.get r.port).strapClass))

/-- IDENTIFY. -/
def execIdentify (p : Port) (s : State) : Host.Outcome State Fault Refusal := serve .identify p s identifyWork

end Sys2Proof.Machine
end

