-- ==== Sys2Proof/Machine/TimeCommands.lean ====
section
/-! DEFINITION. The meanings of TIME ASSERT, WINDOW CLOSE, the second tick with the rows that name its outcomes
(SECOND_TICK, MINUTE_ADVANCE, WINDOW_TIMER_EXPIRY, STAGING_TIMEOUT), and the WCLK events (chapter 5, R156). -/

namespace Sys2Proof.Machine

/-! ### TIME ASSERT (R98) -/

/-- The furthest value an assertion may reach: 1,440 minutes on, without wrapping (R98). -/
def assertReach (clock : Nat) : Nat := min Config.maxWord (clock + Config.assertLimit)

/-- An assertion of a value not below the clock (R98): the clock moves to it or to the furthest value, and a change
writes a droppable TIME record after it (log 18). -/
def State.assertTime (s : State) (p : Port) (v : Nat) : State :=
  let clock := min v (assertReach s.time.clock)
  if clock = s.time.clock then s
  else (s.changeClock clock).recordDroppable (RecordBody.plain .time p 0 v 0 (Quad.fill 0))

/-- A TIME ASSERT carried out (R98). -/
def timeAssertWork (r : Request) (s : State) : State × Reply :=
  needsTime (s.basis r) s <|
    match parseNumber 4 r.payload with
    | none => (s, .bare .badRequest)
    | some v =>
      if v < s.time.clock then (s, { status := .timeHeld, payload := b4 s.time.clock })
      else
        (s.assertTime r.port v,
         .ok (b4 (min v (assertReach s.time.clock)) ++ b4 v ++ indication (decide (assertReach s.time.clock < v))))

/-- TIME ASSERT. -/
def execTimeAssert (p : Port) (s : State) : Host.Outcome State Fault Refusal := serve .timeAssert p s timeAssertWork

/-! ### WINDOW CLOSE (R93) -/

/-- A WINDOW CLOSE carried out (R93). One taken before the completion of an activation is finished before it, so its
window end is taken under the old catalogue and its reply carries the old settings (R1, R90, log 4). -/
def windowCloseWork (r : Request) (s : State) : State × Reply :=
  needsAdmin (s.basis r) s <|
    if r.payload ≠ [] then (s, .bare .badRequest)
    else
      (s.produceWindowEnd,
       .ok (b1 s.time.mode.code ++ b2 s.time.length ++ b2 s.time.windowTimer ++ b4 s.time.clock))

/-- WINDOW CLOSE. -/
def execWindowClose (p : Port) (s : State) : Host.Outcome State Fault Refusal := serve .windowClose p s windowCloseWork

/-! ### Second ticks (R87, R88, R91, R156; log 6, log 8) -/

/-- SECOND_TICK (R87): the TREF edges up to the prescaler's wrap. -/
def execSecondTick (s : State) : Host.Outcome State Fault Refusal := whenRunning s State.tick

/-- The next second tick wraps the minute count (R88). -/
def State.minuteIsDue (s : State) : Bool := decide (Config.minuteSeconds ≤ s.time.minuteCount + 1)

/-- MINUTE_ADVANCE (R88): the second tick that wraps the minute count; any other tick is not this event. -/
def execMinuteAdvance (s : State) : Host.Outcome State Fault Refusal :=
  whenRunning s fun s => if s.minuteIsDue then s.tick else s

/-- The next second tick raises the window timer to the window length in AUTO (R91). -/
def State.windowIsDue (s : State) : Bool :=
  s.time.mode == .auto && decide (min Config.maxWindowTimer (s.time.windowTimer + 1) = s.time.length)

/-- WINDOW_TIMER_EXPIRY (R91): the second tick that raises the window timer to the window length in AUTO. -/
def execWindowTimerExpiry (s : State) : Host.Outcome State Fault Refusal :=
  whenRunning s fun s => if s.windowIsDue then s.tick else s

/-- The next second tick raises the staging timer to 600 (R156). -/
def State.timeoutIsDue (s : State) : Bool := s.stager.open_ && decide (Config.stagingSeconds ≤ s.stager.timer + 1)

/-- STAGING_TIMEOUT (R156): the second tick that raises the staging timer to 600. -/
def execStagingTimeout (s : State) : Host.Outcome State Fault Refusal :=
  whenRunning s fun s => if s.timeoutIsDue then s.tick else s

/-! ### WCLK (R94) -/

/-- The state of WCLK set. -/
def State.withWclk (s : State) (w : WclkState) : State := { s with time := { s.time with wclk := w } }

/-- A low-to-high change of WCLK (R94): counted when ARMED, and then a window end in STROBE mode alone. -/
def State.wclkRises (s : State) : State :=
  match s.time.wclk with
  | .spent => s
  | .armed =>
    match s.time.mode with
    | .strobe => (s.withWclk .spent).produceWindowEnd
    | .auto => s.withWclk .spent

/-- WCLK_RISING_EDGE (R94). -/
def execWclkRisingEdge (s : State) : Host.Outcome State Fault Refusal := whenRunning s State.wclkRises

/-- WCLK_LOW_SEEN (R94). -/
def execWclkLowSeen (s : State) : Host.Outcome State Fault Refusal := whenRunning s fun s => s.withWclk .armed

end Sys2Proof.Machine
end

