-- ==== Sys2Proof/Machine/WaitCommands.lean ====
section
/-! DEFINITION. The meanings of CANCEL WAIT and QUERY WAIT (R80, R81). -/

namespace Sys2Proof.Machine

/-- An entry cancelled (R80): removed with the notice its cause gives, and a queue pass when it was blocking. -/
def State.cancel (s : State) (cause : Option WaitCause) (e : WaitEntry) : State × Reply :=
  let s' := s.endWait cause e
  (if e.blocking then s'.queuePass else s',
   .ok (b2 (s.ticket e) ++ b1 e.port.val ++ b4 e.tag ++ b1 e.remaining ++ indication e.blocking))

/-- A CANCEL WAIT carried out (R80). -/
def cancelWaitWork (r : Request) (s : State) : State × Reply :=
  let b := s.basis r
  needsCatalogue b s <|
    match parseTicket r.payload with
    | none => (s, .bare .badRequest)
    | some t =>
      match s.findTicket t with
      | none => (s, .bare .notFound)
      | some e =>
        if e.port = r.port then s.cancel none e
        else if b.privileges.admin then s.cancel (some .cancelled) e
        else (s, .bare .notPermitted)

/-- CANCEL WAIT. -/
def execCancelWait (p : Port) (s : State) : Host.Outcome State Fault Refusal := serve .cancelWait p s cancelWaitWork

/-- A line as QUERY WAIT carries it (R81). -/
def waitLineBytes (c : Catalogue) (l : Line) : List Byte :=
  b1 (indexCode l.index) ++ b2 l.code ++ b1 l.quantity ++ b1 l.pool.val ++ b2 l.cost ++ b1 (termCode (c.lineTerm l))

/-- A waiting entry as QUERY WAIT carries it (R81). -/
def State.waitBytes (s : State) (e : WaitEntry) : List Byte :=
  b2 (s.ticket e) ++ b1 e.port.val ++ b4 e.tag ++ b2 (bundleCode e.bundle) ++ b1 (multiplierCode e.bundle) ++
    e.lines.flatMap (waitLineBytes s.cat) ++ tokens e.charges ++ indication e.blocking ++ b1 e.remaining ++
    e.arrival.bytes ++ e.last.bytes ++ b1 (s.entriesAhead e.slot)

/-- A QUERY WAIT carried out (R81). -/
def queryWaitWork (r : Request) (s : State) : State × Reply :=
  needsCatalogue (s.basis r) s <|
    match parseTicket r.payload with
    | none => (s, .bare .badRequest)
    | some t =>
      match s.findTicket t with
      | none => (s, .bare .notFound)
      | some e => (s, .ok (s.waitBytes e))

/-- QUERY WAIT. -/
def execQueryWait (p : Port) (s : State) : Host.Outcome State Fault Refusal := serve .queryWait p s queryWaitWork

end Sys2Proof.Machine
end

