-- ==== Sys2Proof/Machine/TakenCommands.lean ====
section
/-! DEFINITION. Requests taken that an event finds not yet carried out and that are finished before it: staging commands
at a port reset (R155), and what does not outlast the completion of an activation (R1, R152, R169). -/

namespace Sys2Proof.Machine

/-- The work of each command. -/
def workOf (c : Command) : Request → State → State × Reply :=
  match c with
  | .checkout => checkoutWork
  | .returnCheckout => returnWork
  | .returnTag => returnTagWork
  | .releasePort => releasePortWork
  | .queryCheckout => queryCheckoutWork
  | .heartbeat => heartbeatWork
  | .cancelWait => cancelWaitWork
  | .queryWait => queryWaitWork
  | .queryFeature => queryFeatureWork
  | .queryPool => queryPoolWork
  | .timeAssert => timeAssertWork
  | .windowClose => windowCloseWork
  | .stageBegin => stageBeginWork
  | .stageRecord => stageRecordWork
  | .stageFinish => stageFinishWork
  | .activate => activateWork
  | .stageAbort => stageAbortWork
  | .policyStage => policyStageWork
  | .policyApply => policyApplyWork
  | .setCeiling => setCeilingWork
  | .setShare => setShareWork
  | .journalStatus => journalStatusWork
  | .readNotice => readNoticeWork
  | .setNotice => setNoticeWork
  | .identify => identifyWork

/-- A staging command (R142). -/
def isStaging (c : Command) : Bool :=
  match c with
  | .stageBegin | .stageRecord | .stageFinish | .activate | .stageAbort => true
  | .checkout | .returnCheckout | .returnTag | .releasePort | .queryCheckout | .heartbeat
  | .cancelWait | .queryWait | .queryFeature | .queryPool | .timeAssert | .windowClose
  | .policyStage | .policyApply | .setCeiling | .setShare
  | .journalStatus | .readNotice | .setNotice | .identify => false

/-- One request carried out whole, where it is to be finished. -/
def State.finishRequest (s : State) (due : Request → Bool) (r : Request) : State :=
  if due r then s.carryOut r.command r.port r (workOf r.command) else s

/-- The requests to be finished are carried out whole, in the order they were passed on. -/
def State.finish (s : State) (due : Request → Bool) : State := s.requests.foldl (fun t r => t.finishRequest due r) s

/-- The staging commands that a port has passed on are finished before its reset (R155; log 3). -/
def State.finishStaging (s : State) (p : Port) : State := s.finish fun r => decide (r.port = p) && isStaging r.command

/-- The requests that do not outlast the completion of an activation are finished before it, under the catalogue they
were taken under (R1, R152, R169; log 4). -/
def State.finishTaken (s : State) : State := s.finish fun r => !outlasts r.command

end Sys2Proof.Machine
end

