-- ==== Sys2Proof/Machine/PrstCommands.lean ====
section
/-! DEFINITION. The meanings of PRST_ASSERT and PRST_RELEASE (R83, R155, R186). -/

namespace Sys2Proof.Machine

/-- A port reset: the port's part, the staging commands taken before it, the Grant Engine's part and the Image Stager's
(R83, R155, R186). -/
def State.resetPort (s : State) (p : Port) : State :=
  (((s.clearPort p).finishStaging p).dropEntries p).abandonStaging p

/-- PRST_ASSERT (R186): a port reset where PRST was not already asserted; in RESET or without supply only the level of
the pin changes (log 12). -/
def execPrstAssert (p : Port) (s : State) : Host.Outcome State Fault Refusal :=
  .next
    (if s.running && !(s.ports.get p).prst then s.resetPort p
    else s.modifyPort p fun q => { q with prst := true })

/-- PRST_RELEASE (R186). -/
def execPrstRelease (p : Port) (s : State) : Host.Outcome State Fault Refusal :=
  .next (s.modifyPort p fun q => { q with prst := false })

end Sys2Proof.Machine
end

