-- ==== Sys2Proof/Machine/WindowCommands.lean ====
section
/-! DEFINITION. The meanings of the window ends as their receivers take them (R90): the Sweep Unit (R109 to R113), the
Grant Engine (R78), the Demand Watch units (R122 to R135) and the Port Interfaces (R188). -/

namespace Sys2Proof.Machine

/-- The window ends still to be taken replaced. -/
def State.withDue (s : State) (d : WindowEnds) : State := { s with due := d }

/-! ### The Sweep Unit's walk (R109 to R113) -/

/-- The Sweep Unit replaced. -/
def State.withSweep (s : State) (w : Sweep) : State := { s with sweep := w }

/-- The highest-numbered HELD slot (R111). -/
def State.highestHeld (s : State) : Option Nat := (s.slotsWhere fun _ => true).getLast?

/-- The reclaim threshold of the active header, none in NO_IMAGE (R111). -/
def Catalogue.reclaimThreshold (c : Catalogue) : Option Nat := c.head.map fun h => h.header.threshold

/-- A walk starts, with its limit and threshold taken now; with no HELD slot it ends at once (R111). -/
def State.startWalk (s : State) : State :=
  match s.highestHeld with
  | none => s.withSweep Sweep.initial
  | some l =>
    s.withSweep { state := .sweeping, position := 0, limit := some l, threshold := s.cat.reclaimThreshold
                  pendingEnd := false }

/-- A walk ends: a pending window end starts the next walk at once (R111). -/
def State.endWalk (s : State) : State :=
  if s.sweep.pendingEnd then s.startWalk else s.withSweep Sweep.initial

/-- The Sweep Unit takes a window end (R110). -/
def State.sweepTakes (s : State) : State :=
  let s' := s.withDue { s.due with sweep := s.due.sweep - 1 }
  match s.sweep.state with
  | .idle => s'.startWalk
  | .sweeping => s'.withSweep { s.sweep with pendingEnd := true }

/-- SWEEP_WINDOW_END (R110): a window end that the Timebase has produced and the Sweep Unit has not yet taken. -/
def execSweepWindowEnd (s : State) : Host.Outcome State Fault Refusal :=
  whenRunning s fun s => if 0 < s.due.sweep then s.sweepTakes else s

/-- The walk may reach a slot next: it is at or above the position and at most the limit, and every slot between is
FREE and passed over (R111, log 13). -/
def State.walkReaches (s : State) (slot : Nat) : Bool :=
  match s.sweep.state, s.sweep.limit with
  | .sweeping, some l =>
    decide (s.sweep.position ≤ slot) && decide (slot ≤ l) &&
      (List.range slot).all fun i => decide (i < s.sweep.position) || (s.checkoutAt i).isNone
  | _, _ => false

/-- A checkout after steps 1 and 2 of its visit (R112). -/
def Checkout.visited (e : Checkout) : Checkout :=
  { e with missed := if e.renewed then 0 else e.missed + 1, renewed := false }

/-- The checkout reaches the walk's threshold at its visit (R112, step 3). -/
def State.overdue (s : State) (e : Checkout) : Bool :=
  match s.sweep.threshold with
  | some r => decide (r ≤ e.visited.missed)
  | none => false

/-- A reclaim (R113): the release, the RECLAIMED notice to the owner, and a queue pass. -/
def State.reclaimSlot (s : State) (slot : Nat) (e : Checkout) : State :=
  ((s.release slot e .reclaim).notify e.owner
    (.reclaimed (handleOf (s.generationAt slot) slot) e.tag)).queuePass

/-- The visit of a slot (R112); a FREE slot is passed over. -/
def State.visitSlot (s : State) (slot : Nat) : State :=
  match s.checkoutAt slot with
  | none => s
  | some e =>
    if s.overdue e then s.reclaimSlot slot e.visited
    else s.setSlot slot { generation := s.generationAt slot, entry := some e.visited }

/-- The walk goes past a slot it has visited, and ends after the limit (R111). -/
def State.passSlot (s : State) (slot : Nat) : State :=
  let s' := s.withSweep { s.sweep with position := slot + 1 }
  if s.sweep.limit = some slot then s'.endWalk else s'

/-- SWEEP_VISIT (R112). A slot the walk does not reach next is not visited (log 2). -/
def execSweepVisit (slot : Nat) (s : State) : Host.Outcome State Fault Refusal :=
  whenRunning s fun s => if s.walkReaches slot then (s.visitSlot slot).passSlot slot else s

/-- The visit of a slot would reclaim its checkout (R112, step 3). -/
def State.wouldReclaim (s : State) (slot : Nat) : Bool :=
  match s.checkoutAt slot with
  | some e => s.overdue e
  | none => false

/-- RECLAIM (R113): the visit that reclaims; a slot whose visit would not is not this event (log 6). -/
def execReclaim (slot : Nat) (s : State) : Host.Outcome State Fault Refusal :=
  whenRunning s fun s =>
    if s.walkReaches slot && s.wouldReclaim slot then (s.visitSlot slot).passSlot slot else s

/-! ### The Grant Engine's window-end work (R78) -/

/-- The remaining windows of every entry fall by one (R78, step 1). -/
def State.countDown (s : State) : State :=
  s.withQueue (s.grant.queue.map fun e => { e with remaining := e.remaining - 1 })

/-- The entries whose remaining windows have reached 0, in queue order (R78, step 2). -/
def State.expired (s : State) : List WaitEntry := s.grant.queue.filter fun e => e.remaining == 0

/-- A pending ceiling applied, clamped to the capacity as it stands (R22, R164). -/
def PoolState.applyPending (q : PoolState) (capacity : Nat) : PoolState :=
  match q.pendingCeiling with
  | none => q
  | some v => { q with ceiling := some (min v capacity), pendingCeiling := none }

/-- The pending ceilings of every pool applied (R78, step 3). -/
def State.applyPendings (s : State) : State :=
  s.withPools (Quad.ofFn fun k => (s.pool k).applyPending (s.cat.capacity k))

/-- The Grant Engine's window-end work: count down, expire, pending ceilings, one queue pass (R78). -/
def State.grantWork (s : State) : State :=
  let s' := s.countDown
  ((s'.endWaits (some .expired) s'.expired).applyPendings).queuePass

/-- The Grant Engine takes one window end. -/
def State.grantTakes (s : State) : State := (s.withDue { s.due with grant := s.due.grant - 1 }).grantWork

/-- GRANT_ENGINE_WINDOW_END (R78). -/
def execGrantEngineWindowEnd (s : State) : Host.Outcome State Fault Refusal :=
  whenRunning s fun s => if 0 < s.due.grant then s.grantTakes else s

/-- The next window end expires the entry of a wait slot (R78). -/
def State.expiresNext (s : State) (slot : Nat) : Bool :=
  match s.waiting slot with
  | some e => decide (e.remaining ≤ 1)
  | none => false

/-- WAIT_EXPIRY (R78): the window end at which the entry of a wait slot expires (log 6). -/
def execWaitExpiry (slot : Nat) (s : State) : Host.Outcome State Fault Refusal :=
  whenRunning s fun s => if decide (0 < s.due.grant) && s.expiresNext slot then s.grantTakes else s

/-! ### The Demand Watch's window-end work (R122 to R135) -/

/-- A verdict shifted into the history: the newest first, the eighth leaves (R123). -/
def Watch.shift (w : Watch) (hot : Bool) : Watch := { w with history := hot :: w.history.take 7 }

/-- The meter after step 1: the excess over capacity added, saturating (R129). -/
def Watch.metered (w : Watch) (inUse capacity : Nat) : Watch :=
  { w with meter := min Config.maxWord (w.meter + (inUse - capacity)) }

/-- The verdict of the closing window (R123). -/
def Watch.verdict (w : Watch) (q : PoolRec) : Bool := q.watchEnable && decide (q.threshold ≤ w.tally)

/-- The hot count: hot verdicts among the newest T (R118). -/
def Watch.hotCount (w : Watch) (taps : Nat) : Nat := (w.history.take taps).countP fun v => v

/-- Steps 1 and 2: meter, verdict, tally back to 0 (R122, R123, R129). -/
def Watch.judge (w : Watch) (q : PoolRec) (inUse : Nat) : Watch :=
  { (w.metered inUse q.capacity).shift (w.verdict q) with tally := 0 }

/-- Step 3: the watch state the hot count gives (R124). -/
def Watch.moved (w : Watch) (q : PoolRec) : WatchState :=
  match w.watch with
  | .clear => if q.quorum ≤ w.hotCount q.taps then .short else .clear
  | .short => if w.hotCount q.taps = 0 then .clear else .short

/-- An OVERDRAFT_OPEN or OVERDRAFT_CLOSE record of a pool (R132): its port field is the pool index. -/
def overdraftBody (kind : RecordKind) (k : Pool) (meter inUse : Nat) : RecordBody :=
  RecordBody.plain kind k 0 meter 0 ((Quad.fill 0).set k inUse)

/-- A pool enters SHORT (R125, R126): notices; and with an allowance the overdraft opens, with its record and a queue
pass. -/
def State.enterShort (s : State) (k : Pool) (w : Watch) (allowance : Nat) : State :=
  let s' := (s.withWatch k { w with watch := .short }).notifyAll [.poolShort k]
  if 0 < allowance then
    ((s'.withWatch k { w with watch := .short, overdraft := .opened }).recordDroppable
      (overdraftBody .overdraftOpen k w.meter (s.pool k).inUse)).queuePass
  else s'

/-- A pool enters CLEAR (R125, R127): notices; an OPEN overdraft closes with its record and no pass. -/
def State.enterClear (s : State) (k : Pool) (w : Watch) : State :=
  let s' := (s.withWatch k { w with watch := .clear, overdraft := .closed }).notifyAll [.poolClear k]
  match w.overdraft with
  | .opened => s'.recordDroppable (overdraftBody .overdraftClose k w.meter (s.pool k).inUse)
  | .closed => s'

/-- The window-end work of a Demand Watch in SERVING, with its pool record (R122). -/
def State.watchWork (s : State) (k : Pool) (q : PoolRec) : State :=
  let w := (s.watches.get k).judge q (s.pool k).inUse
  match w.watch, w.moved q with
  | .clear, .short => s.enterShort k w q.allowance
  | .short, .clear => s.enterClear k w
  | .clear, .clear => s.withWatch k w
  | .short, .short => s.withWatch k w

/-- A Demand Watch takes one window end: in NO_IMAGE a cold verdict is shifted in and nothing else changes (R135). -/
def State.watchTakes (s : State) (k : Pool) : State :=
  let s' := s.withDue { s.due with demand := s.due.demand.modify k (· - 1) }
  match s.cat.poolRec k with
  | none => s'.withWatch k ((s.watches.get k).shift false)
  | some q => s'.watchWork k q

/-- DEMAND_WATCH_WINDOW_END (R122). -/
def execDemandWatchWindowEnd (k : Pool) (s : State) : Host.Outcome State Fault Refusal :=
  whenRunning s fun s => if 0 < s.due.demand.get k then s.watchTakes k else s

/-! ### The Port Interface's window-end work (R188) -/

/-- The POOL_SHORT notices a port raises at its window end: one for each pool whose sense is LEVEL and whose watch is
SHORT (R188), the pools taken in the order given. -/
def State.refreshes (s : State) (p : Port) (order : List Pool) : List Notice :=
  (order.filter fun k => (s.ports.get p).settings.senses.get k == .level && (s.watches.get k).watch == .short).map
    fun k => .poolShort k

/-- A Port Interface takes one window end. A pool listed in `first` comes up again in its index place, where the LEVEL
sense stores no second notice of it. -/
def State.portTakes (s : State) (p : Port) (first : List Pool) : State :=
  (s.withDue { s.due with port := s.due.port.modify p (· - 1) }).modifyPort p fun q =>
    q.handAll (s.refreshes p (first ++ fours))

/-- PORT_WINDOW_END (R188). -/
def execPortWindowEnd (p : Port) (first : List Pool) (s : State) : Host.Outcome State Fault Refusal :=
  whenRunning s fun s => if 0 < s.due.port.get p then s.portTakes p first else s

/-! ### Window ends still to be taken at a completion (R90) -/

/-- Every receiver takes the window ends it has still to take: the Sweep Unit, the Demand Watch units and the Port
Interfaces in index order, the Grant Engine between them. R90 gives them no order; another one is that of rows placed
before (log 32). -/
def State.takeDue (s : State) : State :=
  let s1 := State.sweepTakes^[s.due.sweep] s
  let s2 := fours.foldl (fun s k => (fun s : State => s.watchTakes k)^[s.due.demand.get k] s) s1
  let s3 := State.grantTakes^[s2.due.grant] s2
  fours.foldl (fun s p => (fun s : State => s.portTakes p [])^[s.due.port.get p] s) s3

end Sys2Proof.Machine
end

