-- ==== Sys2Proof/Machine/StoreCommands.lean ====
section
/-! DEFINITION. The meanings of SAVE_COMPLETE and IMAGE_WRITE_COMPLETE (R138 to R140, R152): the ends of the two kinds of
write, and the completion of an activation in every block. -/

namespace Sys2Proof.Machine

/-- A release of RESET that waited for the write takes effect now (R140). -/
def State.releaseIfWaiting (s : State) : State :=
  match s.resetPin with
  | .releasing => s.leaveReset
  | .asserted => s
  | .released => s

/-! ### SAVE_COMPLETE (R103, R137, R138) -/

/-- The save's values become the saved values area (R137). -/
def State.storeSaved (s : State) (v : SavedValues) : State := { s with store := { s.store with saved := some v } }

/-- SAVE_COMPLETE (R138). With no save in progress, or without supply, nothing completes (log 2). -/
def execSaveComplete (s : State) : Host.Outcome State Fault Refusal :=
  .next <|
    match s.powered, s.store.write with
    | true, .saving v => ((s.storeSaved v).nextWrite).releaseIfWaiting
    | _, _ => s

/-! ### The completion of an activation, block by block (R152) -/

/-- The image records of a staging area: all but the trailer (R139). -/
def Stager.image (t : Stager) : List ImageRecord := t.area.dropLast

/-- The issue-minute floor (R100). -/
def flooredClock (records : List ImageRecord) (clock : Nat) : Nat := max clock (headOf records).header.issueMinute

/-- The flags a code carries over from a catalogue, or the defaults for a code it does not hold (R167). -/
def Catalogue.carriedFlags (old : Catalogue) (code : Nat) : SiteFlags :=
  match old.findCode code with
  | some i => (old.slot i).site
  | none => SiteFlags.initial

/-- The catalogue after the completion (R20, R167). -/
def newCatalogue (old : Catalogue) (records : List ImageRecord) (clock : Nat) : Catalogue :=
  catalogueOf records (flooredClock records clock) old.carriedFlags

/-- Requests that outlast the completion keep the catalogue and class they were taken under (R1, R57). -/
def State.keepBases (s : State) : List Request := s.requests.map fun r => { r with under := some (s.basis r) }

/-- A checkout slot reconciled with a catalogue (R67). -/
def CheckoutSlot.reconcile (c : Catalogue) (x : CheckoutSlot) : CheckoutSlot :=
  { x with entry := x.entry.map (Checkout.reconcile c) }

/-- The Grant Engine at the completion (R25, R67, R84, R168): checkouts reconciled, the queue emptied and its slots'
generations advanced, pools brought to the new capacities. -/
def State.newGrant (s : State) (new : Catalogue) : GrantEngine :=
  let g := (s.grant.queue.foldl State.leaveQueue s).grant
  { g with
    table := g.table.map (CheckoutSlot.reconcile new)
    pools := Quad.ofFn fun k => (s.pool k).toCapacity s.serving (new.capacity k) }

/-- The WAIT_ENDED notices of cause IMAGE that a port receives (R84). -/
def State.imageWaits (s : State) (p : Port) : List Notice :=
  (s.grant.queue.filter fun e => e.port = p).map fun e => .waitEnded (s.ticket e) .image

/-- The IMAGE notice among a port's WAIT_ENDED notices, after `n` of them (R152, R187, log 19). -/
def State.completionNotices (s : State) (p : Port) (issue n : Nat) : List Notice :=
  (s.imageWaits p).take n ++ [.image issue] ++ (s.imageWaits p).drop n

/-- A port at the completion (R5, R84, R152): its effective class from the new map, and its notices. -/
def State.newPort (s : State) (head : ImageHead) (p : Port) (n : Nat) : PortIf :=
  { s.ports.get p with effClass := effectiveClass (some head) (s.ports.get p).strapClass p }.handAll
    (s.completionNotices p head.header.issue n)

/-- The IMAGE record (R174). -/
def imageBody (stager : Port) (issue : Nat) : RecordBody := RecordBody.plain .image stager 0 issue 0 (Quad.fill 0)

/-- The Timebase at the completion (R95, R100): floor, mode and length; the window timer keeps its count. -/
def Timebase.activate (t : Timebase) (records : List ImageRecord) : Timebase :=
  let h := (headOf records).header
  { t with clock := flooredClock records t.clock, mode := h.windowMode, length := h.windowLength }

/-- Every block but the Journal and the Store Controller at the completion (R152). -/
def State.activateBlocks (s : State) (ahead : Quad Nat) : State :=
  let records := s.stager.image
  let new := newCatalogue s.cat records s.time.clock
  { s with
    ports := Quad.ofFn fun p => s.newPort (headOf records) p (ahead.get p)
    requests := s.keepBases
    cat := new
    grant := s.newGrant new
    watches := s.watches.map fun w => Watch.initial w.meter
    time := s.time.activate records
    stager := Stager.initial }

/-- The image area takes the new records and is VALID (R139). -/
def State.storeImage (s : State) (records : List ImageRecord) : State :=
  { s with store := { s.store with image := some records, write := .idle } }

/-- After an image write the save that waits, or that the floor asked for, begins; otherwise the controller is IDLE
(R138). -/
def State.saveAfterImage (s : State) (crossed : Bool) : State :=
  if s.store.saveWaiting || crossed then s.beginSave else s

/-- The window end that the new settings may call for, after the completion (R95). -/
def State.windowAfterImage (s : State) : State :=
  if s.time.mode = .auto ∧ s.time.length ≤ s.time.windowTimer then s.produceWindowEnd else s

/-- The blocks' work at the completion of an activation, with no request to finish and no window end to take (R152). -/
def State.activateAll (s : State) (ahead : Quad Nat) : State :=
  let records := s.stager.image
  let clock := flooredClock records s.time.clock
  ((((s.activateBlocks ahead).recordDroppable
    (imageBody (s.stager.port.getD 0) (headOf records).header.issue)).storeImage records).saveAfterImage
      (clock / 60 != s.time.clock / 60)).windowAfterImage

/-- The completion of an activation in a running part (R152). The requests that do not outlast it are finished first
(R1, R169), and then a window end produced during the write is taken, under the catalogue still active (R90). That the
requests come before the window ends is the model's choice (log 32). -/
def State.completeActivation (s : State) (ahead : Quad Nat) : State := (s.finishTaken.takeDue).activateAll ahead

/-- An image write that completes while RESET is asserted (R140): the image area and the floor change, and nothing is
activated. -/
def State.completeInReset (s : State) : State :=
  ((s.withClock (flooredClock s.stager.image s.time.clock)).storeImage s.stager.image).releaseIfWaiting

/-- IMAGE_WRITE_COMPLETE (R139, R140, R152). With no image write in progress, or without supply, nothing completes
(log 2). -/
def execImageWriteComplete (ahead : Quad Nat) (s : State) : Host.Outcome State Fault Refusal :=
  .next <|
    match s.powered, s.store.write with
    | true, .imageWrite => if s.running then s.completeActivation ahead else s.completeInReset
    | _, _ => s

end Sys2Proof.Machine
end

