-- ==== Sys2Proof/Machine/Dispatch.lean ====
section
/-! DEFINITION. What each command does: one arm for each constructor of Instr, each one call of its meaning. -/

namespace Sys2Proof.Machine

def exec (i : Instr) (s : State) : Host.Outcome State Fault Refusal :=
  match i with
  | .powerOn straps => Sys2Proof.Machine.execPowerOn straps s
  | .powerLoss => Sys2Proof.Machine.execPowerLoss s
  | .resetAssert => Sys2Proof.Machine.execResetAssert s
  | .resetRelease straps => Sys2Proof.Machine.execResetRelease straps s
  | .prstAssert p => Sys2Proof.Machine.execPrstAssert p s
  | .prstRelease p => Sys2Proof.Machine.execPrstRelease p s
  | .requestFrame p bytes => Sys2Proof.Machine.execRequestFrame p bytes s
  | .readTransaction p n answered => Sys2Proof.Machine.execReadTransaction p n answered s
  | .attnPulseEnd p => Sys2Proof.Machine.execAttnPulseEnd p s
  | .checkout p => Sys2Proof.Machine.execCheckout p s
  | .returnCheckout p => Sys2Proof.Machine.execReturn p s
  | .returnTag p => Sys2Proof.Machine.execReturnTag p s
  | .releasePort p => Sys2Proof.Machine.execReleasePort p s
  | .queryCheckout p => Sys2Proof.Machine.execQueryCheckout p s
  | .heartbeat p => Sys2Proof.Machine.execHeartbeat p s
  | .cancelWait p => Sys2Proof.Machine.execCancelWait p s
  | .queryWait p => Sys2Proof.Machine.execQueryWait p s
  | .queryFeature p => Sys2Proof.Machine.execQueryFeature p s
  | .queryPool p => Sys2Proof.Machine.execQueryPool p s
  | .timeAssert p => Sys2Proof.Machine.execTimeAssert p s
  | .windowClose p => Sys2Proof.Machine.execWindowClose p s
  | .stageBegin p => Sys2Proof.Machine.execStageBegin p s
  | .stageRecord p => Sys2Proof.Machine.execStageRecord p s
  | .stageFinish p => Sys2Proof.Machine.execStageFinish p s
  | .activate p => Sys2Proof.Machine.execActivate p s
  | .stageAbort p => Sys2Proof.Machine.execStageAbort p s
  | .policyStage p => Sys2Proof.Machine.execPolicyStage p s
  | .policyApply p => Sys2Proof.Machine.execPolicyApply p s
  | .setCeiling p => Sys2Proof.Machine.execSetCeiling p s
  | .setShare p => Sys2Proof.Machine.execSetShare p s
  | .journalStatus p => Sys2Proof.Machine.execJournalStatus p s
  | .readNotice p => Sys2Proof.Machine.execReadNotice p s
  | .setNotice p => Sys2Proof.Machine.execSetNotice p s
  | .identify p => Sys2Proof.Machine.execIdentify p s
  | .secondTick => Sys2Proof.Machine.execSecondTick s
  | .minuteAdvance => Sys2Proof.Machine.execMinuteAdvance s
  | .windowTimerExpiry => Sys2Proof.Machine.execWindowTimerExpiry s
  | .wclkRisingEdge => Sys2Proof.Machine.execWclkRisingEdge s
  | .wclkLowSeen => Sys2Proof.Machine.execWclkLowSeen s
  | .sweepWindowEnd => Sys2Proof.Machine.execSweepWindowEnd s
  | .sweepVisit slot => Sys2Proof.Machine.execSweepVisit slot s
  | .reclaim slot => Sys2Proof.Machine.execReclaim slot s
  | .grantEngineWindowEnd => Sys2Proof.Machine.execGrantEngineWindowEnd s
  | .waitExpiry slot => Sys2Proof.Machine.execWaitExpiry slot s
  | .demandWatchWindowEnd k => Sys2Proof.Machine.execDemandWatchWindowEnd k s
  | .portWindowEnd p first => Sys2Proof.Machine.execPortWindowEnd p first s
  | .stagingTimeout => Sys2Proof.Machine.execStagingTimeout s
  | .saveComplete => Sys2Proof.Machine.execSaveComplete s
  | .imageWriteComplete ahead => Sys2Proof.Machine.execImageWriteComplete ahead s
  | .batchBegin jend => Sys2Proof.Machine.execBatchBegin jend s
  | .recordAcknowledge jend => Sys2Proof.Machine.execRecordAcknowledge jend s
  | .jclkRisingEdge => Sys2Proof.Machine.execJclkRisingEdge s

end Sys2Proof.Machine
end

