-- ==== Sys2Proof/Machine/Step.lean ====
section
/-! DEFINITION. One step of the part: the command at the front of the queue, or one TREF rising edge when none waits. -/

namespace Sys2Proof.Machine

/-- What the part does when no command waits (log 1): its reference goes on, so one rising edge of TREF passes (R87);
without supply or in RESET nothing happens. -/
def State.idle (s : State) : State := if s.running then s.trefEdge else s

/-- One step: the command at the front of the queue is taken from it and carried out (log 1). -/
def step (s : State) : Host.Outcome State Fault Refusal :=
  match s.pending with
  | [] => .next s.idle
  | c :: rest => exec c { s with pending := rest }

/-- The state with the command that a word spells at the front of its queue; no word spells one, since the opcode table
gives bits to none of its rows (log 26). -/
def State.withFetchWord (s : State) (nbits w : Nat) : State :=
  match decodeTableWord nbits w with
  | none => s
  | some c => { s with pending := c :: s.pending }

end Sys2Proof.Machine
end

