-- ==== Sys2Proof/Safety.lean ====
section
/-! DEFINITION. What counts as a safe run of the part: the relations among the fields of State that the spec says always
hold, each with the rule that says it. Every step keeps each of them. -/

namespace Sys2Proof.Machine

/-- A step that did not stop. -/
abbrev Completed (o : Host.Outcome State Fault Refusal) : Prop := ∃ t, o = .next t

/-! ### What a statement says of a request (R185) -/

/-- A request that a running part can carry out now: the oldest of its port for its command. -/
abbrev State.Ready (s : State) (r : Request) : Prop :=
  s.running = true ∧ s.nextRequest r.command r.port = some r

/-- The row of the table that carries out a command's request for a port. -/
def commandRow (c : Command) (p : Port) : Instr :=
  match c with
  | .checkout => .checkout p
  | .returnCheckout => .returnCheckout p
  | .returnTag => .returnTag p
  | .releasePort => .releasePort p
  | .queryCheckout => .queryCheckout p
  | .heartbeat => .heartbeat p
  | .cancelWait => .cancelWait p
  | .queryWait => .queryWait p
  | .queryFeature => .queryFeature p
  | .queryPool => .queryPool p
  | .timeAssert => .timeAssert p
  | .windowClose => .windowClose p
  | .stageBegin => .stageBegin p
  | .stageRecord => .stageRecord p
  | .stageFinish => .stageFinish p
  | .activate => .activate p
  | .stageAbort => .stageAbort p
  | .policyStage => .policyStage p
  | .policyApply => .policyApply p
  | .setCeiling => .setCeiling p
  | .setShare => .setShare p
  | .journalStatus => .journalStatus p
  | .readNotice => .readNotice p
  | .setNotice => .setNotice p
  | .identify => .identify p

/-- The state in which a request has been answered with no other effect: the request is gone and its reply placed. -/
def State.onlyAnswered (s : State) (r : Request) (x : Reply) : State := (s.dropRequest r.command r.port).respond r x

/-! ### What power-on and the release of RESET leave (R18, R24, R46, R85, R96, R109, R133, R141, R158, R181, R185) -/

/-- Every block of `t` stands at its values after power-on or release of RESET, brought up from `s` with the strap levels
given. The catalogue, the term clock, the meters, the sequence number and the store are said beside it, since they come
from the store or stay live. The window ends not yet taken, the batch's mode and pulses, SDOn's bytes and the levels of
PRST and of the recorder's JEND are the model's own (log 7, log 9, log 21, log 22), and so is that a request not yet
carried out is dropped (log 40). -/
def State.BroughtUp (s t : State) (straps : Quad Straps) : Prop :=
  t.powered = true ∧ t.resetPin = .released ∧ t.requests = [] ∧ t.pending = s.pending ∧
  (∀ p : Port, ∃ c : Class,
    c.val = (if (straps.get p).pcl1 then 2 else 0) + (if (straps.get p).pcl0 then 1 else 0) ∧
    t.ports.get p =
      { state := .idle, response := none, overrun := false, notices := [], overflow := false
        settings := { enables := { granted := true, waitEnded := true, reclaimed := true, forced := true
                                   poolShort := true, poolClear := true, term := true, image := true }
                      senses := ⟨.both, .both, .both, .both⟩, attn := .level }
        pulse := false, prst := (s.ports.get p).prst, strapPins := straps.get p, strapClass := c
        effClass := (match t.cat.head with | none => c | some h => (h.header.classMap.get p).getD c), sdo := [] }) ∧
  t.grant.table = List.replicate 256 { generation := 1, entry := none } ∧
  t.grant.waitGens = List.replicate 32 1 ∧ t.grant.queue = [] ∧
  (∀ k : Pool, t.pool k =
    { ceiling := t.cat.head.map fun h => (h.pools.get k).capacity, pendingCeiling := none, inUse := 0
      held := ⟨0, 0, 0, 0⟩, cap := ⟨0, 0, 0, 0⟩, reserve := ⟨0, 0, 0, 0⟩ }) ∧
  (∀ k : Pool, t.watches.get k =
    { tally := 0, history := [false, false, false, false, false, false, false, false], watch := .clear
      overdraft := .closed, meter := (t.watches.get k).meter }) ∧
  t.time = { prescaler := 0, windowTimer := 0, minuteCount := 0, clock := t.time.clock
             mode := (match t.cat.head with | none => .auto | some h => h.header.windowMode)
             length := (match t.cat.head with | none => 60 | some h => h.header.windowLength), wclk := .spent } ∧
  t.due = { sweep := 0, grant := 0, demand := ⟨0, 0, 0, 0⟩, port := ⟨0, 0, 0, 0⟩ } ∧
  t.sweep = { state := .idle, position := 0, limit := none, threshold := none, pendingEnd := false } ∧
  t.journal = { fifo := [], rv := 0, gap := 0, nextSeq := t.journal.nextSeq, batch := .idle, remaining := 0
                bytePos := 0, batchMode := .level, jreqPulses := 0, jendRecorder := s.journal.jendRecorder } ∧
  t.stager = { state := .idle, port := none, area := [], summary := none, timer := 0 } ∧
  t.policy = Quad.fill { enabled := false, queue := false, watchMask := false, termNotice := false }

/-! ### The staging commands (R142) -/

/-- The five staging commands. -/
def stagingCommands : List Command := [.stageBegin, .stageRecord, .stageFinish, .activate, .stageAbort]

/-- The commands whose requests may wait beyond the completion of an activation (R57, R108, log 4). -/
def outlastingCommands : List Command := [.checkout, .heartbeat, .readNotice, .setNotice]

/-! ### What a release does (R37, R45, R58, R172) -/

/-- The content of the record of the release of a checkout `e` of slot `n` (R58, R174): its handle, tag, code, charges and
flags, with FORCED on a forced return alone. -/
def State.releaseRecord (s : State) (n : Nat) (e : Checkout) (kind : RecordKind) : RecordBody :=
  { kind := kind, port := e.owner, overdraft := e.flags.overdraft, grace := e.flags.grace, orphan := e.flags.orphan
    forced := decide (kind = .forcedReturn), handle := s.generationAt n * 256 + n, tag := e.tag
    code := (match e.bundle with | some b => b.code | none => (e.lines.head?.map fun l => l.code).getD 0)
    charges := e.charges }

/-- `u` is `s` after the release of the checkout `e` of slot `n`, before any notice or queue pass: its slot is FREE under
the next generation and every other slot as it was, its charges are credited to in_use and to its owner's holdings alone,
a metered reservation has become a record of the kind given, and nothing else differs. -/
def State.Releases (s u : State) (n : Nat) (e : Checkout) (kind : RecordKind) : Prop :=
  u.checkoutAt n = none ∧ u.generationAt n = nextGeneration (s.generationAt n) ∧
  (∀ m, m ≠ n → u.grant.table[m]? = s.grant.table[m]?) ∧
  (∀ k : Pool, u.pool k = { s.pool k with
    inUse := (s.pool k).inUse - e.charges.get k
    held := (s.pool k).held.modify e.owner fun x => x - e.charges.get k }) ∧
  u.grant.queue = s.grant.queue ∧ u.grant.waitGens = s.grant.waitGens ∧
  u.journal = (if e.flags.metered then
    { s.journal.write s.time.clock (s.releaseRecord n e kind) with rv := s.journal.rv - 1 } else s.journal) ∧
  { u with grant := s.grant, journal := s.journal } = s

/-! ### Tokens (R37) -/

/-- The charges on a pool of the checkouts that satisfy a condition, added over the table. -/
def chargeSum (table : List CheckoutSlot) (k : Pool) (f : Checkout → Bool) : Nat :=
  (table.map fun c => match c.entry with
    | some e => if f e then e.charges.get k else 0
    | none => 0).sum

/-- For each pool, a port's holding is the sum of its checkouts' charges, and in_use is the sum of the holdings (R37). -/
abbrev State.TokensBalance (s : State) : Prop :=
  ∀ k : Pool,
    (∀ p : Port, (s.pool k).held.get p = chargeSum s.grant.table k fun e => e.owner == p) ∧
    (s.pool k).inUse = (s.pool k).held.sum

/-! ### The journal (R170) -/

/-- The number of HELD checkouts flagged METERED. -/
def meteredCount (table : List CheckoutSlot) : Nat :=
  table.countP fun c => match c.entry with
    | some e => e.flags.metered
    | none => false

/-- Occupancy plus reservations never exceeds 512, and reservations equal the number of HELD metered checkouts (R170). -/
abbrev State.JournalFits (s : State) : Prop :=
  s.journal.fifo.length + s.journal.rv ≤ Config.journalPlaces ∧ s.journal.rv = meteredCount s.grant.table

/-- The batch fields agree with the batch state (R170, R176, R179). -/
abbrev Journal.BatchShaped (j : Journal) : Prop :=
  match j.batch with
  | .idle => j.remaining = 0 ∧ j.bytePos = 0
  | .running => 1 ≤ j.remaining ∧ j.remaining ≤ j.fifo.length ∧ j.bytePos ≤ Config.recordBytes

/-- The records' sequence numbers run on to the next one without a hole, with wrap (R171, R180). -/
abbrev Journal.Numbered (j : Journal) : Prop :=
  ∀ i, ∀ h : i < j.fifo.length, (j.fifo[i].sequence + (j.fifo.length - i)) % (Config.maxWord + 1) = j.nextSeq

/-! ### Slots, handles and tickets (R41, R69, R71) -/

/-- The table has 256 slots with generations 1..127 (R41), the wait queue 32 slots with generations 1..255 (R69). -/
abbrev State.SlotsNumbered (s : State) : Prop :=
  s.grant.table.length = Config.checkoutSlots ∧
  (∀ c ∈ s.grant.table, 1 ≤ c.generation ∧ c.generation ≤ Config.lastCheckoutGeneration) ∧
  s.grant.waitGens.length = Config.waitSlots ∧
  ∀ g ∈ s.grant.waitGens, 1 ≤ g ∧ g ≤ Config.lastWaitGeneration

/-- Each waiting entry stands in a wait slot of its own (R69), at most 32 wait and at most 8 of one port (R71). -/
abbrev State.QueueBounded (s : State) : Prop :=
  (s.grant.queue.map (·.slot)).Nodup ∧
  (∀ e ∈ s.grant.queue, e.slot < Config.waitSlots) ∧
  s.grant.waitGens.length = Config.waitSlots ∧
  s.grant.queue.length ≤ Config.waitSlots ∧
  ∀ p : Port, (s.grant.queue.filter fun e => e.port == p).length ≤ Config.waitPerPort

/-! ### Site policy (R22, R165) -/

/-- A pool's ceiling and caps are at most the capacity, and its reserves together do not exceed it; a reserve is no
greater than a cap that is not 0 (R22, R165). -/
abbrev State.PolicyBounded (s : State) : Prop :=
  ∀ k : Pool,
    (∀ v, (s.pool k).ceiling = some v → v ≤ s.cat.capacity k) ∧
    (s.pool k).reserve.sum ≤ s.cat.capacity k ∧
    ∀ p : Port, (s.pool k).cap.get p ≤ s.cat.capacity k ∧
      ((s.pool k).cap.get p ≠ 0 → (s.pool k).reserve.get p ≤ (s.pool k).cap.get p)

/-! ### The Demand Watch units (R118, R124, R126) -/

/-- The overdraft of a pool is OPEN only while its watch state is SHORT and its allowance is greater than 0 (R126). -/
abbrev State.OverdraftJustified (s : State) : Prop :=
  ∀ k : Pool, (s.watches.get k).overdraft = .opened →
    (s.watches.get k).watch = .short ∧ 0 < s.cat.allowance k

/-- The history holds 8 verdicts (R118), and a pool is SHORT only if one of its newest T verdicts is hot (R124). -/
abbrev State.ShortIsHot (s : State) : Prop :=
  ∀ k : Pool, (s.watches.get k).history.length = 8 ∧
    ((s.watches.get k).watch = .short →
      ∃ q, s.cat.poolRec k = some q ∧ 0 < (s.watches.get k).hotCount q.taps)

/-! ### Ports (R185, R187) -/

/-- A port holds a response in ANSWERED alone, and an overrun mark in WORKING alone; it has passed on one current
request in WORKING and none otherwise (R185). -/
abbrev State.PortsShaped (s : State) : Prop :=
  ∀ p : Port,
    ((s.ports.get p).response.isSome = true ↔ (s.ports.get p).state = .answered) ∧
    ((s.ports.get p).overrun = true → (s.ports.get p).state = .working) ∧
    (s.requests.filter fun r => r.current && r.port == p).length = if (s.ports.get p).state = .working then 1 else 0

/-- A notice list holds at most 16 notices (R187). -/
abbrev State.NoticesBounded (s : State) : Prop := ∀ p : Port, (s.ports.get p).notices.length ≤ Config.noticePlaces

/-! ### Time and terms (R15, R87, R88) -/

/-- The prescaler and the minute count stay below their wraps (R87, R88). -/
abbrev State.CountersBounded (s : State) : Prop :=
  s.time.prescaler < Config.prescalerEdges ∧ s.time.minuteCount < Config.minuteSeconds

/-- Every slot's stored term state is the one derived from the current clock, and an empty slot has none (R15). -/
abbrev State.TermsCurrent (s : State) : Prop :=
  ∀ sl ∈ s.cat.slots, sl.term = sl.feature.map fun f => f.termAt s.time.clock

/-- The TERM notices that a change of the clock to `n` raises (R102): one for each slot, in index order, that enters GRACE
or LAPSED with TERM_NOTICE set. -/
def State.termsRaised (s : State) (n : Nat) : List Notice :=
  s.cat.slots.filterMap fun sl =>
    match sl.feature with
    | none => none
    | some f =>
      if sl.term ≠ some (f.termAt n) ∧ (f.termAt n = .grace ∨ f.termAt n = .lapsed) ∧ sl.site.termNotice = true then
        some (.term f.code (f.termAt n))
      else none

/-! ### Staging (R141) -/

/-- The staging state is IDLE exactly when no port is the stager; in IDLE the area is empty, the summary absent and the
timer 0, in OPEN the summary is absent, and in COMPLETE and WRITING it is present (R141). -/
abbrev Stager.Shaped (t : Stager) : Prop :=
  match t.state with
  | .idle => t.port = none ∧ t.area = [] ∧ t.summary = none ∧ t.timer = 0
  | .opened => t.port.isSome = true ∧ t.summary = none ∧ t.timer < Config.stagingSeconds
  | .complete => t.port.isSome = true ∧ t.summary.isSome = true ∧ t.timer < Config.stagingSeconds
  | .writing => t.port.isSome = true ∧ t.summary.isSome = true ∧ t.timer = 0

/-! ### The Sweep Unit (R109) -/

/-- Outside a walk the position is 0, the limit and threshold are none and no window end is pending; in a walk the limit
is a slot and the position has not passed it (R109, R111). -/
abbrev Sweep.Shaped (w : Sweep) : Prop :=
  match w.state with
  | .idle => w = Sweep.initial
  | .sweeping => ∃ l, w.limit = some l ∧ w.position ≤ l

/-! ### The Sweep Unit after a visit (R111) -/

/-- How the Sweep Unit stands in `u` after the walk of `s`, whose limit is `l`, has passed slot `n`: before the limit the
position moves on; after it the walk ends, and a pending window end starts the next at once, over the slots HELD then. -/
def State.WalkPasses (s u : State) (n l : Nat) : Prop :=
  (n ≠ l → u.sweep = { s.sweep with position := n + 1 }) ∧
  (n = l → s.sweep.pendingEnd = false → u.sweep = Sweep.initial) ∧
  (n = l → s.sweep.pendingEnd = true → (∀ m, u.checkoutAt m = none) → u.sweep = Sweep.initial) ∧
  ∀ m, n = l → s.sweep.pendingEnd = true → (u.checkoutAt m).isSome = true → (∀ i, m < i → u.checkoutAt i = none) →
    u.sweep = { state := .sweeping, position := 0, limit := some m
                threshold := s.cat.head.map fun h => h.header.threshold, pendingEnd := false }

/-! ### Images (R145, R147, R149) -/

/-- Each record was accepted after those before it (R145). -/
abbrev Sequenced (area : List ImageRecord) : Prop :=
  ∀ i, ∀ h : i < area.length, acceptsRecord (area.take i) area[i] = true

/-- The records of an image that passed the tests of STAGE FINISH: staged in sequence before a TRAILER, and none of them
fails a test of its own (R145, R147, R149). -/
def Verified (records : List ImageRecord) : Prop :=
  firstRecordFault [] records = none ∧ ∃ t, t.isKind kindTrailer = true ∧ Sequenced (records ++ [t])

/-- The catalogue holds what the image records say (R1, R20). -/
def Catalogue.Holds (c : Catalogue) (records : List ImageRecord) : Prop :=
  c.head = some (headOf records) ∧
  (∀ i, i < Config.featureSlots → c.feature i = (bodyAt records kindFeature i).map featureOf) ∧
  ∀ i, i < Config.bundleSlots → c.bundles[i]? = some ((bodyAt records kindBundle i).map bundleOf)

/-- Only verified images are stored or active: what is staged is in sequence (R145), a COMPLETE or WRITING staging is
verified (R146), only a WRITING staging is written or waits to be (R138, R150), a VALID image area holds a verified image
(R139), and so does the catalogue in SERVING (R20). -/
def State.ImagesVerified (s : State) : Prop :=
  Sequenced s.stager.area ∧
  (s.stager.state = .complete ∨ s.stager.state = .writing → Verified s.stager.area.dropLast) ∧
  (s.store.write = .imageWrite → s.stager.state = .writing ∧ s.store.imageWaiting = false) ∧
  (s.store.imageWaiting = true → s.stager.state = .writing) ∧
  (∀ records, s.store.image = some records → Verified records) ∧
  (s.serving = true → ∃ records, Verified records ∧ s.cat.Holds records)

end Sys2Proof.Machine
end

