-- ==== Sys2Proof/Certificates/Slice0/Obligations.lean ====
section
/-! DEFINITION. The statements for the provers. Each docstring names the rules of spec/ it rests on; where a statement
rests on a choice of the model, its docstring names the log entry. -/

section
open Sys2Proof Sys2Proof.Machine

/-! ### How commands run -/

/-- A step takes the command at the front of the queue and carries it out on the state with the queue's rest (the
queue is the model's: log 1). -/
def Obligations.StepRunsFrontCommand : Prop :=
  ∀ (s : State) (c : Instr) (rest : List Instr), s.pending = c :: rest →
    step s = exec c { s with pending := rest }

/-- Every command answers a next state, and none touches the queue of commands (the spec gives the part no fault; that
a command whose event does not arise changes nothing is the model's choice, log 2). -/
def Obligations.EveryCommandAnswersAndKeepsQueue : Prop :=
  ∀ (i : Instr) (s : State), ∃ t : State, exec i s = .next t ∧ t.pending = s.pending

/-- A part without supply or held in RESET, with no write in progress, takes no event but those of supply and RESET
(R140, R157, log 12): only the levels of the PRST pins and of the recorder's JEND follow their pins. -/
def Obligations.HeldPartTakesNothing : Prop :=
  ∀ (i : Instr) (s : State), s.running = false → s.store.write = .idle →
    (∀ x, i ≠ .powerOn x) → i ≠ .powerLoss → i ≠ .resetAssert → (∀ x, i ≠ .resetRelease x) →
    ∃ t : State, exec i s = .next t ∧
      { t with ports := s.ports, journal := s.journal } = s ∧
      t.journal = { s.journal with jendRecorder := t.journal.jendRecorder } ∧
      ∀ p, t.ports.get p = { s.ports.get p with prst := (t.ports.get p).prst }

/-! ### Supply and RESET -/

/-- Power-on (R4, R18, R46, R85, R96, R101, R130, R133, R137, R157, R158): the store is as the loss left it, its image
is loaded, its saved values are restored or 0, the straps are sampled, and every block takes its power-on values
(`State.BroughtUp`). A loss of power acts on the store according to what the Store Controller was doing, and the next
power-on is SERVING exactly when the image area is VALID then (R104, R157). That POWER_ON finds RESET released, so
that the part runs at once, is the model's choice (log 9), and so is that a request not yet carried out is gone (log
40). -/
def Obligations.PowerOnRestoresStore : Prop :=
  (∀ (straps : Quad Straps) (s : State), ∃ t : State, exec (.powerOn straps) s = .next t ∧
    s.BroughtUp t straps ∧
    t.store = { image := (if s.store.write = .imageWrite then none else s.store.image), saved := s.store.saved
                write := .idle, saveWaiting := false, imageWaiting := false } ∧
    (t.serving = true ↔ t.store.image.isSome = true) ∧
    (t.store.image = none → t.cat = Catalogue.absent) ∧
    (∀ rs, t.store.image = some rs → t.cat = catalogueOf rs t.time.clock fun _ => SiteFlags.initial) ∧
    (s.store.saved = none → t.time.clock = 0 ∧ t.journal.nextSeq = 0 ∧ ∀ k, (t.watches.get k).meter = 0) ∧
    (∀ v, s.store.saved = some v →
      t.time.clock = v.clock ∧ t.journal.nextSeq = v.sequence ∧ ∀ k, (t.watches.get k).meter = v.meters.get k)) ∧
  (∀ (straps : Quad Straps) (s : State), s.powered = true →
    ∃ t u : State, exec .powerLoss s = .next t ∧ exec (.powerOn straps) t = .next u ∧
      t.powered = false ∧ t.BroughtUp u straps ∧
      (s.store.write = .imageWrite → u.store.image = none ∧ u.serving = false) ∧
      (s.store.write ≠ .imageWrite →
        u.store.image = s.store.image ∧ (u.serving = true ↔ s.store.image.isSome = true)) ∧
      u.store = { image := u.store.image, saved := s.store.saved, write := .idle, saveWaiting := false
                  imageWaiting := false })

/-- RESET (R140, R136, R101): the assertion discards waiting writes and holds the part; the release takes effect at
once when no write runs, with every block at its values after a release (`State.BroughtUp`) but the live clock, meters
and sequence number, and otherwise waits for the write. That the assertion changes nothing but the pin and the two
waiting marks, the blocks keeping what they hold until the release, is the model's inference (log 12); that a release
which waits samples the strap pins when their levels were given is its choice (log 28), and so is that an assertion
cancels a release that still waits (log 35), and that a request not yet carried out is dropped at the release (log
40). -/
def Obligations.ResetKeepsLiveValues : Prop :=
  (∀ s : State, s.powered = true →
    exec .resetAssert s = .next { s with resetPin := .asserted
                                         store := { s.store with saveWaiting := false, imageWaiting := false } }) ∧
  (∀ (straps : Quad Straps) (s : State), s.powered = true → s.resetPin = .asserted → s.store.write = .idle →
    ∃ t : State, exec (.resetRelease straps) s = .next t ∧ s.BroughtUp t straps ∧
      t.store = { s.store with saveWaiting := false, imageWaiting := false } ∧
      t.time.clock = s.time.clock ∧ t.journal.nextSeq = s.journal.nextSeq ∧
      (∀ k, (t.watches.get k).meter = (s.watches.get k).meter) ∧
      (s.store.image = none → t.cat = Catalogue.absent) ∧
      (∀ rs, s.store.image = some rs → t.cat = catalogueOf rs s.time.clock fun _ => SiteFlags.initial)) ∧
  (∀ (straps : Quad Straps) (s : State), s.powered = true → s.resetPin = .asserted → s.store.write ≠ .idle →
    ∃ t : State, exec (.resetRelease straps) s = .next t ∧ t.running = false ∧ t.resetPin = .releasing ∧
      (∀ p, t.ports.get p = { s.ports.get p with strapPins := straps.get p }) ∧
      { t with ports := s.ports, resetPin := s.resetPin } = s)

/-- The state after power-on of a part as manufactured (R137): NO_IMAGE, every slot empty and FREE, every count 0,
port privileges both held, AUTO windows of 60 seconds (R18, R19, R46, R87, R89, R118, R141, R170); and everything that
every step keeps holds of it. That reset is that of a part as manufactured is the model's choice (log 10). -/
def Obligations.ResetIsNoImage : Prop :=
  State.reset.running = true ∧ State.reset.serving = false ∧ State.reset.store = Store.factory ∧
  (∀ p, (Basis.privileges { catalogue := State.reset.cat, effClass := (State.reset.ports.get p).effClass }) =
    { admin := true, time := true }) ∧
  State.reset.time.mode = .auto ∧ State.reset.time.length = 60 ∧ State.reset.time.clock = 0 ∧
  (∀ i, i < 64 → State.reset.cat.feature i = none) ∧
  (∀ n, n < 256 → State.reset.checkoutAt n = none ∧ State.reset.generationAt n = 1) ∧
  (∀ k, State.reset.pool k = PoolState.initial) ∧
  State.reset.journal.fifo = [] ∧ State.reset.journal.rv = 0 ∧ State.reset.stager.state = .idle ∧
  State.reset.sweep.state = .idle ∧ State.reset.pending = [] ∧
  State.reset.TokensBalance ∧ State.reset.JournalFits ∧ State.reset.SlotsNumbered ∧ State.reset.QueueBounded ∧
  State.reset.ImagesVerified ∧ State.reset.journal.Numbered ∧ State.reset.journal.BatchShaped ∧
  State.reset.PolicyBounded ∧ State.reset.OverdraftJustified ∧ State.reset.ShortIsHot ∧
  State.reset.PortsShaped ∧ State.reset.NoticesBounded ∧ State.reset.TermsCurrent ∧ State.reset.CountersBounded ∧
  State.reset.stager.Shaped ∧ State.reset.sweep.Shaped

/-! ### Port events -/

/-- A port reset (R83, R155, R186). A staging command that the port has passed on is carried out first, the oldest
first (R155). With none left, the port is IDLE and empty, its requests are no longer current, its waiting entries are
gone without a notice, each with a droppable WAIT_END record and its slot under the next generation, an OPEN or
COMPLETE staging of it is discarded, one pass follows where a removed entry was blocking, and everything else is as it
was. An assertion that finds PRST asserted changes nothing. That the ATTN pulse ends with the assertion is the model's
inference (log 20). -/
def Obligations.PortResetClearsPort : Prop :=
  (∀ (s : State) (p : Port), s.running = true → (s.ports.get p).prst = false → s.QueueBounded →
    (∀ r ∈ s.requests, r.port = p → r.command ∉ stagingCommands) →
    ∃ v : State, exec (.prstAssert p) s =
        .next (if s.grant.queue.any (fun e => e.port == p && e.blocking) then v.queuePass else v) ∧
      v.ports = s.ports.set p { s.ports.get p with state := .idle, response := none, overrun := false, notices := []
                                                   overflow := false, pulse := false, prst := true } ∧
      v.requests = (s.requests.map fun r => if r.port = p then { r with current := false } else r) ∧
      v.grant.queue = s.grant.queue.filter (fun e => e.port != p) ∧
      v.grant.table = s.grant.table ∧ v.grant.pools = s.grant.pools ∧
      (∀ n, v.waitGeneration n = if s.grant.queue.any (fun e => e.port == p && e.slot == n) then
        nextWaitGeneration (s.waitGeneration n) else s.waitGeneration n) ∧
      v.journal = (s.grant.queue.filter fun e => e.port == p).foldl
        (fun j e => j.writeDroppable s.time.clock
          (RecordBody.plain .waitEnd e.port (s.ticket e) e.tag (requestCode e.bundle e.lines) e.charges)) s.journal ∧
      v.stager = (if s.stager.port = some p ∧ (s.stager.state = .opened ∨ s.stager.state = .complete) then
        { state := .idle, port := none, area := [], summary := none, timer := 0 } else s.stager) ∧
      { v with ports := s.ports, requests := s.requests, grant := s.grant, journal := s.journal
               stager := s.stager } = s) ∧
  (∀ (s u : State) (p : Port) (older younger : List Request) (r : Request), s.running = true →
    (s.ports.get p).prst = false → s.requests = older ++ r :: younger → r.port = p → r.command ∈ stagingCommands →
    (∀ x ∈ older, x.port = p → x.command ∉ stagingCommands) → exec (commandRow r.command p) s = .next u →
    exec (.prstAssert p) s = exec (.prstAssert p) u) ∧
  (∀ (s : State) (p : Port), s.running = true → (s.ports.get p).prst = true → exec (.prstAssert p) s = .next s)

/-- The four events of a pin alone (R94, R186, R191): a PRST release, the end of an ATTN pulse, and WCLK seen low or
rising. Each changes the one field named and, for a counted strobe in STROBE mode, produces one window end. That the
PRST pin is followed in RESET and without supply too (log 9, log 12), and that the window end waits in a count for
each receiver (log 7), are the model's choices. -/
def Obligations.PinEventsActAlone : Prop :=
  (∀ (s : State) (p : Port), exec (.prstRelease p) s =
    .next { s with ports := s.ports.set p { s.ports.get p with prst := false } }) ∧
  (∀ (s : State) (p : Port), s.running = true → exec (.attnPulseEnd p) s =
    .next { s with ports := s.ports.set p { s.ports.get p with pulse := false } }) ∧
  (∀ s : State, s.running = true → exec .wclkLowSeen s = .next { s with time := { s.time with wclk := .armed } }) ∧
  (∀ s : State, s.running = true → s.time.wclk = .spent → exec .wclkRisingEdge s = .next s) ∧
  (∀ s : State, s.running = true → s.time.wclk = .armed → s.time.mode = .auto →
    exec .wclkRisingEdge s = .next { s with time := { s.time with wclk := .spent } }) ∧
  (∀ s : State, s.running = true → s.time.wclk = .armed → s.time.mode = .strobe →
    exec .wclkRisingEdge s = .next { s with
      time := { s.time with wclk := .spent, windowTimer := 0 }
      due := { sweep := s.due.sweep + 1, grant := s.due.grant + 1, demand := s.due.demand.map (· + 1)
               port := s.due.port.map (· + 1) } })

/-- Request frames (R183, R185). A valid one, whatever bytes follow its CRC, is taken in IDLE and ANSWERED and dropped
with the overrun mark in WORKING, SDOn carrying 0xFF throughout; and every frame that can be sent is read back as it
was meant (R193). What is a frame error and what an unknown command, and how the port answers each itself. How the
fields of replies and payloads carry a number: most significant byte first, in 1, 2, 3, 4 or 8 bytes, and the codes of
R193's second table, its values for none and its flag bytes. A transaction with no whole byte or another transaction
byte, and any transaction while PRST is asserted, has no effect (R183, R186). The model's choices: that SDOn is kept as
the bytes of the last transaction (log 22), and that a transaction is judged by PRST at its end (log 34). -/
def Obligations.FramesJudgedByPort : Prop :=
  (∀ n : Nat, b1 n = [BitVec.ofNat 8 n] ∧ b2 n = [BitVec.ofNat 8 (n / 256), BitVec.ofNat 8 n] ∧
    b3 n = BitVec.ofNat 8 (n / 65536) :: b2 n ∧ b4 n = b2 (n / 65536) ++ b2 n ∧ b8 n = b4 (n / 4294967296) ++ b4 n) ∧
  indication true = [1#8] ∧ indication false = [0#8] ∧
  (∀ q : Quad Nat, tokens q = b3 (q.get 0) ++ b3 (q.get 1) ++ b3 (q.get 2) ++ b3 (q.get 3)) ∧
  [Reason.featureDisabled, .featureInactive, .classExcluded, .quantityLimit, .shareCap, .held, .overcommitted,
    .reservedElsewhere, .noTokens, .tableFull, .journalFull].map Reason.code = [1, 2, 3, 4, 5, 6, 7, 8, 9, 10, 11] ∧
  [WaitCause.expired, .cancelled, .failed, .image].map WaitCause.code = [1, 2, 3, 4] ∧
  [BeatResult.renewed, .notFound, .notOwner, .lapsed].map BeatResult.code = [0, 1, 2, 3] ∧
  [VerifyCode.noTrailer, .countMismatch, .crcMismatch, .issueNotNewer, .fieldRange, .codeInvalid, .codeRepeated,
    .termOrder, .lineShape, .lineAbsent, .lineRepeated, .lineQuantity].map VerifyCode.code =
      [1, 2, 3, 4, 5, 6, 7, 8, 9, 10, 11, 12] ∧
  [some TermState.pending, some .active, some .grace, some .lapsed, none].map termCode = [0, 1, 2, 3, 255] ∧
  [StagingState.idle, .opened, .complete, .writing].map StagingState.code = [0, 1, 2, 3] ∧
  [WindowMode.auto, .strobe].map WindowMode.code = [0, 1] ∧ [WatchState.clear, .short].map WatchState.code = [0, 1] ∧
  [OverdraftState.closed, .opened].map OverdraftState.code = [0, 1] ∧
  [BatchState.idle, .running].map BatchState.code = [0, 1] ∧
  [SignalMode.level, .pulse].map SignalMode.code = [0, 1] ∧
  ((∀ k, poolCode (some k) = k.val) ∧ poolCode none = 255) ∧
  ((∀ x, bundleCode (some x) = x.code ∧ multiplierCode (some x) = x.multiplier) ∧
    bundleCode none = 0 ∧ multiplierCode none = 0) ∧
  (∀ f : CheckoutFlags, ∃ b : Byte, f.byte = [b] ∧ b.toNat < 16 ∧ b.getLsbD 0 = f.overdraft ∧
    b.getLsbD 1 = f.grace ∧ b.getLsbD 2 = f.orphan ∧ b.getLsbD 3 = f.metered) ∧
  (∀ f : SiteFlags, f.bits < 16 ∧ f.bits.testBit 0 = f.enabled ∧ f.bits.testBit 1 = f.queue ∧
    f.bits.testBit 2 = f.watchMask ∧ f.bits.testBit 3 = f.termNotice) ∧
  (∀ f : Feature, ∃ b : Byte, f.vendorByte = [b] ∧ b.toNat < 8 ∧ b.getLsbD 0 = f.metered ∧
    b.getLsbD 1 = f.overdraftOk ∧ b.getLsbD 2 = f.queueable) ∧
  (∀ (s : State) (p : Port) (bytes : List Byte),
    (s.ports.get p).prst = true ∨ bytes = [] ∨
      (∃ t rest, bytes = t :: rest ∧ t ≠ 0x01#8 ∧ t ≠ 0x02#8) →
    exec (.requestFrame p bytes) s = .next s) ∧
  (∀ (s : State) (p : Port) (c : Command) (payload extra : List Byte), s.running = true →
    (s.ports.get p).prst = false → payload.length ≤ 60 →
    ∃ t : State, exec (.requestFrame p (0x01#8 :: (frameBytes c payload ++ extra))) s = .next t ∧
      ((s.ports.get p).state ≠ .working →
        t = { s with
          ports := s.ports.set p { s.ports.get p with
            state := .working, response := none, sdo := List.replicate (payload.length + extra.length + 4) 0xFF#8 }
          requests := s.requests ++
            [{ port := p, command := c, payload := payload, current := true, under := none }] }) ∧
      ((s.ports.get p).state = .working →
        t = { s with
          ports := s.ports.set p { s.ports.get p with
            overrun := true, sdo := List.replicate (payload.length + extra.length + 4) 0xFF#8 } })) ∧
  (∀ (c : Command) (payload extra : List Byte), payload.length ≤ 60 →
    parseFrame (frameBytes c payload ++ extra) = .request c payload) ∧
  (∀ bytes : List Byte, bytes.length < 2 → parseFrame bytes = .error) ∧
  (∀ (c len : Byte) (rest : List Byte), rest.length < len.toNat + 1 → parseFrame (c :: len :: rest) = .error) ∧
  (∀ (c len : Byte) (rest : List Byte), 60 < len.toNat → parseFrame (c :: len :: rest) = .error) ∧
  (∀ (c len crc : Byte) (payload extra : List Byte), payload.length = len.toNat → crc ≠ crc8 (c :: len :: payload) →
    parseFrame (c :: len :: (payload ++ crc :: extra)) = .error) ∧
  (∀ (c len : Byte) (payload extra : List Byte), payload.length = len.toNat → len.toNat ≤ 60 →
    commandOfCode c.toNat = none →
    parseFrame (c :: len :: (payload ++ crc8 (c :: len :: payload) :: extra)) = .unknown) ∧
  ∀ (s : State) (p : Port) (bytes : List Byte) (st : Status), s.running = true → (s.ports.get p).prst = false →
    (parseFrame bytes = .error ∧ st = .frameError ∨ parseFrame bytes = .unknown ∧ st = .badRequest) →
    ∃ t : State, exec (.requestFrame p (0x01#8 :: bytes)) s = .next t ∧
      { t with ports := s.ports } = s ∧ (∀ q, q ≠ p → t.ports.get q = s.ports.get q) ∧
      ((s.ports.get p).state = .working →
        t.ports.get p = { s.ports.get p with
          overrun := true, sdo := List.replicate (bytes.length + 1) 0xFF#8 }) ∧
      ((s.ports.get p).state ≠ .working →
        (t.ports.get p).state = .answered ∧ (t.ports.get p).notices = (s.ports.get p).notices ∧
        (t.ports.get p).response =
          some { status := st, overrun := (s.ports.get p).overrun, payload := [] })

/-- A read transaction (R183, R185): an ANSWERED port's response frame comes out and 0xFF past it; a complete read
empties the buffer, a partial one leaves it; a port not ANSWERED when the transaction byte was complete reads 0xFF.
While PRST is asserted it has no effect (R186). What the host sends behind the transaction byte 0x02 is ignored. The
model's choices: that the row carries whether the port was ANSWERED (log 23), that SDOn is kept as the bytes of the
last transaction (log 22), and that a transaction is judged by PRST at its end (log 34). -/
def Obligations.ReadDeliversResponse : Prop :=
  (∀ (s : State) (p : Port) (n : Nat) (answered : Bool), (s.ports.get p).prst = true →
    exec (.readTransaction p n answered) s = .next s) ∧
  (∀ (s : State) (p : Port) (rest : List Byte),
    exec (.requestFrame p (0x02#8 :: rest)) s = exec (.readTransaction p rest.length true) s) ∧
  ∀ (s : State) (p : Port) (n : Nat), s.running = true → (s.ports.get p).prst = false →
    (∀ x, (s.ports.get p).state = .answered → (s.ports.get p).response = some x →
      exec (.readTransaction p n true) s = .next { s with ports := s.ports.set p { s.ports.get p with
        sdo := 0xFF#8 :: (x.frame ++ List.replicate n 0xFF#8).take n
        state := (if x.payload.length + 3 ≤ n then .idle else .answered)
        response := (if x.payload.length + 3 ≤ n then none else some x) } }) ∧
    (∀ answered, (s.ports.get p).state ≠ .answered ∨ answered = false →
      exec (.readTransaction p n answered) s = .next { s with ports := s.ports.set p { s.ports.get p with
        sdo := List.replicate (n + 1) 0xFF#8 } })

/-- The CRC-8 of a frame (R184): from 0, each byte is combined by exclusive-or and shifted eight times toward the high
end, combined with 0x07 where a 1 was shifted out; the check value; what a request and a response frame cover. The codes
both frames begin with (R193): of each command, a code not in the table naming none, and the status byte, with the
status code in bits 3..0 and OVERRUN in bit 7. -/
def Obligations.FrameCrcAsGiven : Prop :=
  crc8 [] = 0#8 ∧
  (∀ (bytes : List Byte) (b : Byte),
    crc8 (bytes ++ [b]) =
      (fun r : BitVec 8 => if r.getLsbD 7 then (r <<< 1) ^^^ 0x07#8 else r <<< 1)^[8] (crc8 bytes ^^^ b)) ∧
  crc8 [0x31#8, 0x32#8, 0x33#8, 0x34#8, 0x35#8, 0x36#8, 0x37#8, 0x38#8, 0x39#8] = 0xF4#8 ∧
  (∀ (c : Command) (payload : List Byte),
    (frameBytes c payload).getLast? = some (crc8 (frameBytes c payload).dropLast) ∧
    (frameBytes c payload).dropLast =
      BitVec.ofNat 8 (commandCode c) :: BitVec.ofNat 8 payload.length :: payload) ∧
  (∀ x : Response, x.frame.getLast? = some (crc8 x.frame.dropLast) ∧
    x.frame.dropLast = x.statusByte :: BitVec.ofNat 8 x.payload.length :: x.payload) ∧
  (∀ (n : Nat) (c : Command), commandOfCode n = some c ↔ n = commandCode c) ∧
  [Command.checkout, .returnCheckout, .returnTag, .releasePort, .queryCheckout, .heartbeat, .cancelWait, .queryWait,
    .queryFeature, .queryPool, .timeAssert, .windowClose, .stageBegin, .stageRecord, .stageFinish, .activate,
    .stageAbort, .policyStage, .policyApply, .setCeiling, .setShare, .journalStatus, .readNotice, .setNotice,
    .identify].map commandCode =
      [0x10, 0x11, 0x12, 0x13, 0x14, 0x15, 0x16, 0x17, 0x18, 0x19, 0x20, 0x21, 0x30, 0x31, 0x32, 0x33, 0x34, 0x40,
        0x41, 0x42, 0x43, 0x50, 0x51, 0x52, 0x53] ∧
  ∀ x : Response, x.statusByte.getLsbD 7 = x.overrun ∧ x.statusByte.toNat % 128 =
    match x.status with
    | .ok => 0 | .queued => 1 | .denied => 2 | .notFound => 3 | .notPermitted => 4 | .badRequest => 5
    | .frameError => 6 | .notReady => 7 | .stageHeld => 8 | .storeBusy => 9 | .timeHeld => 10

/-- What a port is handed (R185, R187, R188, R191). A notice: the pool sense comes first, then the kind enable, then
the list's space; each kind has its own enable. The response of a request: of a current one it is placed with the OVERRUN
flag and the port is ANSWERED; of one no longer current it is discarded. ATTNn in LEVEL mode follows the response and
the list, and no pulse starts; in PULSE mode each cause starts a pulse, and ATTNn is asserted while one runs. That none
starts while PRST is asserted is the model's inference (log 20). -/
def Obligations.NoticesAndResponsesPlaced : Prop :=
  (∀ (q : PortIf) (x : Notice), q.sensePasses x = false → q.hand x = q) ∧
  (∀ (q : PortIf) (x : Notice), q.settings.allows x = false → q.hand x = q) ∧
  (∀ (q : PortIf) (x : Notice), q.sensePasses x = true → q.settings.allows x = true → 16 ≤ q.notices.length →
    q.hand x = { q with overflow := true }) ∧
  (∀ (q : PortIf) (x : Notice), q.sensePasses x = true → q.settings.allows x = true → q.notices.length < 16 →
    q.hand x = { q with
      notices := q.notices ++ [x], pulse := q.pulse || (decide (q.settings.attn = .pulse) && !q.prst) }) ∧
  (∀ (x : NoticeSettings) (h t c n : Nat) (o g : Bool) (w : WaitCause) (st : TermState) (p k : Fin 4),
    x.allows (.granted t h o g) = x.enables.granted ∧ x.allows (.waitEnded t w) = x.enables.waitEnded ∧
    x.allows (.reclaimed h t) = x.enables.reclaimed ∧ x.allows (.forced h t p) = x.enables.forced ∧
    x.allows (.poolShort k) = x.enables.poolShort ∧ x.allows (.poolClear k) = x.enables.poolClear ∧
    x.allows (.term c st) = x.enables.term ∧ x.allows (.image n) = x.enables.image) ∧
  (∀ (q : PortIf) (k : Pool), q.sensePasses (.poolShort k) = true ↔
    q.settings.senses.get k = .toShort ∨ q.settings.senses.get k = .both ∨
    (q.settings.senses.get k = .level ∧ Notice.poolShort k ∉ q.notices)) ∧
  (∀ (q : PortIf) (k : Pool), q.sensePasses (.poolClear k) = true ↔
    q.settings.senses.get k = .toClear ∨ q.settings.senses.get k = .both) ∧
  (∀ (q : PortIf) (x : Notice), (∀ k, x ≠ .poolShort k ∧ x ≠ .poolClear k) → q.sensePasses x = true) ∧
  (∀ (s : State) (r : Request) (x : Reply), r.current = false → s.respond r x = s) ∧
  (∀ (s : State) (r : Request) (x : Reply), r.current = true →
    (s.respond r x).ports.get r.port = { s.ports.get r.port with
      state := .answered, overrun := false
      pulse := (s.ports.get r.port).pulse ||
        (decide ((s.ports.get r.port).settings.attn = .pulse) && !(s.ports.get r.port).prst)
      response := some { status := x.status, overrun := (s.ports.get r.port).overrun, payload := x.payload } } ∧
    (∀ q, q ≠ r.port → (s.respond r x).ports.get q = s.ports.get q) ∧
    { s.respond r x with ports := s.ports } = s) ∧
  (∀ (s : State) (p : Port), (s.ports.get p).settings.attn = .level →
    (s.attn p = true ↔ s.running = true ∧ (s.ports.get p).prst = false ∧
      ((s.ports.get p).state = .answered ∨ (s.ports.get p).notices ≠ []))) ∧
  (∀ (s : State) (p : Port), (s.ports.get p).settings.attn = .pulse →
    (s.attn p = true ↔ s.running = true ∧ (s.ports.get p).prst = false ∧ (s.ports.get p).pulse = true))

/-! ### Requests a port answers from its own state -/

/-- READ NOTICE (R189): the oldest notice leaves the list, OVERFLOW is reported and cleared, in SERVING and NO_IMAGE
alike; each notice is reported as its kind and its payload (R187, R193), a kind of 0 where there is none. SET NOTICE (R190): the settings are replaced together and answered back; a payload is well-formed exactly when
it is the six bytes of some settings. A change of the ATTN mode starts no pulse by itself (R191); that it ends a
running one is the model's inference (log 20). -/
def Obligations.NoticeCommandsActOnOwnPort : Prop :=
  (∀ (s : State) (r : Request), s.Ready r → r.command = .readNotice →
    (r.payload ≠ [] → exec (.readNotice r.port) s = .next (s.onlyAnswered r (.bare .badRequest))) ∧
    (r.payload = [] → (s.ports.get r.port).notices = [] →
      exec (.readNotice r.port) s = .next (({ s.dropRequest .readNotice r.port with
          ports := s.ports.set r.port { s.ports.get r.port with overflow := false } }).respond r
        (.ok ([0#8] ++ indication (s.ports.get r.port).overflow ++ [0#8])))) ∧
    (∀ x xs, r.payload = [] → (s.ports.get r.port).notices = x :: xs →
      exec (.readNotice r.port) s = .next (({ s.dropRequest .readNotice r.port with
          ports := s.ports.set r.port { s.ports.get r.port with notices := xs, overflow := false } }).respond r
        (.ok (x.bytes ++ indication (s.ports.get r.port).overflow ++ b1 xs.length))))) ∧
  (∀ (h t c n : Nat) (o g : Bool) (w : WaitCause) (st : TermState) (p k : Fin 4),
    (Notice.granted t h o g).bytes =
      [1#8] ++ b2 t ++ b2 h ++ b1 ((if o then 1 else 0) + (if g then 2 else 0)) ∧
    (Notice.waitEnded t w).bytes = [2#8] ++ b2 t ++ b1 w.code ∧
    (Notice.reclaimed h t).bytes = [3#8] ++ b2 h ++ b4 t ∧
    (Notice.forced h t p).bytes = [4#8] ++ b2 h ++ b4 t ++ b1 p.val ∧
    (Notice.poolShort k).bytes = [5#8] ++ b1 k.val ∧ (Notice.poolClear k).bytes = [6#8] ++ b1 k.val ∧
    (Notice.term c st).bytes = [7#8] ++ b2 c ++ b1 st.code ∧ (Notice.image n).bytes = [8#8] ++ b4 n) ∧
  (∀ (s : State) (r : Request), s.Ready r → r.command = .setNotice → parseSettings r.payload = none →
    exec (.setNotice r.port) s = .next (s.onlyAnswered r (.bare .badRequest))) ∧
  (∀ (s : State) (r : Request) (x : NoticeSettings), s.Ready r → r.command = .setNotice →
    parseSettings r.payload = some x →
    exec (.setNotice r.port) s = .next (({ s.dropRequest .setNotice r.port with
        ports := s.ports.set r.port { s.ports.get r.port with
          settings := x
          pulse := (s.ports.get r.port).pulse && decide ((s.ports.get r.port).settings.attn = x.attn) } }).respond r
      (.ok x.bytes))) ∧
  (∀ (payload : List Byte) (x : NoticeSettings), parseSettings payload = some x ↔ payload = x.bytes) ∧
  (∀ x : NoticeSettings, ∃ e : Byte, x.bytes = [e, BitVec.ofNat 8 (x.senses.get 0).code,
      BitVec.ofNat 8 (x.senses.get 1).code, BitVec.ofNat 8 (x.senses.get 2).code,
      BitVec.ofNat 8 (x.senses.get 3).code, BitVec.ofNat 8 x.attn.code] ∧
    e.getLsbD 0 = x.enables.granted ∧ e.getLsbD 1 = x.enables.waitEnded ∧ e.getLsbD 2 = x.enables.reclaimed ∧
    e.getLsbD 3 = x.enables.forced ∧ e.getLsbD 4 = x.enables.poolShort ∧ e.getLsbD 5 = x.enables.poolClear ∧
    e.getLsbD 6 = x.enables.term ∧ e.getLsbD 7 = x.enables.image) ∧
  (Sense.off.code = 0 ∧ Sense.toShort.code = 1 ∧ Sense.toClear.code = 2 ∧ Sense.both.code = 3 ∧
    Sense.level.code = 4 ∧ SignalMode.level.code = 0 ∧ SignalMode.pulse.code = 1)

/-- IDENTIFY (R192): part code, device state, active issue or 0, port, effective and strap class, privileges; a
request taken before a completion reports what stood then. JOURNAL STATUS (R180): the counts, the batch, whether an
image is active with the header's two settings, and the sequence numbers; where the two settings are none it carries
the bytes that the model leaves free, and with no record one byte of indication in place of the oldest sequence number
(log 15, a DESIGN CHOICE; the order of the fields is an inference, log 14). Both are taken in both device states, with
no privilege and no effect. -/
def Obligations.StatusCommandsReport : Prop :=
  (∀ (s : State) (r : Request), s.Ready r → r.command = .identify →
    (r.payload ≠ [] → exec (.identify r.port) s = .next (s.onlyAnswered r (.bare .badRequest))) ∧
    (r.payload = [] → (s.basis r).catalogue.head = none →
      exec (.identify r.port) s = .next (s.onlyAnswered r (.ok
        ([0x54#8, 0x47#8, 0x04#8, 0x64#8, 0#8, 0#8, 0#8, 0#8, 0#8] ++ b1 r.port.val ++ b1 (s.basis r).effClass.val ++
          b1 (s.ports.get r.port).strapClass.val ++ [3#8])))) ∧
    (∀ h, r.payload = [] → (s.basis r).catalogue.head = some h →
      exec (.identify r.port) s = .next (s.onlyAnswered r (.ok
        ([0x54#8, 0x47#8, 0x04#8, 0x64#8, 1#8] ++ b4 h.header.issue ++ b1 r.port.val ++ b1 (s.basis r).effClass.val ++
          b1 (s.ports.get r.port).strapClass.val ++
          b1 ((if (h.classes.get (s.basis r).effClass).admin then 1 else 0) +
              (if (h.classes.get (s.basis r).effClass).time then 2 else 0))))))) ∧
  (∀ (s : State) (r : Request), s.Ready r → r.command = .journalStatus →
    (r.payload ≠ [] → exec (.journalStatus r.port) s = .next (s.onlyAnswered r (.bare .badRequest))) ∧
    (r.payload = [] → exec (.journalStatus r.port) s = .next (s.onlyAnswered r (.ok
      (b2 s.journal.fifo.length ++ b2 s.journal.rv ++ b2 (512 - s.journal.fifo.length - s.journal.rv) ++
        b2 s.journal.gap ++ b1 s.journal.batch.code ++ b1 s.journal.remaining ++ b1 s.journal.bytePos ++
        (match s.cat.head with
          | some h => [1#8] ++ b1 h.header.batchLimit ++ b1 h.header.requestMode.code
          | none => [0#8, Config.noneBatchLimit, Config.noneRequestMode]) ++
        (match s.journal.fifo.head? with
          | some x => b4 x.sequence
          | none => [1#8]) ++ b4 s.journal.nextSeq)))))

/-! ### Queries -/

/-- QUERY CHECKOUT and QUERY WAIT (R63, R81): BAD_REQUEST, NOT_FOUND or the entry as it stands, from any port, with no
effect. What a payload of one handle and of one ticket is (R43, R70, R193), and which entry each names: the checkout of
the handle's slot under the handle's generation (R43), the waiting entry whose slot and its generation make the ticket
(R70). -/
def Obligations.QueriesReportEntries : Prop :=
  (∀ (s : State) (h n : Nat) (e : Checkout), s.findHandle h = some (n, e) ↔
    n = h % 256 ∧ s.checkoutAt n = some e ∧ s.generationAt n = h / 256) ∧
  (∀ (s : State) (t : Nat) (e : WaitEntry), s.SlotsNumbered → s.QueueBounded →
    (s.findTicket t = some e ↔ e ∈ s.grant.queue ∧ t = 32768 + s.waitGeneration e.slot * 32 + e.slot)) ∧
  (∀ (s : State) (e : WaitEntry), s.ticket e = 32768 + s.waitGeneration e.slot * 32 + e.slot) ∧
  (∀ (payload : List Byte) (h : Nat), parseHandle payload = some h ↔ 256 ≤ h ∧ h ≤ 32767 ∧ payload = b2 h) ∧
  (∀ (payload : List Byte) (t : Nat), parseTicket payload = some t ↔ 32800 ≤ t ∧ t ≤ 40959 ∧ payload = b2 t) ∧
  (∀ (s : State) (r : Request), s.Ready r → r.command = .queryCheckout → (s.basis r).serving = true →
    (parseHandle r.payload = none →
      exec (.queryCheckout r.port) s = .next (s.onlyAnswered r (.bare .badRequest))) ∧
    (∀ h, parseHandle r.payload = some h → s.findHandle h = none →
      exec (.queryCheckout r.port) s = .next (s.onlyAnswered r (.bare .notFound))) ∧
    (∀ (h n : Nat) (e : Checkout), parseHandle r.payload = some h → s.findHandle h = some (n, e) →
      exec (.queryCheckout r.port) s = .next (s.onlyAnswered r (.ok
        (b2 h ++ b1 e.owner.val ++ b4 e.tag ++ b2 (bundleCode e.bundle) ++ b1 (multiplierCode e.bundle) ++
          e.lines.flatMap (fun l => b1 (l.index.getD 255) ++ b2 l.code ++ b1 l.quantity ++ b1 l.pool.val ++ b2 l.cost ++
            indication l.orphan ++ b1 (termCode (s.cat.lineTerm l))) ++
          tokens e.charges ++ e.flags.byte ++ b4 e.grantedMinute ++ indication e.renewed ++ b1 e.missed))))) ∧
  (∀ (s : State) (r : Request), s.Ready r → r.command = .queryWait → (s.basis r).serving = true →
    (parseTicket r.payload = none →
      exec (.queryWait r.port) s = .next (s.onlyAnswered r (.bare .badRequest))) ∧
    (∀ t, parseTicket r.payload = some t → s.findTicket t = none →
      exec (.queryWait r.port) s = .next (s.onlyAnswered r (.bare .notFound))) ∧
    (∀ (t : Nat) (e : WaitEntry), parseTicket r.payload = some t → s.findTicket t = some e →
      exec (.queryWait r.port) s = .next (s.onlyAnswered r (.ok
        (b2 (s.ticket e) ++ b1 e.port.val ++ b4 e.tag ++ b2 (bundleCode e.bundle) ++ b1 (multiplierCode e.bundle) ++
          e.lines.flatMap (fun l => b1 (l.index.getD 255) ++ b2 l.code ++ b1 l.quantity ++ b1 l.pool.val ++ b2 l.cost ++
            b1 (termCode (s.cat.lineTerm l))) ++
          tokens e.charges ++ indication e.blocking ++ b1 e.remaining ++
          b1 e.arrival.reason.code ++ b1 (poolCode e.arrival.pool) ++ b1 e.last.reason.code ++
          b1 (poolCode e.last.pool) ++
          b1 (s.grant.queue.takeWhile fun x => x.slot != e.slot).length)))))

/-- QUERY FEATURE (R11, R16, R17): BY_CODE finds the first present slot of the code, FROM_SLOT the lowest present slot
at or above the index, and the reply is the slot's content, with no effect. The two forms of its payload and their
ranges (R16, R193). That each value has the width of its field (log 14), and that the site flags and term state
reported are those at the carrying out (log 4), are the model's. -/
def Obligations.QueryFeatureReports : Prop :=
  (∀ (payload : List Byte) (q : FeatureQuery), parseFeatureQuery payload = some q ↔ match q with
    | .byCode code => 1 ≤ code ∧ code ≤ 65534 ∧ payload = b1 0 ++ b2 code
    | .fromSlot i => i ≤ 63 ∧ payload = b1 1 ++ b1 i) ∧
  ∀ (s : State) (r : Request), s.Ready r → r.command = .queryFeature → (s.basis r).serving = true →
    (parseFeatureQuery r.payload = none →
      exec (.queryFeature r.port) s = .next (s.onlyAnswered r (.bare .badRequest))) ∧
    (∀ q, parseFeatureQuery r.payload = some q →
      (∀ i, i < 64 → ∀ f, (s.basis r).catalogue.feature i = some f →
        match q with | .byCode code => f.code ≠ code | .fromSlot j => i < j) →
      (s.basis r).catalogue.slots.length = 64 →
      exec (.queryFeature r.port) s = .next (s.onlyAnswered r (.bare .notFound))) ∧
    (∀ q i f, parseFeatureQuery r.payload = some q → i < 64 → (s.basis r).catalogue.feature i = some f →
      (match q with | .byCode code => f.code = code | .fromSlot j => j ≤ i) →
      (∀ i', i' < i → ∀ f', (s.basis r).catalogue.feature i' = some f' →
        match q with | .byCode code => f'.code ≠ code | .fromSlot j => i' < j) →
      exec (.queryFeature r.port) s = .next (s.onlyAnswered r (.ok
        (b1 i ++ b2 f.code ++ b1 f.pool.val ++ b1 f.rate ++ b1 (f.scales.get 0) ++ b1 (f.scales.get 1) ++
          b1 (f.scales.get 2) ++ b1 (f.scales.get 3) ++ b1 (s.basis r).effClass.val ++ b1 f.maxQuantity ++
          b4 f.termStart ++ b4 f.termEnd ++ b2 f.grace ++ b1 (termCode ((s.basis r).catalogue.slot i).term) ++
          f.vendorByte ++ b1 ((s.basis r).catalogue.slot i).site.bits ++
          indication ((s.basis r).catalogue.locked i)))))

/-- QUERY POOL (R39, R40): the pool's fields and, for the asking port, U, the room at the ceiling and the room with
overdraft, with no effect. Its payload is a pool index 0..3. That held, cap and reserve stand port by port is the
model's inference (log 14). -/
def Obligations.QueryPoolReports : Prop :=
  (∀ (payload : List Byte) (k : Pool), parsePool payload = some k ↔ payload = b1 k.val) ∧
  ∀ (s : State) (r : Request), s.Ready r → r.command = .queryPool → (s.basis r).serving = true →
    (parsePool r.payload = none →
      exec (.queryPool r.port) s = .next (s.onlyAnswered r (.bare .badRequest))) ∧
    (∀ k q x, parsePool r.payload = some k → s.pool k = q → (s.basis r).catalogue.poolRec k = some x →
      exec (.queryPool r.port) s = .next (s.onlyAnswered r (.ok
        (b1 k.val ++ b3 x.capacity ++ b3 x.allowance ++ b3 (s.ceiling k) ++
          indication q.pendingCeiling.isSome ++ b3 (q.pendingCeiling.getD 0) ++ b3 q.inUse ++
          (b3 (q.held.get 0) ++ b3 (q.cap.get 0) ++ b3 (q.reserve.get 0)) ++
          (b3 (q.held.get 1) ++ b3 (q.cap.get 1) ++ b3 (q.reserve.get 1)) ++
          (b3 (q.held.get 2) ++ b3 (q.cap.get 2) ++ b3 (q.reserve.get 2)) ++
          (b3 (q.held.get 3) ++ b3 (q.cap.get 3) ++ b3 (q.reserve.get 3)) ++
          b1 (s.grant.queue.filter fun e => decide (1 ≤ e.charges.get k)).length ++
          b1 (s.watches.get k).overdraft.code ++ b1 (s.watches.get k).watch.code ++ b4 (s.watches.get k).meter ++
          b3 (s.othersUnused k r.port) ++
          b3 (s.ceiling k - (q.inUse + s.othersUnused k r.port)) ++
          b3 ((if (s.watches.get k).overdraft = .opened then s.ceiling k + x.allowance else s.ceiling k) -
            (q.inUse + s.othersUnused k r.port))))))

/-! ### Charges, the fit test and CHECKOUT -/

/-- Line costs and pool charges (R29, R30): rounding up by line, rounding the rebate's reduction down, the ranges of
both, and that lines leave some pool needed. -/
def Obligations.ChargesAsGiven : Prop :=
  (∀ rate quantity scale : Nat,
    rate * quantity * scale ≤ 16 * lineCost rate quantity scale ∧
    16 * lineCost rate quantity scale < rate * quantity * scale + 16) ∧
  (∀ rate quantity scale : Nat, 1 ≤ rate → rate ≤ 255 → 1 ≤ quantity → quantity ≤ 64 → 1 ≤ scale → scale ≤ 64 →
    1 ≤ lineCost rate quantity scale ∧ lineCost rate quantity scale ≤ 65280) ∧
  (∀ (lines : List Line) (rebate : Nat), 1 ≤ lines.length → lines.length ≤ 8 → rebate ≤ 32 →
    (∀ l ∈ lines, 1 ≤ l.cost ∧ l.cost ≤ 65280) →
    (∀ k, poolTotal lines k ≤ 522240 ∧
      (chargesOf lines rebate).get k = poolTotal lines k - poolTotal lines k * rebate / 64 ∧
      (poolTotal lines k + 1) / 2 ≤ (chargesOf lines rebate).get k ∧
      ((∀ l ∈ lines, l.pool ≠ k) → (chargesOf lines rebate).get k = 0) ∧
      ((∃ l ∈ lines, l.pool = k) →
        1 ≤ (chargesOf lines rebate).get k ∧ (chargesOf lines rebate).get k ≤ 522240)) ∧
    ∃ k, needs (chargesOf lines rebate) k = true)

/-- The fit test (R31 to R33, R36): which outcome a pool gives, what the effective limit and the others' unused
reserve are, and that a request none of whose pools fails leaves each needed pool within its limit and its port within
its cap. The allowance is that of the catalogue the request is judged by (R1, R57). The order of the tests is in the
statement PoolsTestedInOrder. -/
def Obligations.FitTestAsGiven : Prop :=
  (∀ (s : State) (c : Catalogue) (p : Port) (k : Pool) (charge : Nat) (ok : Bool),
    (s.fitReason c p k charge ok = none ↔
      (s.pool k).inUse + charge + s.othersUnused k p ≤ s.effectiveLimit c k ok) ∧
    (s.fitReason c p k charge ok = some .overcommitted ↔ s.effectiveLimit c k ok < (s.pool k).inUse) ∧
    (s.fitReason c p k charge ok = some .reservedElsewhere ↔
      (s.pool k).inUse + charge ≤ s.effectiveLimit c k ok ∧
      s.effectiveLimit c k ok < (s.pool k).inUse + charge + s.othersUnused k p) ∧
    (s.fitReason c p k charge ok = some .noTokens ↔
      (s.pool k).inUse ≤ s.effectiveLimit c k ok ∧ s.effectiveLimit c k ok < (s.pool k).inUse + charge)) ∧
  (∀ (s : State) (c : Catalogue) (k : Pool) (ok : Bool) (x : PoolRec), c.poolRec k = some x →
    s.effectiveLimit c k ok =
      if (s.watches.get k).overdraft = .opened ∧ ok = true then s.ceiling k + x.allowance else s.ceiling k) ∧
  (∀ (s : State) (c : Catalogue) (k : Pool) (ok : Bool), c.poolRec k = none → s.effectiveLimit c k ok = s.ceiling k) ∧
  (∀ (s : State) (k : Pool) (p : Port), s.othersUnused k p = ((fours.filter fun q => q ≠ p).map fun q =>
    (s.pool k).reserve.get q - (s.pool k).held.get q).sum) ∧
  (∀ (s : State) (c : Catalogue) (p : Port) (charges : Quad Nat) (ok held : Pool → Bool),
    s.poolFailure c p charges ok held = none →
    ∀ k, 1 ≤ charges.get k →
      (s.pool k).inUse + charges.get k + s.othersUnused k p ≤ s.effectiveLimit c k (ok k) ∧
      ((s.pool k).cap.get p = 0 ∨ (s.pool k).held.get p + charges.get k ≤ (s.pool k).cap.get p) ∧
      held k = false)

/-- Stages 3 to 5 (R31, R34, R48, R50, R51, R72, R75): what the OVERDRAFT_OK, share cap and HELD conditions are;
within a pool the share cap test, then the HELD test, then the fit test; the first failing pool of those needed, in
index order; and after the pools the table, then the journal of a metered request. -/
def Obligations.PoolsTestedInOrder : Prop :=
  (∀ (c : Catalogue) (lines : List Line) (k : Pool), overdraftOk c lines k = true ↔
    ∀ l ∈ lines, l.pool = k → ∃ i f, l.index = some i ∧ c.feature i = some f ∧ f.overdraftOk = true) ∧
  (∀ (s : State) (c : Catalogue) (p : Port) (k : Pool) (charge : Nat) (ok held : Bool),
    ((s.pool k).cap.get p ≠ 0 ∧ (s.pool k).cap.get p < (s.pool k).held.get p + charge →
      s.poolReason c p k charge ok held = some .shareCap) ∧
    (¬ ((s.pool k).cap.get p ≠ 0 ∧ (s.pool k).cap.get p < (s.pool k).held.get p + charge) →
      s.poolReason c p k charge ok true = some .held ∧
      s.poolReason c p k charge ok false = s.fitReason c p k charge ok)) ∧
  (∀ (s : State) (c : Catalogue) (p : Port) (charges : Quad Nat) (ok held : Pool → Bool)
    (reason : Pool → Option Reason),
    (∀ k, reason k = s.poolReason c p k (charges.get k) (ok k) (held k)) →
    (s.poolFailure c p charges ok held = none ↔ ∀ k, 1 ≤ charges.get k → reason k = none) ∧
    ∀ x, s.poolFailure c p charges ok held = some x ↔
      ∃ k r, x = { reason := r, pool := some k } ∧ 1 ≤ charges.get k ∧ reason k = some r ∧
        ∀ j, j < k → 1 ≤ charges.get j → reason j = none) ∧
  (∀ (s : State) (c : Catalogue) (g : GrantOrder) (held : Pool → Bool) (failure : Option QueueReason),
    (∀ k, held k = true ↔ ∃ e ∈ s.grant.queue, e.blocking = true ∧ 1 ≤ e.charges.get k) →
    failure = s.poolFailure c g.owner g.charges (fun k => overdraftOk c g.lines k) held →
    (∀ x, failure = some x → s.orderFailure c g = some x) ∧
    (failure = none → (∀ n, n < s.grant.table.length → (s.checkoutAt n).isSome = true) →
      s.orderFailure c g = some { reason := .tableFull, pool := none }) ∧
    (∀ n, failure = none → n < s.grant.table.length → s.checkoutAt n = none →
      (g.metered = true ∧ 512 < s.journal.fifo.length + s.journal.rv + 2 →
        s.orderFailure c g = some { reason := .journalFull, pool := none }) ∧
      (¬ (g.metered = true ∧ 512 < s.journal.fifo.length + s.journal.rv + 2) → s.orderFailure c g = none)))

/-- Stages 1 and 2 (R8, R11, R13, R14, R26 to R28, R48, R49, R53): what a code finds; what a bundle and a list of
lines resolve to, an absent line code named by its position; the four tests of a line, in order; the first failing
line; and the order a request makes, each line with its pool and cost, GRACE and METERED. -/
def Obligations.CheckoutLinesTested : Prop :=
  (∀ (c : Catalogue) (code n : Nat), c.findCode code = some n ↔
    (∃ f, c.feature n = some f ∧ f.code = code) ∧ ∀ m f, m < n → c.feature m = some f → f.code ≠ code) ∧
  (∀ (c : Catalogue) (code : Nat) (b : Bundle), c.findBundle code = some b ↔
    ∃ n, c.bundles[n]? = some (some b) ∧ b.code = code ∧
      ∀ (m : Nat) (x : Bundle), m < n → c.bundles[m]? = some (some x) → x.code ≠ code) ∧
  (∀ (c : Catalogue) (code m : Nat),
    (c.findBundle code = none → resolve c (.bundle code m) = .absent 0) ∧
    ∀ b, c.findBundle code = some b → (∀ l ∈ b.lines, (c.feature l.feature).isSome = true) →
      resolve c (.bundle code m) = .found (some { code := code, multiplier := m }) b.rebate
        (b.lines.map fun l => (l.feature, l.base * m))) ∧
  (∀ (c : Catalogue) (pairs : List (Nat × Nat)),
    (∀ (n : Nat) (x : Nat × Nat), pairs[n]? = some x → c.findCode x.1 = none →
      (∀ (m : Nat) (y : Nat × Nat), m < n → pairs[m]? = some y → (c.findCode y.1).isSome = true) →
      resolve c (.lines pairs) = .absent (n + 1)) ∧
    ∀ items : List (Nat × Nat), items.length = pairs.length →
      (∀ (n : Nat) (x : Nat × Nat), pairs[n]? = some x → ∃ i, c.findCode x.1 = some i ∧ items[n]? = some (i, x.2)) →
      resolve c (.lines pairs) = .found none 0 items) ∧
  (∀ (c : Catalogue) (cls : Sys2Proof.Class) (i q : Nat) (f : Feature) (on idle : Prop), c.feature i = some f →
    (on ↔ (c.slot i).site.enabled = true) →
    (idle ↔ (c.slot i).term = some .pending ∨ (c.slot i).term = some .lapsed) →
    (lineFault c cls (i, q) = some .featureDisabled ↔ ¬ on) ∧
    (lineFault c cls (i, q) = some .featureInactive ↔ on ∧ idle) ∧
    (lineFault c cls (i, q) = some .classExcluded ↔ on ∧ ¬ idle ∧ f.scales.get cls = 0) ∧
    (lineFault c cls (i, q) = some .quantityLimit ↔ on ∧ ¬ idle ∧ f.scales.get cls ≠ 0 ∧ f.maxQuantity < q) ∧
    (lineFault c cls (i, q) = none ↔ on ∧ ¬ idle ∧ f.scales.get cls ≠ 0 ∧ q ≤ f.maxQuantity)) ∧
  (∀ (c : Catalogue) (cls : Sys2Proof.Class) (items : List (Nat × Nat)),
    (firstFault c cls 1 items = none ↔ ∀ x ∈ items, lineFault c cls x = none) ∧
    ∀ reason n, firstFault c cls 1 items = some (reason, n) ↔
      ∃ (m : Nat) (x : Nat × Nat), n = m + 1 ∧ items[m]? = some x ∧ lineFault c cls x = some reason ∧
        ∀ (j : Nat) (y : Nat × Nat), j < m → items[j]? = some y → lineFault c cls y = none) ∧
  (∀ (c : Catalogue) (cls : Sys2Proof.Class) (p : Port) (tag : Nat) (bundle : Option BundleRef) (rebate : Nat)
    (items : List (Nat × Nat)) (g : GrantOrder), g = orderFor c cls p tag bundle rebate items →
    (∀ x ∈ items, (c.feature x.1).isSome = true) →
    g.owner = p ∧ g.tag = tag ∧ g.bundle = bundle ∧ g.charges = chargesOf g.lines rebate ∧
      g.lines.length = items.length ∧
      (∀ (n i q : Nat) (f : Feature), items[n]? = some (i, q) → c.feature i = some f → g.lines[n]? = some
        { index := some i, code := f.code, quantity := q, pool := f.pool
          cost := lineCost f.rate q (f.scales.get cls), orphan := false }) ∧
      (g.grace = true ↔ ∃ x ∈ items, (c.slot x.1).term = some .grace) ∧
      (g.metered = true ↔ ∃ x ∈ items, ∃ f, c.feature x.1 = some f ∧ f.metered = true))

/-- A CHECKOUT that ends before stage 3 (R48, R49, R55): malformed, naming something absent, or with a line that fails
stage 2, as the statement CheckoutLinesTested says. Nothing changes but, for the last, a droppable DENY record. What
is well-formed: the two forms of the payload with R49's ranges and no code on two lines (R27, R28, R47). The order of
its fields, and the one byte that DENIED carries for the line, are the model's inference (log 14). -/
def Obligations.CheckoutTurnedAwayEarly : Prop :=
  (∀ (payload : List Byte) (q : CheckoutRequest), parseCheckout payload = some q ↔
    q.tag < 4294967296 ∧ q.timeout ≤ 255 ∧ match q.want with
      | .bundle code m => 1 ≤ code ∧ code ≤ 65534 ∧ 1 ≤ m ∧ m ≤ 16 ∧
        payload = b1 0 ++ b4 q.tag ++ b1 q.timeout ++ b2 code ++ b1 m
      | .lines pairs => 1 ≤ pairs.length ∧ pairs.length ≤ 8 ∧
        (∀ x ∈ pairs, 1 ≤ x.1 ∧ x.1 ≤ 65534 ∧ 1 ≤ x.2 ∧ x.2 ≤ 255) ∧ (pairs.map fun x => x.1).Nodup ∧
        payload = b1 1 ++ b4 q.tag ++ b1 q.timeout ++ b1 pairs.length ++ pairs.flatMap fun x => b2 x.1 ++ b1 x.2) ∧
  ∀ (s : State) (r : Request), s.Ready r → r.command = .checkout → (s.basis r).serving = true →
    (parseCheckout r.payload = none →
      exec (.checkout r.port) s = .next (s.onlyAnswered r (.bare .badRequest))) ∧
    (∀ q n, parseCheckout r.payload = some q → resolve (s.basis r).catalogue q.want = .absent n →
      exec (.checkout r.port) s = .next (s.onlyAnswered r { status := .notFound, payload := b1 n })) ∧
    (∀ q bundle rebate items reason n, parseCheckout r.payload = some q →
      resolve (s.basis r).catalogue q.want = .found bundle rebate items →
      firstFault (s.basis r).catalogue (s.basis r).effClass 1 items = some (reason, n) →
      exec (.checkout r.port) s = .next (({ s.dropRequest .checkout r.port with
          journal := s.journal.writeDroppable s.time.clock
            (RecordBody.plain .deny r.port 0 q.tag
              (match q.want with
                | .bundle code _ => code
                | .lines pairs => (pairs.head?.map fun (x : Nat × Nat) => x.1).getD 0)
              (Quad.fill 0)) }).respond r
        { status := .denied, payload := b1 reason.code ++ b1 n ++ [0#8] ++ tokens (Quad.fill 0) }))

/-- A CHECKOUT that passes all five stages is granted (R36, R41, R44, R52, R53): the entry stands in the lowest FREE
slot, in_use and the port's holdings rise by the charges, a metered grant writes its record and takes a reservation,
the reply names the handle, and nothing else changes. One taken under a catalogue since replaced is judged by that
catalogue, its capacities and its allowances, and its lines are bound by code to the active one (R1, R57); that the
capacity of the OVERDRAFT flag is the old one is the model's reading of R57 (log 5). -/
def Obligations.CheckoutGrants : Prop :=
  ∀ (s : State) (r : Request) (q : CheckoutRequest) (bundle : Option BundleRef) (rebate : Nat)
    (items : List (Nat × Nat)) (c : Catalogue) (g : GrantOrder) (lines : List Line) (od : Bool),
    s.Ready r → r.command = .checkout → c = (s.basis r).catalogue → c.serving = true →
    parseCheckout r.payload = some q → resolve c q.want = .found bundle rebate items →
    firstFault c (s.basis r).effClass 1 items = none →
    g = orderFor c (s.basis r).effClass r.port q.tag bundle rebate items →
    s.orderFailure c g = none →
    lines = (if r.under = none then g.lines else g.lines.map fun l => { l with
      index := s.cat.findCode l.code, orphan := (s.cat.findCode l.code).isNone }) →
    (od = true ↔ ∃ k, 1 ≤ g.charges.get k ∧ c.capacity k < (s.pool k).inUse + g.charges.get k) →
    ∃ (n : Nat) (u : State), exec (.checkout r.port) s = .next (u.respond r
        (.ok (b2 (s.generationAt n * 256 + n) ++ b1 ((if od then 1 else 0) + (if g.grace then 2 else 0)) ++
          tokens g.charges))) ∧
      s.checkoutAt n = none ∧ n < s.grant.table.length ∧ (∀ m, m < n → (s.checkoutAt m).isSome = true) ∧
      u.checkoutAt n = some
        { owner := r.port, tag := q.tag, bundle := bundle, lines := lines, charges := g.charges
          flags := { overdraft := od, grace := g.grace, orphan := lines.any fun l => l.orphan, metered := g.metered }
          grantedMinute := s.time.clock, renewed := true, missed := 0 } ∧
      u.generationAt n = s.generationAt n ∧
      (∀ m, m ≠ n → u.grant.table[m]? = s.grant.table[m]?) ∧
      (∀ k, u.pool k = { s.pool k with
        inUse := (s.pool k).inUse + g.charges.get k
        held := (s.pool k).held.modify r.port fun x => x + g.charges.get k }) ∧
      u.grant.queue = s.grant.queue ∧ u.grant.waitGens = s.grant.waitGens ∧
      (g.metered = false → u.journal = s.journal) ∧
      (g.metered = true → u.journal = { s.journal.write s.time.clock
        { kind := .grant, port := r.port, overdraft := od, grace := g.grace, orphan := false, forced := false
          handle := s.generationAt n * 256 + n, tag := q.tag
          code := (match bundle with | some b => b.code | none => (lines.head?.map fun (l : Line) => l.code).getD 0)
          charges := g.charges } with rv := s.journal.rv + 1 }) ∧
      { u with grant := s.grant, journal := s.journal } = s.dropRequest .checkout r.port

/-- A CHECKOUT refused at stages 3 to 5 (R50, R54 to R57, R120): queued when its reason, its timeout and its features
allow, the queue has room and the catalogue it was taken under is still the active one, else denied with a droppable
DENY record, QUEUE_FULL set where room alone was missing; either way each pool whose own fit test failed is handed its
shortfall, and no pool, slot or older entry changes. The one byte that DENIED carries for the pool, 255 for none, is
the model's inference (log 14). -/
def Obligations.CheckoutQueuesOrDenies : Prop :=
  ∀ (s : State) (r : Request) (q : CheckoutRequest) (bundle : Option BundleRef) (rebate : Nat)
    (items : List (Nat × Nat)) (c : Catalogue) (g : GrantOrder) (x : QueueReason) (may room : Bool),
    s.Ready r → r.command = .checkout → c = (s.basis r).catalogue → c.serving = true →
    parseCheckout r.payload = some q → resolve c q.want = .found bundle rebate items →
    firstFault c (s.basis r).effClass 1 items = none →
    g = orderFor c (s.basis r).effClass r.port q.tag bundle rebate items →
    s.orderFailure c g = some x →
    (may = true ↔ x.reason ≠ .journalFull ∧ 1 ≤ q.timeout ∧
      ∀ i n, (i, n) ∈ items → (c.slot i).site.queue = true ∧ ∃ f, c.feature i = some f ∧ f.queueable = true) →
    (room = true ↔ s.grant.queue.length < 32 ∧ (s.grant.queue.filter fun e => e.port == r.port).length < 8) →
    ∃ (u : State) (y : Reply), exec (.checkout r.port) s = .next (u.respond r y) ∧
      (∀ k, u.watches.get k = { s.watches.get k with
        tally := if 1 ≤ g.charges.get k ∧
            (s.fitReason c r.port k (g.charges.get k) (overdraftOk c g.lines k)).isSome = true
          then min 16777215 ((s.watches.get k).tally + ((g.lines.filter fun l => decide (l.pool = k) &&
            (match l.index with | some i => !(c.slot i).site.watchMask | none => true)).map fun l => l.cost).sum)
          else (s.watches.get k).tally }) ∧
      (may = true → room = true → r.under = none → s.QueueBounded → ∃ slot, slot < 32 ∧ s.waiting slot = none ∧
        (∀ m, m < slot → (s.waiting m).isSome = true) ∧
        y = { status := .queued
              payload := b2 (32768 + s.waitGeneration slot * 32 + slot) ++
                b1 x.reason.code ++ b1 (poolCode x.pool) ++ b1 s.grant.queue.length } ∧
        u.grant = { s.grant with queue := s.grant.queue ++
          [{ slot := slot, port := r.port, tag := q.tag, bundle := bundle, lines := g.lines, charges := g.charges
             blocking := decide (x.reason ≠ .shareCap ∧ x.reason ≠ .tableFull), remaining := q.timeout
             arrival := x, last := x }] } ∧
        u.journal = s.journal) ∧
      (¬ (may = true ∧ room = true ∧ r.under = none) →
        y = { status := .denied
              payload := b1 x.reason.code ++ b1 (poolCode x.pool) ++ indication (may && !room) ++ tokens g.charges } ∧
        u.grant = s.grant ∧
        u.journal = s.journal.writeDroppable s.time.clock
          (RecordBody.plain .deny r.port 0 q.tag
            (match bundle with | some b => b.code | none => (g.lines.head?.map fun (l : Line) => l.code).getD 0)
            g.charges)) ∧
      { u with grant := s.grant, journal := s.journal, watches := s.watches } = s.dropRequest .checkout r.port

/-! ### Returns, heartbeats and waits -/

/-- RETURN (R58 to R60): a handle not found, another port's handle without ADMIN, an own return and a forced return.
Its payload is one handle, 256..32,767 in two bytes (R43, R193). -/
def Obligations.ReturnReleasesCheckout : Prop :=
  (∀ (payload : List Byte) (h : Nat), parseHandle payload = some h ↔ 256 ≤ h ∧ h ≤ 32767 ∧ payload = b2 h) ∧
  ∀ (s : State) (r : Request), s.Ready r → r.command = .returnCheckout → (s.basis r).serving = true →
    (parseHandle r.payload = none →
      exec (.returnCheckout r.port) s = .next (s.onlyAnswered r (.bare .badRequest))) ∧
    (∀ h, parseHandle r.payload = some h → s.findHandle h = none →
      exec (.returnCheckout r.port) s = .next (s.onlyAnswered r (.bare .notFound))) ∧
    (∀ (h n : Nat) (e : Checkout), parseHandle r.payload = some h → s.findHandle h = some (n, e) → e.owner ≠ r.port →
      (s.basis r).privileges.admin = false →
      exec (.returnCheckout r.port) s = .next (s.onlyAnswered r (.bare .notPermitted))) ∧
    (∀ (h n : Nat) (e : Checkout), parseHandle r.payload = some h → s.findHandle h = some (n, e) → e.owner = r.port →
      ∃ u : State, (s.dropRequest .returnCheckout r.port).Releases u n e .returned ∧
        exec (.returnCheckout r.port) s =
          .next (u.queuePass.respond r (.ok (b2 h ++ tokens e.charges ++ e.flags.byte)))) ∧
    (∀ (h n : Nat) (e : Checkout), parseHandle r.payload = some h → s.findHandle h = some (n, e) → e.owner ≠ r.port →
      (s.basis r).privileges.admin = true →
      ∃ u : State, (s.dropRequest .returnCheckout r.port).Releases u n e .forcedReturn ∧
        exec (.returnCheckout r.port) s =
          .next ((u.notify e.owner (.forced h e.tag r.port)).queuePass.respond r
            (.ok (b2 h ++ b1 e.owner.val ++ b4 e.tag ++ tokens e.charges ++ e.flags.byte))))

/-- RETURN TAG and RELEASE PORT (R37, R45, R58, R61, R62, R79, R82): a malformed payload; else the port's checkouts
and waiting entries, all of them or those of the tag, are gone together: their slots under the next generation, their
charges credited, a record for each metered release in slot order and then a droppable WAIT_END record for each entry
in queue order, and one pass follows when there was any. The others are as they were. RETURN TAG's payload is one job
tag in four bytes. That the release records come before the WAIT_END records is the model's choice (log 33), and the
widths of the counts in the reply are its inference (log 14). -/
def Obligations.TagAndPortReleases : Prop :=
  (∀ (payload : List Byte) (n : Nat), parseNumber 4 payload = some n ↔ n < 4294967296 ∧ payload = b4 n) ∧
  (∀ (s : State) (r : Request), s.Ready r → (s.basis r).serving = true →
    (r.command = .returnTag → parseNumber 4 r.payload = none →
      exec (.returnTag r.port) s = .next (s.onlyAnswered r (.bare .badRequest))) ∧
    (r.command = .releasePort → r.payload ≠ [] →
      exec (.releasePort r.port) s = .next (s.onlyAnswered r (.bare .badRequest)))) ∧
  ∀ (s : State) (r : Request) (c : Command) (tag : Nat) (mine : Nat → Bool) (leaves : Checkout → Bool)
    (going : List WaitEntry) (total : Pool → Nat),
    s.Ready r → r.command = c → (s.basis r).serving = true → s.QueueBounded →
    (c = .returnTag ∧ parseNumber 4 r.payload = some tag ∧ (mine = fun t => t == tag) ∨
      c = .releasePort ∧ r.payload = [] ∧ (mine = fun _ => true)) →
    (leaves = fun e => e.owner == r.port && mine e.tag) →
    going = s.grant.queue.filter (fun e => e.port == r.port && mine e.tag) →
    (total = fun k => chargeSum s.grant.table k leaves) →
    ∃ (u : State) (n : Nat), u.grant.queue = (s.grant.queue.filter fun e => !(e.port == r.port && mine e.tag)) ∧
      n = s.grant.table.countP (fun x => match x.entry with | some e => leaves e | none => false) ∧
      (∀ i, u.checkoutAt i = match s.checkoutAt i with
        | some e => if leaves e then none else some e
        | none => none) ∧
      (∀ i, u.generationAt i = match s.checkoutAt i with
        | some e => if leaves e then nextGeneration (s.generationAt i) else s.generationAt i
        | none => s.generationAt i) ∧
      (∀ i, u.waitGeneration i =
        if going.any (fun e => e.slot == i) then nextWaitGeneration (s.waitGeneration i) else s.waitGeneration i) ∧
      (∀ k, u.pool k = { s.pool k with
        inUse := (s.pool k).inUse - total k, held := (s.pool k).held.modify r.port fun x => x - total k }) ∧
      u.journal = going.foldl
        (fun j e => j.writeDroppable s.time.clock
          (RecordBody.plain .waitEnd e.port (s.ticket e) e.tag (requestCode e.bundle e.lines) e.charges))
        ((List.range s.grant.table.length).foldl
          (fun j i => match s.checkoutAt i with
            | some e =>
              if leaves e && e.flags.metered then
                { j.write s.time.clock (s.releaseRecord i e .returned) with rv := j.rv - 1 } else j
            | none => j) s.journal) ∧
      { u with grant := s.grant, journal := s.journal } = s.dropRequest c r.port ∧
      (c = .returnTag → exec (.returnTag r.port) s =
        .next ((if n = 0 ∧ going = [] then u else u.queuePass).respond r
          (.ok (b2 n ++ b1 going.length ++ tokens (Quad.ofFn total))))) ∧
      (c = .releasePort → exec (.releasePort r.port) s =
        .next (((if n = 0 ∧ going = [] then u else u.queuePass).abandonStaging r.port).respond r
          (.ok (b2 n ++ b1 going.length ++ tokens (Quad.ofFn total) ++
            indication (decide (s.stager.port = some r.port) && s.stager.open_)))))

/-- A handle finds the checkout of its slot under its generation and nothing else (R43). One whose checkout is released
is not found again, neither while the slot is FREE nor after a new grant into it, which has the next generation's
handle (R45, R64): the slot's generation moves on, within 1..127 and from 127 to 1, and no handle of another slot is
touched. -/
def Obligations.ReleasedHandleIsStale : Prop :=
  (∀ (s : State) (h n : Nat) (e : Checkout), s.findHandle h = some (n, e) ↔
    n = h % 256 ∧ s.checkoutAt n = some e ∧ s.generationAt n = h / 256) ∧
  ∀ (s : State) (n : Nat) (e : Checkout) (kind : RecordKind), s.SlotsNumbered → s.checkoutAt n = some e →
    s.findHandle (s.generationAt n * 256 + n) = some (n, e) ∧
    (s.release n e kind).findHandle (s.generationAt n * 256 + n) = none ∧
    (∀ g : GrantOrder, ((s.release n e kind).grantInto n g).findHandle (s.generationAt n * 256 + n) = none ∧
      ∃ c, c.owner = g.owner ∧ ((s.release n e kind).grantInto n g).findHandle
        ((s.release n e kind).generationAt n * 256 + n) = some (n, c)) ∧
    (s.release n e kind).generationAt n ≠ s.generationAt n ∧
    1 ≤ (s.release n e kind).generationAt n ∧ (s.release n e kind).generationAt n ≤ 127 ∧
    (s.generationAt n < 127 → (s.release n e kind).generationAt n = s.generationAt n + 1) ∧
    (s.generationAt n = 127 → (s.release n e kind).generationAt n = 1) ∧
    ∀ h, h % 256 ≠ n → (s.release n e kind).findHandle h = s.findHandle h

/-- HEARTBEAT (R105 to R108): each handle gets its result from the table as it stands, exactly the checkouts renewed
have their renewed flag set, and nothing else changes. A line refuses renewal when its feature is LAPSED and its
orphan mark is clear; for a request taken under a catalogue since replaced, when that catalogue holds its code and the
feature is LAPSED there. Its payload is a count 1..15 and that many handles, each 256..32,767 (R105). Which moment's
stored term state stands in such a catalogue is the model's choice (log 4). -/
def Obligations.HeartbeatRenews : Prop :=
  (∀ (payload : List Byte) (hs : List Nat), parseHandles payload = some hs ↔
    1 ≤ hs.length ∧ hs.length ≤ 15 ∧ (∀ h ∈ hs, 256 ≤ h ∧ h ≤ 32767) ∧ payload = b1 hs.length ++ hs.flatMap b2) ∧
  ∀ (s : State) (r : Request) (c : Catalogue) (lapsed : Line → Bool), s.Ready r → r.command = .heartbeat →
    c = (s.basis r).catalogue → c.serving = true →
    (∀ l, lapsed l = true ↔
      (r.under = none ∧ l.orphan = false ∧ s.cat.lineTerm l = some .lapsed) ∨
      (r.under ≠ none ∧ ∃ i, c.findCode l.code = some i ∧ (c.slot i).term = some .lapsed)) →
    (parseHandles r.payload = none →
      exec (.heartbeat r.port) s = .next (s.onlyAnswered r (.bare .badRequest))) ∧
    (∀ (hs : List Nat) (result : Nat → BeatResult), parseHandles r.payload = some hs →
      (result = fun h => match s.findHandle h with
        | none => BeatResult.notFound
        | some (_, e) =>
          if e.owner ≠ r.port then .notOwner
          else if e.lines.any (fun l => lapsed l) then .lapsed
          else .renewed) →
      ∃ u : State, exec (.heartbeat r.port) s = .next (u.respond r
          (.ok (b1 hs.length ++ hs.flatMap (fun h => b1 (result h).code) ++
            b1 (hs.countP fun h => result h == .renewed) ++ b1 s.time.mode.code ++ b2 s.time.length ++
            b2 s.time.windowTimer))) ∧
        (∀ n, u.checkoutAt n = (s.checkoutAt n).map fun e =>
          if hs.any (fun h => h % 256 == n && result h == .renewed) then { e with renewed := true } else e) ∧
        (∀ n, u.generationAt n = s.generationAt n) ∧
        { u with grant := { u.grant with table := s.grant.table } } = s.dropRequest .heartbeat r.port)

/-- CANCEL WAIT (R70, R79, R80): a ticket not found, another port's without ADMIN, and the removal of the entry, with
a notice only to another port, a droppable record, and a pass only when the entry was blocking. Its payload is one
ticket, 32,800..40,959 in two bytes (R70, R193), which names the waiting entry whose slot and its generation make it
(R70). -/
def Obligations.CancelWaitRemovesEntry : Prop :=
  (∀ (payload : List Byte) (t : Nat), parseTicket payload = some t ↔ 32800 ≤ t ∧ t ≤ 40959 ∧ payload = b2 t) ∧
  (∀ (s : State) (t : Nat) (e : WaitEntry), s.SlotsNumbered → s.QueueBounded →
    (s.findTicket t = some e ↔ e ∈ s.grant.queue ∧ t = 32768 + s.waitGeneration e.slot * 32 + e.slot)) ∧
  ∀ (s : State) (r : Request), s.Ready r → r.command = .cancelWait → (s.basis r).serving = true →
    (parseTicket r.payload = none →
      exec (.cancelWait r.port) s = .next (s.onlyAnswered r (.bare .badRequest))) ∧
    (∀ t, parseTicket r.payload = some t → s.findTicket t = none →
      exec (.cancelWait r.port) s = .next (s.onlyAnswered r (.bare .notFound))) ∧
    (∀ (t : Nat) (e : WaitEntry), parseTicket r.payload = some t → s.findTicket t = some e → e.port ≠ r.port →
      (s.basis r).privileges.admin = false →
      exec (.cancelWait r.port) s = .next (s.onlyAnswered r (.bare .notPermitted))) ∧
    (∀ (t : Nat) (e : WaitEntry), parseTicket r.payload = some t → s.findTicket t = some e →
      e.port = r.port ∨ (s.basis r).privileges.admin = true →
      ∃ u : State, exec (.cancelWait r.port) s = .next ((if e.blocking then u.queuePass else u).respond r
          (.ok (b2 (32768 + s.waitGeneration e.slot * 32 + e.slot) ++ b1 e.port.val ++ b4 e.tag ++ b1 e.remaining ++
            indication e.blocking))) ∧
        u.grant.queue = (s.grant.queue.filter fun x => x.slot != e.slot) ∧
        u.grant.waitGens = s.grant.waitGens.set e.slot
          (if s.waitGeneration e.slot < 255 then s.waitGeneration e.slot + 1 else 1) ∧
        u.grant.table = s.grant.table ∧ u.grant.pools = s.grant.pools ∧
        u.journal = s.journal.writeDroppable s.time.clock
          (RecordBody.plain .waitEnd e.port (s.ticket e) e.tag (requestCode e.bundle e.lines) e.charges) ∧
        u.ports = (if e.port = r.port then s.ports else
          s.ports.set e.port ((s.ports.get e.port).hand (.waitEnded (s.ticket e) .cancelled))) ∧
        { u with grant := s.grant, journal := s.journal, ports := s.ports } = s.dropRequest .cancelWait r.port)

/-- A queue pass as a whole (R73 to R77): it starts with no pool blocked, adds no entry and changes the order of none;
an entry that stays keeps everything but its blocking flag and last reason; every slot HELD before stays HELD by the
same checkout; and no shortfall, term, window or staging is touched. Where the oldest entry stays blocking for a pool
reason, every younger entry that shares a pool with it stays exactly as it was; where it fits and no slot is FREE, all
of them do (R77). What the pass does with each entry is in the statement QueuePassJudgesEachEntry. -/
def Obligations.QueuePassServesOldestFirst : Prop :=
  (∀ s : State,
    s.queuePass = (s.passOver ⟨false, false, false, false⟩ s.grant.queue).state ∧
    (s.queuePass.grant.queue.map fun e => e.slot).Sublist (s.grant.queue.map fun e => e.slot) ∧
    (∀ e ∈ s.queuePass.grant.queue, ∃ x ∈ s.grant.queue, e = { x with blocking := e.blocking, last := e.last }) ∧
    (∀ n e, s.checkoutAt n = some e → s.queuePass.checkoutAt n = some e) ∧
    (∀ n, s.queuePass.generationAt n = s.generationAt n) ∧
    { s.queuePass with grant := s.grant, journal := s.journal, ports := s.ports } = s) ∧
  (∀ (s : State) (e : WaitEntry) (es : List WaitEntry), s.grant.queue = e :: es →
    (s.grant.queue.map fun x => x.slot).Nodup → s.recheckFails e = false →
    (∀ n, s.entryFailure e = none → s.freeSlot = some n →
      ((s.orderOf e).metered = true → s.journal.fifo.length + s.journal.rv + 2 ≤ 512) →
      (∀ x ∈ s.queuePass.grant.queue, x.slot ≠ e.slot) ∧ ∃ c, s.queuePass.checkoutAt n = some c ∧ c.owner = e.port) ∧
    (∀ r, s.entryFailure e = some r →
      ∃ rest, s.queuePass.grant.queue = { e with blocking := decide (r.reason ≠ .shareCap), last := r } :: rest) ∧
    (∀ r x, s.entryFailure e = some r → r.reason ≠ .shareCap → x ∈ es →
      (∃ k, 1 ≤ e.charges.get k ∧ 1 ≤ x.charges.get k) → x ∈ s.queuePass.grant.queue) ∧
    (s.entryFailure e = none → s.freeSlot = none → ∃ y, s.queuePass.grant.queue = y :: es))

/-- A queue pass entry by entry, oldest first (R36, R74 to R77, R79). What the re-check fails on and what the pool
tests are; then, for the entry reached with a set of pools blocked so far: it is left as it is where a pool it needs
is blocked; removed as FAILED, with its notice and its record, where the re-check fails; kept without blocking for
SHARE_CAP; kept blocking, with every pool it needs added to the blocked set, for a pool reason. Where it fits: with no
FREE slot it takes the last reason TABLE_FULL and the pass ends there, the later entries unvisited (R77); with no room
in the journal for a metered one it is left as it is and the pass goes on; else it is granted, with its charges, its
notice and its record. -/
def Obligations.QueuePassJudgesEachEntry : Prop :=
  (∀ (s : State) (e : WaitEntry), s.recheckFails e = true ↔ ∃ l ∈ e.lines, ∀ i, l.index = some i →
    (s.cat.slot i).site.enabled = false ∨
      ((s.cat.slot i).term ≠ some .active ∧ (s.cat.slot i).term ≠ some .grace)) ∧
  (∀ (s : State) (e : WaitEntry), s.entryFailure e =
    s.poolFailure s.cat e.port e.charges (fun k => overdraftOk s.cat e.lines k) fun _ => false) ∧
  (∀ (s : State) (b : Quad Bool), s.passOver b [] = { state := s, blocked := b, unvisited := [] }) ∧
  ∀ (s : State) (b : Quad Bool) (e : WaitEntry) (es : List WaitEntry),
    ((∃ k, b.get k = true ∧ 1 ≤ e.charges.get k) → s.passOver b (e :: es) = s.passOver b es) ∧
    ((∀ k, b.get k = true → e.charges.get k = 0) →
      (s.recheckFails e = true → ∃ u : State, s.passOver b (e :: es) = u.passOver b es ∧
        u.grant = { s.grant with
          queue := s.grant.queue.filter fun x => x.slot != e.slot
          waitGens := s.grant.waitGens.set e.slot
            (if s.waitGeneration e.slot < 255 then s.waitGeneration e.slot + 1 else 1) } ∧
        u.ports = s.ports.set e.port ((s.ports.get e.port).hand (.waitEnded (s.ticket e) .failed)) ∧
        u.journal = s.journal.writeDroppable s.time.clock
          (RecordBody.plain .waitEnd e.port (s.ticket e) e.tag (requestCode e.bundle e.lines) e.charges) ∧
        { u with grant := s.grant, ports := s.ports, journal := s.journal } = s) ∧
      (s.recheckFails e = false →
        (∀ r, s.entryFailure e = some r → ∃ b' : Quad Bool,
          s.passOver b (e :: es) = (State.withQueue s (s.grant.queue.map fun x =>
            if x.slot = e.slot then { x with blocking := decide (r.reason ≠ .shareCap), last := r }
            else x)).passOver b' es ∧
          (r.reason = .shareCap → b' = b) ∧
          (r.reason ≠ .shareCap → ∀ k, b'.get k = true ↔ b.get k = true ∨ 1 ≤ e.charges.get k)) ∧
        (s.entryFailure e = none → (∀ n, n < s.grant.table.length → (s.checkoutAt n).isSome = true) →
          s.passOver b (e :: es) =
            { state := s.withQueue (s.grant.queue.map fun x =>
                if x.slot = e.slot then { x with last := { reason := .tableFull, pool := none } } else x)
              blocked := b, unvisited := es }) ∧
        (∀ (n : Nat) (metered grace od : Bool), s.entryFailure e = none → n < s.grant.table.length →
          s.checkoutAt n = none → (∀ m, m < n → (s.checkoutAt m).isSome = true) →
          (metered = true ↔ ∃ l ∈ e.lines, ∃ i f, l.index = some i ∧ s.cat.feature i = some f ∧ f.metered = true) →
          (grace = true ↔ ∃ l ∈ e.lines, ∃ i, l.index = some i ∧ (s.cat.slot i).term = some .grace) →
          (od = true ↔ ∃ k, 1 ≤ e.charges.get k ∧ s.cat.capacity k < (s.pool k).inUse + e.charges.get k) →
          (metered = true ∧ 512 < s.journal.fifo.length + s.journal.rv + 2 →
            s.passOver b (e :: es) = s.passOver b es) ∧
          (¬ (metered = true ∧ 512 < s.journal.fifo.length + s.journal.rv + 2) →
            ∃ u : State, s.passOver b (e :: es) = u.passOver b es ∧
              u.checkoutAt n = some
                { owner := e.port, tag := e.tag, bundle := e.bundle, lines := e.lines, charges := e.charges
                  flags := { overdraft := od, grace := grace, orphan := e.lines.any fun l => l.orphan
                             metered := metered }
                  grantedMinute := s.time.clock, renewed := true, missed := 0 } ∧
              u.generationAt n = s.generationAt n ∧ (∀ m, m ≠ n → u.grant.table[m]? = s.grant.table[m]?) ∧
              (∀ k, u.pool k = { s.pool k with
                inUse := (s.pool k).inUse + e.charges.get k
                held := (s.pool k).held.modify e.port fun x => x + e.charges.get k }) ∧
              u.grant.queue = (s.grant.queue.filter fun x => x.slot != e.slot) ∧
              u.grant.waitGens = s.grant.waitGens.set e.slot
                (if s.waitGeneration e.slot < 255 then s.waitGeneration e.slot + 1 else 1) ∧
              u.ports = s.ports.set e.port ((s.ports.get e.port).hand
                (.granted (s.ticket e) (s.generationAt n * 256 + n) od grace)) ∧
              u.journal = (if metered then
                { s.journal.write s.time.clock
                    { kind := .grant, port := e.port, overdraft := od, grace := grace, orphan := false, forced := false
                      handle := s.generationAt n * 256 + n, tag := e.tag
                      code := requestCode e.bundle e.lines, charges := e.charges } with rv := s.journal.rv + 1 }
                else s.journal) ∧
              { u with grant := s.grant, ports := s.ports, journal := s.journal } = s))))

/-- Every command that needs a privilege is answered NOT_PERMITTED from a port without it, with no effect, whatever
its payload (R6). In NO_IMAGE every command that needs the catalogue is answered NOT_READY and changes nothing,
whatever its payload (R19). -/
def Obligations.CommandsTurnedAway : Prop :=
  (∀ c ∈ [Command.windowClose, .stageBegin, .stageRecord, .stageFinish, .activate, .stageAbort, .policyStage,
      .policyApply, .setCeiling, .setShare],
    ∀ (s : State) (r : Request), s.Ready r → r.command = c → (s.basis r).privileges.admin = false →
      exec (commandRow c r.port) s = .next (s.onlyAnswered r (.bare .notPermitted))) ∧
  (∀ (s : State) (r : Request), s.Ready r → r.command = .timeAssert → (s.basis r).privileges.time = false →
    exec (.timeAssert r.port) s = .next (s.onlyAnswered r (.bare .notPermitted))) ∧
  ∀ c ∈ [Command.checkout, .returnCheckout, .returnTag, .releasePort, .queryCheckout, .heartbeat, .cancelWait,
      .queryWait, .queryFeature, .queryPool, .policyStage, .policyApply, .setCeiling, .setShare],
    ∀ (s : State) (r : Request), s.Ready r → r.command = c → (s.basis r).serving = false →
      exec (commandRow c r.port) s = .next (s.onlyAnswered r (.bare .notReady))

/-! ### Time -/

/-- TIME ASSERT (R98): the four cases of its table, the clamp formed without wrapping, the TIME record only for a
change, the stored term states following the clock (R15), and TERM notices at every port, in slot order (R102). That
the save an hour's change asks for begins before the record is written is the model's choice (log 18). Its payload is
one value in four bytes (R193). -/
def Obligations.TimeAssertMovesClock : Prop :=
  (∀ (payload : List Byte) (n : Nat), parseNumber 4 payload = some n ↔ n < 4294967296 ∧ payload = b4 n) ∧
  ∀ (s : State) (r : Request), s.Ready r → r.command = .timeAssert → (s.basis r).privileges.time = true →
    (parseNumber 4 r.payload = none →
      exec (.timeAssert r.port) s = .next (s.onlyAnswered r (.bare .badRequest))) ∧
    (∀ v : Nat, parseNumber 4 r.payload = some v → v < s.time.clock →
      exec (.timeAssert r.port) s =
        .next (s.onlyAnswered r { status := .timeHeld, payload := b4 s.time.clock })) ∧
    (∀ v : Nat, parseNumber 4 r.payload = some v → v = s.time.clock → s.time.clock ≤ 4294967295 →
      exec (.timeAssert r.port) s = .next (s.onlyAnswered r (.ok (b4 v ++ b4 v ++ [0#8])))) ∧
    (∀ v w : Nat, parseNumber 4 r.payload = some v → s.time.clock < v →
      w = min v (min 4294967295 (s.time.clock + 1440)) → s.time.clock < w →
      ∃ u : State, exec (.timeAssert r.port) s =
          .next (u.respond r (.ok (b4 w ++ b4 v ++ indication (decide (w < v))))) ∧
        u.time = { s.time with clock := w } ∧
        u.cat = { s.cat with slots := s.cat.slots.map fun sl =>
          { sl with term := sl.feature.map fun f => f.termAt w } } ∧
        u.ports = s.ports.map (fun (q : PortIf) => q.handAll (s.termsRaised w)) ∧
        u.journal = s.journal.writeDroppable w (RecordBody.plain .time r.port 0 v 0 (Quad.fill 0)) ∧
        (w / 60 = s.time.clock / 60 → u.store = s.store) ∧
        (w / 60 ≠ s.time.clock / 60 → s.store.write = .idle → u.store = { s.store with
          saveWaiting := false
          write := .saving { clock := w, meters := s.watches.map fun (x : Watch) => x.meter
                             sequence := s.journal.nextSeq } }) ∧
        (w / 60 ≠ s.time.clock / 60 → s.store.write ≠ .idle → u.store = { s.store with saveWaiting := true }) ∧
        { u with time := s.time, cat := s.cat, journal := s.journal, store := s.store, ports := s.ports } =
          s.dropRequest .timeAssert r.port)

/-- WINDOW CLOSE (R90, R93): one window end for every receiver in either mode, the timer back to 0, and the reply as
the window stood before it. That the window end waits in a count for each receiver is the model's choice (log 7). -/
def Obligations.WindowCloseEndsWindow : Prop :=
  ∀ (s : State) (r : Request), s.Ready r → r.command = .windowClose → (s.basis r).privileges.admin = true →
    (r.payload ≠ [] → exec (.windowClose r.port) s = .next (s.onlyAnswered r (.bare .badRequest))) ∧
    (r.payload = [] → exec (.windowClose r.port) s = .next (({ s.dropRequest .windowClose r.port with
        time := { s.time with windowTimer := 0 }
        due := { sweep := s.due.sweep + 1, grant := s.due.grant + 1, demand := s.due.demand.map (· + 1)
                 port := s.due.port.map (· + 1) } }).respond r
      (.ok (b1 s.time.mode.code ++ b2 s.time.length ++ b2 s.time.windowTimer ++ b4 s.time.clock))))

/-- The second tick (R87, R88, R91, R97, R102, R103, R156) and the three rows that name its outcomes, each where its
outcome comes (that those rows are the tick at which it comes is the model's choice, log 6, and so is that each leaves
the prescaler at 0 whatever its count, log 8; that a window end waits in a count for each receiver is its choice too,
log 7, and so is that the minute advance of the same tick comes before any of them takes it, log 39). With no command
waiting, one TREF rising edge passes in a running part (R87; that a step on an empty queue is one edge is the model's
choice, log 1): the prescaler counts it, and the edge that reaches 32,768 returns it to 0 with a second tick. A part
without supply or in RESET stays as it is (log 12). -/
def Obligations.SecondTickCounts : Prop :=
  (∀ (s : State) (i : Instr), s.running = true →
    (i = .secondTick ∨ i = .minuteAdvance ∧ s.time.minuteCount = 59 ∨
      i = .windowTimerExpiry ∧ s.time.mode = .auto ∧ min 65535 (s.time.windowTimer + 1) = s.time.length ∨
      i = .stagingTimeout ∧ (s.stager.state = .opened ∨ s.stager.state = .complete) ∧ s.stager.timer = 599) →
    s.time.minuteCount ≤ 59 →
    ∃ t : State, exec i s = .next t ∧ t.time.prescaler = 0 ∧
      (s.time.mode = .auto ∧ min 65535 (s.time.windowTimer + 1) = s.time.length →
        t.time.windowTimer = 0 ∧
        t.due = { sweep := s.due.sweep + 1, grant := s.due.grant + 1, demand := s.due.demand.map (· + 1)
                  port := s.due.port.map (· + 1) }) ∧
      (¬ (s.time.mode = .auto ∧ min 65535 (s.time.windowTimer + 1) = s.time.length) →
        t.time.windowTimer = min 65535 (s.time.windowTimer + 1) ∧ t.due = s.due) ∧
      (s.time.minuteCount < 59 →
        t.time.minuteCount = s.time.minuteCount + 1 ∧ t.time.clock = s.time.clock ∧ t.cat = s.cat ∧
        t.store = s.store ∧ t.ports = s.ports) ∧
      (s.time.minuteCount = 59 →
        t.time.minuteCount = 0 ∧ t.time.clock = min 4294967295 (s.time.clock + 1) ∧
        (s.time.clock = 4294967295 → t.cat = s.cat ∧ t.store = s.store ∧ t.ports = s.ports) ∧
        (s.time.clock < 4294967295 →
          t.ports = s.ports.map (fun (q : PortIf) => q.handAll (s.termsRaised (s.time.clock + 1))) ∧
          t.cat = { s.cat with slots := s.cat.slots.map fun sl =>
            { sl with term := sl.feature.map fun f => f.termAt (s.time.clock + 1) } } ∧
          ((s.time.clock + 1) / 60 = s.time.clock / 60 → t.store = s.store) ∧
          ((s.time.clock + 1) / 60 ≠ s.time.clock / 60 → s.store.write = .idle → t.store = { s.store with
            saveWaiting := false
            write := .saving { clock := s.time.clock + 1, meters := s.watches.map fun (x : Watch) => x.meter
                               sequence := s.journal.nextSeq } }) ∧
          ((s.time.clock + 1) / 60 ≠ s.time.clock / 60 → s.store.write ≠ .idle →
            t.store = { s.store with saveWaiting := true }))) ∧
      t.stager = (if s.stager.state = .opened ∨ s.stager.state = .complete then
        (if s.stager.timer < 599 then { s.stager with timer := s.stager.timer + 1 } else Stager.initial)
        else s.stager) ∧
      { t with time := s.time, due := s.due, cat := s.cat, store := s.store, ports := s.ports
               stager := s.stager } = s ∧
      t.time.mode = s.time.mode ∧ t.time.length = s.time.length ∧ t.time.wclk = s.time.wclk) ∧
  (∀ s : State, s.pending = [] →
    (s.running = false → step s = .next s) ∧
    (s.running = true → s.time.prescaler + 1 < 32768 →
      step s = .next { s with time := { s.time with prescaler := s.time.prescaler + 1 } }) ∧
    (s.running = true → s.time.prescaler + 1 = 32768 →
      step s = exec .secondTick s ∧ ∃ t : State, step s = .next t ∧ t.time.prescaler = 0))

/-- No command but those of supply lowers the term clock or an overdraft meter, and the clock stays a 32-bit count
(R97, R101, R130). -/
def Obligations.ClockAndMetersNeverFall : Prop :=
  ∀ (i : Instr) (s t : State), exec i s = .next t → (∀ x, i ≠ .powerOn x) → i ≠ .powerLoss →
    s.time.clock ≤ 4294967295 → (∀ k, (s.watches.get k).meter ≤ 4294967295) →
    s.time.clock ≤ t.time.clock ∧ t.time.clock ≤ 4294967295 ∧
    ∀ k, (s.watches.get k).meter ≤ (t.watches.get k).meter ∧ (t.watches.get k).meter ≤ 4294967295

/-! ### Window ends as their receivers take them -/

/-- SWEEP WINDOW END (R90, R110, R111): in IDLE a walk starts at slot 0 with the highest HELD slot as its limit and
the active threshold, or ends at once when no slot is HELD; in SWEEPING the pending window end is set, and a second
one is absorbed. That this row does nothing where no window end is owed is the model's choice (log 2), and so is the
count of those owed (log 7). -/
def Obligations.SweepWindowEndStartsWalk : Prop :=
  ∀ s : State, s.running = true →
    (s.due.sweep = 0 → exec .sweepWindowEnd s = .next s) ∧
    (0 < s.due.sweep → s.sweep.state = .idle → (∀ n, s.checkoutAt n = none) →
      exec .sweepWindowEnd s =
        .next { s with due := { s.due with sweep := s.due.sweep - 1 }, sweep := Sweep.initial }) ∧
    (∀ l, 0 < s.due.sweep → s.sweep.state = .idle → (s.checkoutAt l).isSome = true →
      (∀ n, l < n → s.checkoutAt n = none) →
      exec .sweepWindowEnd s = .next { s with
        due := { s.due with sweep := s.due.sweep - 1 }
        sweep := { state := .sweeping, position := 0, limit := some l
                   threshold := s.cat.head.map fun h => h.header.threshold, pendingEnd := false } }) ∧
    (0 < s.due.sweep → s.sweep.state = .sweeping →
      exec .sweepWindowEnd s = .next { s with
        due := { s.due with sweep := s.due.sweep - 1 }, sweep := { s.sweep with pendingEnd := true } })

/-- SWEEP VISIT and RECLAIM (R111 to R113): the visit of a HELD slot clears its renewed flag and returns the missed
count to 0 or raises it by one, and the count that reaches the walk's threshold has the checkout released, its owner
told and one pass made; a FREE slot is passed over. RECLAIM is the visit that reclaims, and no other (the model's
choice, log 6), and a visit may pass over the FREE slots before its own (its choice too, log 13). -/
def Obligations.SweepVisitCountsMissedWindows : Prop :=
  ∀ (s : State) (n l : Nat), s.running = true → s.sweep.state = .sweeping → s.sweep.limit = some l →
    s.sweep.position ≤ n → n ≤ l → (∀ m, s.sweep.position ≤ m → m < n → s.checkoutAt m = none) →
    (s.checkoutAt n = none → ∃ u : State, exec (.sweepVisit n) s = .next u ∧ s.WalkPasses u n l ∧
      { u with sweep := s.sweep } = s) ∧
    (∀ e e' : Checkout, s.checkoutAt n = some e →
      e' = { e with missed := (if e.renewed then 0 else e.missed + 1), renewed := false } →
      ((∀ x, s.sweep.threshold = some x → e'.missed < x) →
        exec (.reclaim n) s = .next s ∧
        ∃ u : State, exec (.sweepVisit n) s = .next u ∧ s.WalkPasses u n l ∧ u.checkoutAt n = some e' ∧
          u.generationAt n = s.generationAt n ∧ (∀ m, m ≠ n → u.grant.table[m]? = s.grant.table[m]?) ∧
          { u with sweep := s.sweep, grant := { u.grant with table := s.grant.table } } = s) ∧
      (∀ x, s.sweep.threshold = some x → x ≤ e'.missed →
        ∃ v u : State, s.Releases v n e' .reclaim ∧ s.WalkPasses u n l ∧
          u = { (v.notify e.owner (.reclaimed (s.generationAt n * 256 + n) e.tag)).queuePass with sweep := u.sweep } ∧
          exec (.sweepVisit n) s = .next u ∧ exec (.reclaim n) s = .next u))

/-- The Grant Engine's window end, and WAIT EXPIRY at one that expires an entry (R78, R79, R164): every entry counts
down, the entries at 0 leave in queue order with their notices and records, pending ceilings apply clamped to the
capacity, and one pass follows. That WAIT EXPIRY is such a window end, whole, is the model's choice (log 6). That both
rows do nothing where no window end is owed is its choice (log 2), and so is the count of those owed (log 7). -/
def Obligations.GrantEngineWindowEndExpiresWaits : Prop :=
  ∀ s : State, s.running = true → s.QueueBounded →
    (s.due.grant = 0 → exec .grantEngineWindowEnd s = .next s ∧ ∀ n, exec (.waitExpiry n) s = .next s) ∧
    (0 < s.due.grant → ∃ u : State, exec .grantEngineWindowEnd s = .next u.queuePass ∧
      (∀ e ∈ s.grant.queue, e.remaining ≤ 1 → exec (.waitExpiry e.slot) s = .next u.queuePass) ∧
      u.grant.queue = (s.grant.queue.filter fun e => decide (2 ≤ e.remaining)).map
        (fun e => { e with remaining := e.remaining - 1 }) ∧
      u.grant.table = s.grant.table ∧
      (∀ n, u.waitGeneration n =
        if s.grant.queue.any (fun e => e.slot == n && decide (e.remaining ≤ 1)) then
          nextWaitGeneration (s.waitGeneration n) else s.waitGeneration n) ∧
      (∀ k, (s.pool k).pendingCeiling = none → u.pool k = s.pool k) ∧
      (∀ k v, (s.pool k).pendingCeiling = some v →
        u.pool k = { s.pool k with ceiling := some (min v (s.cat.capacity k)), pendingCeiling := none }) ∧
      (∀ p, u.ports.get p = (s.ports.get p).handAll
        ((s.grant.queue.filter fun e => e.port == p && decide (e.remaining ≤ 1)).map
          fun e => .waitEnded (s.ticket e) .expired)) ∧
      u.journal = (s.grant.queue.filter fun e => decide (e.remaining ≤ 1)).foldl
        (fun j e => j.writeDroppable s.time.clock
          (RecordBody.plain .waitEnd e.port (s.ticket e) e.tag (requestCode e.bundle e.lines) e.charges)) s.journal ∧
      u.due = { s.due with grant := s.due.grant - 1 } ∧
      { u with grant := s.grant, ports := s.ports, journal := s.journal, due := s.due } = s)

/-- The Demand Watch's window end (R122 to R132, R135): the meter takes the excess over capacity, the verdict is
shifted in, the watch state moves on the hot count, and a move to SHORT or CLEAR raises its notice and opens or closes
the overdraft with its record; only an opening is followed by a pass. That this row does nothing where no window end
is owed is the model's choice (log 2), and so is the count of those owed (log 7). -/
def Obligations.DemandWatchJudgesWindow : Prop :=
  ∀ (s d : State) (k : Pool) (w : Watch), s.running = true → w = s.watches.get k →
    d = { s with due := { s.due with demand := s.due.demand.set k (s.due.demand.get k - 1) } } →
    (s.due.demand.get k = 0 → exec (.demandWatchWindowEnd k) s = .next s) ∧
    (0 < s.due.demand.get k → s.cat.head = none → exec (.demandWatchWindowEnd k) s =
      .next (d.withWatch k { w with history := false :: w.history.take 7 })) ∧
    (∀ (h : ImageHead) (q : PoolRec) (hot : Bool) (hots : Nat) (w' : Watch), 0 < s.due.demand.get k →
      s.cat.head = some h → q = h.pools.get k →
      (hot = true ↔ q.watchEnable = true ∧ q.threshold ≤ w.tally) →
      w' = { w with tally := 0, history := hot :: w.history.take 7
                    meter := min 4294967295 (w.meter + ((s.pool k).inUse - q.capacity)) } →
      hots = ((w'.history.take q.taps).filter fun v => v).length →
      (w.watch = .clear ∧ hots < q.quorum ∨ w.watch = .short ∧ 1 ≤ hots →
        exec (.demandWatchWindowEnd k) s = .next (d.withWatch k w')) ∧
      (w.watch = .clear → q.quorum ≤ hots → q.allowance = 0 → exec (.demandWatchWindowEnd k) s =
        .next { d.withWatch k { w' with watch := .short } with
          ports := s.ports.map fun (x : PortIf) => x.hand (.poolShort k) }) ∧
      (w.watch = .clear → q.quorum ≤ hots → 1 ≤ q.allowance → exec (.demandWatchWindowEnd k) s =
        .next ({ d.withWatch k { w' with watch := .short, overdraft := .opened } with
          ports := s.ports.map fun (x : PortIf) => x.hand (.poolShort k)
          journal := s.journal.writeDroppable s.time.clock
            (RecordBody.plain .overdraftOpen k 0 w'.meter 0 ((Quad.fill 0).set k (s.pool k).inUse)) }).queuePass) ∧
      (w.watch = .short → hots = 0 → exec (.demandWatchWindowEnd k) s =
        .next { d.withWatch k { w' with watch := .clear, overdraft := .closed } with
          ports := s.ports.map fun (x : PortIf) => x.hand (.poolClear k)
          journal := if w.overdraft = .opened then s.journal.writeDroppable s.time.clock
              (RecordBody.plain .overdraftClose k 0 w'.meter 0 ((Quad.fill 0).set k (s.pool k).inUse))
            else s.journal }))

/-- The Port Interface's window end (R188, R191): one POOL_SHORT for each pool of LEVEL sense that is SHORT and has
none in the list, behind what is there, judged by the kind enable and the space: those that fit are stored, one too
many sets OVERFLOW, and a stored one starts a pulse in PULSE mode. Nothing else of the part changes. The order of the
pools, those named first and then by index, is an operand of the model (log 25). That this row does nothing where no
window end is owed is the model's choice (log 2), and so is the count of those owed (log 7); that no pulse starts
while PRST is asserted is its inference (log 20). -/
def Obligations.PortWindowEndRefreshesShortPools : Prop :=
  ∀ (s : State) (p : Port) (first : List Pool) (due : Pool → Bool) (q : PortIf) (ks : List Pool), s.running = true →
    q = s.ports.get p →
    (∀ k, due k = true ↔ q.settings.senses.get k = .level ∧ (s.watches.get k).watch = .short ∧
      Notice.poolShort k ∉ q.notices) →
    ks = ((first ++ [0, 1, 2, 3]).filter due).eraseDups →
    (s.due.port.get p = 0 → exec (.portWindowEnd p first) s = .next s) ∧
    (0 < s.due.port.get p → exec (.portWindowEnd p first) s =
      .next { s with
        due := { s.due with port := s.due.port.set p (s.due.port.get p - 1) }
        ports := s.ports.set p (if q.settings.enables.poolShort then { q with
          notices := q.notices ++ (ks.map fun k => .poolShort k).take (16 - q.notices.length)
          overflow := q.overflow || (!ks.isEmpty && decide (16 < q.notices.length + ks.length))
          pulse := q.pulse || (decide (q.settings.attn = .pulse) && !q.prst && !ks.isEmpty &&
            decide (q.notices.length < 16)) } else q) })

/-! ### Staging and the store -/

/-- STAGE BEGIN, STAGE RECORD and STAGE ABORT (R142, R143, R145, R153, R154) for a port that passes the privilege
test: STORE_BUSY in WRITING, the stager test, the timer that a command from the stager returns to 0, and each
command's own outcome. That STAGE RECORD in COMPLETE is answered without more is the model's choice (log 16). Which
record a staging accepts next follows from the number held, the last one held and the last index of the kind (R144,
R145); the kinds that a refusal reports are those of which some record would be accepted, one bit for each (R193; that
a kind with no index left is not among them is the model's choice, log 16). -/
def Obligations.StagingBuildsInSequence : Prop :=
  (∀ (s : State) (r : Request) (t : Stager) (v : State), s.Ready r → (s.basis r).privileges.admin = true →
    t = (if s.stager.port = some r.port then { s.stager with timer := 0 } else s.stager) →
    v = { s.dropRequest r.command r.port with stager := t } →
    (∀ c ∈ stagingCommands, r.command = c →
      (t.state = .writing → exec (commandRow c r.port) s = .next (v.respond r (.bare .storeBusy))) ∧
      (t.state ≠ .writing → c ≠ .stageBegin → t.port ≠ some r.port →
        exec (commandRow c r.port) s = .next (v.respond r (.bare .notPermitted)))) ∧
    (r.command = .stageBegin → t.state ≠ .writing →
      (r.payload ≠ [] → exec (.stageBegin r.port) s = .next (v.respond r (.bare .badRequest))) ∧
      (r.payload = [] → t.state = .idle → exec (.stageBegin r.port) s =
        .next (({ v with
          stager := { state := StagingState.opened, port := some r.port, area := []
                      summary := none, timer := 0 } }).respond r
          (.ok (b1 r.port.val ++ [0#8])))) ∧
      (∀ p, r.payload = [] → t.state ≠ .idle → t.port = some p → exec (.stageBegin r.port) s =
        .next (v.respond r
          { status := .stageHeld, payload := b1 p.val ++ b1 t.state.code ++ b1 t.area.length }))) ∧
    (r.command = .stageRecord → t.port = some r.port →
      (t.state = .complete → exec (.stageRecord r.port) s = .next (v.respond r (.bare .badRequest))) ∧
      (∀ kind body, t.state = .opened → r.payload = kind :: body →
        acceptsRecord t.area { kind := kind, body := body } = true → exec (.stageRecord r.port) s =
          .next (({ v with
            stager := { t with area := t.area ++ [({ kind := kind, body := body } : ImageRecord)] } }).respond r
            (.ok (b1 (t.area.length + 1))))) ∧
      (t.state = .opened →
        (∀ kind body, r.payload = kind :: body → acceptsRecord t.area { kind := kind, body := body } = false) →
        exec (.stageRecord r.port) s = .next (v.respond r
          { status := .badRequest
            payload := b1 t.area.length ++ kindsNext t.area ++ b1 ((lastIndex t.area kindFeature).getD 255) ++
              b1 ((lastIndex t.area kindBundle).getD 255) }))) ∧
    (r.command = .stageAbort → t.port = some r.port → t.state ≠ .writing →
      (r.payload ≠ [] → exec (.stageAbort r.port) s = .next (v.respond r (.bare .badRequest))) ∧
      (r.payload = [] → exec (.stageAbort r.port) s =
        .next (({ v with stager := Stager.initial }).respond r (.ok (b1 t.area.length)))))) ∧
  (∀ area : List ImageRecord, ∃ b : Byte, kindsNext area = [b] ∧ b.getLsbD 6 = false ∧ b.getLsbD 7 = false ∧
    ∀ i, i < 6 → (b.getLsbD i = true ↔ ∃ r, r.kind = BitVec.ofNat 8 (i + 1) ∧ acceptsRecord area r = true)) ∧
  (∀ (area : List ImageRecord) (r : ImageRecord),
    (area = [] → (acceptsRecord area r = true ↔ r.kind = 1#8 ∧ r.body.length = 17)) ∧
    (∀ z, area.getLast? = some z → z.kind = 6#8 → acceptsRecord area r = false) ∧
    ∀ z, area.getLast? = some z → z.kind ≠ 6#8 →
      (1 ≤ area.length → area.length ≤ 4 →
        (acceptsRecord area r = true ↔ r.kind = 2#8 ∧ r.body.length = 2 ∧ r.index = area.length - 1)) ∧
      (5 ≤ area.length → area.length ≤ 8 →
        (acceptsRecord area r = true ↔ r.kind = 3#8 ∧ r.body.length = 13 ∧ r.index = area.length - 5)) ∧
      (9 ≤ area.length →
        (acceptsRecord area r = true ↔
          (r.kind = 4#8 ∧ r.body.length = 21 ∧ z.kind ≠ 5#8 ∧ r.index < 64 ∧
            ∀ x, (area.filter fun y => y.kind == 4#8).getLast? = some x → x.index < r.index) ∨
          (r.kind = 5#8 ∧ r.body.length = 20 ∧ r.index < 32 ∧
            ∀ x, (area.filter fun y => y.kind == 5#8).getLast? = some x → x.index < r.index) ∨
          (r.kind = 6#8 ∧ r.body.length = 5))))

/-- STAGE FINISH and ACTIVATE by the stager (R146, R150): a summary repeated, a failure that discards the staging, a
success; an activation that moves the staging to WRITING and asks for the write, which begins at once or waits behind
a save. The verification has five steps in order, each naming its code and record, the last of them the first record
that fails a test of its own (R147), as the statement ImageRecordsTested says. The active issue is that of the
catalogue the STAGE FINISH was taken under (R1, R147; the moment of taking is the model's choice, log 4). ACTIVATE's
payload is an issue number in four bytes (R150, R193). -/
def Obligations.FinishVerifiesAndActivateWrites : Prop :=
  (∀ (payload : List Byte) (n : Nat), parseNumber 4 payload = some n ↔ n < 4294967296 ∧ payload = b4 n) ∧
  (∀ (s : State) (r : Request) (t : Stager) (v : State), s.Ready r → (s.basis r).privileges.admin = true →
    s.stager.port = some r.port → s.stager.state ≠ .writing → t = { s.stager with timer := 0 } →
    v = { s.dropRequest r.command r.port with stager := t } →
    (r.command = .stageFinish →
      (r.payload ≠ [] → exec (.stageFinish r.port) s = .next (v.respond r (.bare .badRequest))) ∧
      (∀ x, r.payload = [] → t.summary = some x → exec (.stageFinish r.port) s =
        .next (v.respond r (.ok (b4 x.issue ++ b1 x.records ++ b1 x.features ++ b1 x.bundles ++ b4 x.crc)))) ∧
      (∀ c n, r.payload = [] → t.summary = none →
        verifyFault t.area ((s.basis r).catalogue.head.map fun h => h.header.issue) = some (c, n) →
        exec (.stageFinish r.port) s = .next (({ v with stager := Stager.initial }).respond r
          { status := .badRequest, payload := b1 c.code ++ b1 n })) ∧
      (∀ x, r.payload = [] → t.summary = none →
        verifyFault t.area ((s.basis r).catalogue.head.map fun h => h.header.issue) = none →
        x = { issue := (headOf t.area).header.issue, records := t.area.length
              features := (t.area.filter fun y => y.kind == 4#8).length
              bundles := (t.area.filter fun y => y.kind == 5#8).length, crc := recordsCrc t.area.dropLast } →
        exec (.stageFinish r.port) s = .next (({ v with
          stager := { t with state := .complete, summary := some x } }).respond r (.ok x.bytes)))) ∧
    (r.command = .activate →
      (parseNumber 4 r.payload = none ∨ t.summary = none ∨
        (∃ issue x, parseNumber 4 r.payload = some issue ∧ t.summary = some x ∧ issue ≠ x.issue) →
        exec (.activate r.port) s = .next (v.respond r (.bare .badRequest))) ∧
      (∀ x, parseNumber 4 r.payload = some x.issue → t.summary = some x → s.store.write = .idle →
        exec (.activate r.port) s = .next (({ v with
          stager := { t with state := .writing }
          store := { s.store with write := .imageWrite, image := none, imageWaiting := false } }).respond r
          (.ok (b4 x.issue ++ [0#8])))) ∧
      (∀ x values, parseNumber 4 r.payload = some x.issue → t.summary = some x → s.store.write = .saving values →
        exec (.activate r.port) s = .next (({ v with
          stager := { t with state := .writing }, store := { s.store with imageWaiting := true } }).respond r
          (.ok (b4 x.issue ++ [1#8])))))) ∧
  (∀ (area : List ImageRecord) (active : Option Nat),
    (∀ z, area.getLast? = some z → z.kind ≠ 6#8) → verifyFault area active = some (.noTrailer, 0)) ∧
  (∀ (rs : List ImageRecord) (z : ImageRecord) (active : Option Nat), z.kind = 6#8 →
    (field z.body 0 1 ≠ rs.length → verifyFault (rs ++ [z]) active = some (.countMismatch, rs.length + 1)) ∧
    (field z.body 0 1 = rs.length → field z.body 1 4 ≠ recordsCrc rs →
      verifyFault (rs ++ [z]) active = some (.crcMismatch, rs.length + 1)) ∧
    (∀ i, field z.body 0 1 = rs.length → field z.body 1 4 = recordsCrc rs → active = some i →
      (headOf rs).header.issue ≤ i → verifyFault (rs ++ [z]) active = some (.issueNotNewer, 1)) ∧
    (field z.body 0 1 = rs.length → field z.body 1 4 = recordsCrc rs →
      (∀ i, active = some i → i < (headOf rs).header.issue) →
      ((∀ i, ∀ h : i < rs.length, recordFault (rs.take i) rs[i] = none) → verifyFault (rs ++ [z]) active = none) ∧
      ∀ i c, ∀ h : i < rs.length, (∀ j, ∀ hj : j < i, recordFault (rs.take j) rs[j] = none) →
        recordFault (rs.take i) rs[i] = some c → verifyFault (rs ++ [z]) active = some (c, i + 1)))

/-- The tests that STAGE FINISH puts to each record of an image, in their order, with the code each reports (R149), at
the offsets of R193 and most significant byte first. That the four tests of a bundle's held lines go line by line is
the model's inference (log 17). -/
def Obligations.ImageRecordsTested : Prop :=
  (∀ (body : List Byte) (off n : Nat) (b : Byte), field body off 0 = 0 ∧
    (body[off + n]? = some b → field body off (n + 1) = field body off n * 256 + b.toNat)) ∧
  ∀ (earlier : List ImageRecord) (r : ImageRecord) (f : Nat → Nat → Nat) (code fresh ok : Prop),
    (∀ off len, f off len = field r.body off len) →
    (code ↔ 1 ≤ f 1 2 ∧ f 1 2 ≤ 65534) →
    (fresh ↔ ∀ x ∈ earlier, x.kind = r.kind → field x.body 1 2 ≠ f 1 2) →
    (r.kind = 1#8 →
      (ok ↔ f 8 1 ≤ 5 ∧ f 9 1 ≤ 3 ∧ 1 ≤ f 10 1 ∧ f 10 1 ≤ 8 ∧ f 11 1 ≤ 64 ∧
        (∀ p, p < 4 → f (12 + p) 1 ≤ 3 ∨ f (12 + p) 1 = 0x80) ∧ 1 ≤ f 16 1 ∧ f 16 1 ≤ 64) →
      (ok → recordFault earlier r = none) ∧ (¬ ok → recordFault earlier r = some .fieldRange)) ∧
    (r.kind = 2#8 →
      (f 1 1 ≤ 3 → recordFault earlier r = none) ∧ (3 < f 1 1 → recordFault earlier r = some .fieldRange)) ∧
    (r.kind = 3#8 →
      (ok ↔ f 1 3 ≤ 1048575 ∧ f 4 3 ≤ 262143 ∧ f 7 1 ≤ 1 ∧ 1 ≤ f 8 3 ∧ f 8 3 ≤ 1048575 ∧ 1 ≤ f 11 1 ∧ f 11 1 ≤ 8 ∧
        1 ≤ f 12 1 ∧ f 12 1 ≤ f 11 1) →
      (ok → recordFault earlier r = none) ∧ (¬ ok → recordFault earlier r = some .fieldRange)) ∧
    (r.kind = 4#8 →
      (ok ↔ f 3 1 ≤ 3 ∧ 1 ≤ f 4 1 ∧ (∀ c, c < 4 → f (5 + c) 1 ≤ 64) ∧ 1 ≤ f 9 1 ∧ f 9 1 ≤ 64 ∧ f 20 1 ≤ 7) →
      (¬ code → recordFault earlier r = some .codeInvalid) ∧
      (code → ¬ fresh → recordFault earlier r = some .codeRepeated) ∧
      (code → fresh → ¬ ok → recordFault earlier r = some .fieldRange) ∧
      (code → fresh → ok → f 14 4 ≤ f 10 4 → recordFault earlier r = some .termOrder) ∧
      (code → fresh → ok → f 10 4 < f 14 4 → recordFault earlier r = none)) ∧
    (r.kind = 5#8 →
      (ok ↔ f 3 1 ≤ 32) →
      (¬ code → recordFault earlier r = some .codeInvalid) ∧
      (code → ¬ fresh → recordFault earlier r = some .codeRepeated) ∧
      (code → fresh → ¬ ok → recordFault earlier r = some .fieldRange) ∧
      (code → fresh → ok →
        (¬ ∃ m, 1 ≤ m ∧ m ≤ 8 ∧ ∀ i, i < 8 → (i < m → f (4 + 2 * i) 1 < 64) ∧ (m ≤ i → f (4 + 2 * i) 1 = 255)) →
        recordFault earlier r = some .lineShape) ∧
      ∀ (m : Nat) (bad : Nat → Option VerifyCode), code → fresh → ok → 1 ≤ m → m ≤ 8 →
        (∀ i, i < 8 → (i < m → f (4 + 2 * i) 1 < 64) ∧ (m ≤ i → f (4 + 2 * i) 1 = 255)) →
        (∀ i, bad i = match earlier.find? (fun x => x.kind == 4#8 && field x.body 0 1 == f (4 + 2 * i) 1) with
          | none => some .lineAbsent
          | some x =>
            if (List.range i).any fun j => f (4 + 2 * j) 1 == f (4 + 2 * i) 1 then some .lineRepeated
            else if f (5 + 2 * i) 1 = 0 ∨ 64 < f (5 + 2 * i) 1 then some .fieldRange
            else if field x.body 9 1 < f (5 + 2 * i) 1 then some .lineQuantity
            else none) →
        ((∀ i, i < m → bad i = none) → recordFault earlier r = none) ∧
        ∀ i c, i < m → bad i = some c → (∀ j, j < i → bad j = none) → recordFault earlier r = some c)

/-- How image records are read into the catalogue (R1, R2, R3, R5, R7, R8, R9, R10, R12, R14, R18, R193): each field
from its offset; a slot that no record names is empty with default flags, any other takes the flags given for its code
and its term state from the clock; the table of term states; the privileges of a class, both in NO_IMAGE; and what is
locked. -/
def Obligations.CatalogueReadsImage : Prop :=
  (∀ (rs : List ImageRecord) (kind index : Nat) (body : List Byte), bodyAt rs kind index = some body ↔
    ∃ (n : Nat) (r : ImageRecord), rs[n]? = some r ∧ r.kind.toNat = kind ∧ field r.body 0 1 = index ∧ r.body = body ∧
      ∀ (m : Nat) (x : ImageRecord), m < n → rs[m]? = some x →
        ¬ (x.kind.toNat = kind ∧ field x.body 0 1 = index)) ∧
  (∀ (r : ImageRecord) (rest : List ImageRecord) (f : Nat → Nat → Nat) (h : Header), r.kind = 1#8 →
    (∀ off len, f off len = field r.body off len) → h = (headOf (r :: rest)).header →
    h.issue = f 0 4 ∧ h.issueMinute = f 4 4 ∧
    (f 8 1 ≤ 5 → [15, 30, 60, 120, 300, 600][f 8 1]? = some h.windowLength) ∧
    (h.windowMode = .strobe ↔ (f 9 1).testBit 0 = true) ∧ (h.requestMode = .pulse ↔ (f 9 1).testBit 1 = true) ∧
    h.threshold = f 10 1 ∧ h.boundary = f 11 1 ∧ h.batchLimit = f 16 1 ∧
    ∀ p : Port, (f (12 + p.val) 1 = 0x80 → h.classMap.get p = none) ∧
      ∀ c : Sys2Proof.Class, f (12 + p.val) 1 = c.val → h.classMap.get p = some c) ∧
  (∀ (rs : List ImageRecord) (c : Sys2Proof.Class) (b : List Byte), bodyAt rs 2 c.val = some b →
    (headOf rs).classes.get c = { admin := (field b 1 1).testBit 0, time := (field b 1 1).testBit 1 }) ∧
  (∀ (rs : List ImageRecord) (k : Pool) (b : List Byte), bodyAt rs 3 k.val = some b →
    (headOf rs).pools.get k =
      { capacity := field b 1 3, allowance := field b 4 3, watchEnable := decide (field b 7 1 = 1)
        threshold := field b 8 3, taps := field b 11 1, quorum := field b 12 1 }) ∧
  (∀ (rs : List ImageRecord) (clock : Nat) (flags : Nat → SiteFlags) (c : Catalogue), c = catalogueOf rs clock flags →
    c.head = some (headOf rs) ∧ c.slots.length = 64 ∧ c.bundles.length = 32 ∧
    (∀ i, i < 64 → bodyAt rs 4 i = none → c.slot i =
      { feature := none, term := none
        site := { enabled := true, queue := true, watchMask := false, termNotice := true } }) ∧
    (∀ (i : Nat) (b : List Byte) (k : Pool) (f : Feature), i < 64 → bodyAt rs 4 i = some b → field b 3 1 = k.val →
      f = { code := field b 1 2, pool := k, rate := field b 4 1
            scales := ⟨field b 5 1, field b 6 1, field b 7 1, field b 8 1⟩, maxQuantity := field b 9 1
            termStart := field b 10 4, termEnd := field b 14 4, grace := field b 18 2
            metered := (field b 20 1).testBit 0, overdraftOk := (field b 20 1).testBit 1
            queueable := (field b 20 1).testBit 2 } →
      c.slot i = { feature := some f, site := flags f.code, term := some (f.termAt clock) }) ∧
    (∀ i, i < 32 → bodyAt rs 5 i = none → c.bundles[i]? = some none) ∧
    ∀ (i m : Nat) (b : List Byte), i < 32 → bodyAt rs 5 i = some b → m ≤ 8 →
      (∀ j, j < m → field b (4 + 2 * j) 1 ≠ 255) → (m < 8 → field b (4 + 2 * m) 1 = 255) →
      c.bundles[i]? = some (some
        { code := field b 1 2, rebate := field b 3 1
          lines := (List.range m).map fun j =>
            { feature := field b (4 + 2 * j) 1, base := field b (5 + 2 * j) 1 } })) ∧
  (∀ (f : Feature) (clock : Nat), f.termStart < f.termEnd →
    (f.termAt clock = .pending ↔ clock < f.termStart) ∧
    (f.termAt clock = .active ↔ f.termStart ≤ clock ∧ clock < f.termEnd) ∧
    (f.termAt clock = .grace ↔ f.termEnd ≤ clock ∧ clock < f.termEnd + f.grace) ∧
    (f.termAt clock = .lapsed ↔ f.termEnd + f.grace ≤ clock)) ∧
  (∀ b : Basis, (b.catalogue.head = none → b.privileges = { admin := true, time := true }) ∧
    ∀ h, b.catalogue.head = some h → b.privileges = h.classes.get b.effClass) ∧
  ∀ (c : Catalogue) (i : Nat), c.locked i = true ↔ ∃ h, c.head = some h ∧ h.header.boundary ≤ i

/-- The CRC-32 of an image (R148): over the kind byte and body of each record before the trailer, in order, from the
preset, shifted toward the low end with the reflected polynomial, and complemented; its check value; and it is the
value that step 3 of the verification holds the trailer to. -/
def Obligations.ImageCrcAsGiven : Prop :=
  (∀ bytes : List Byte, crc32 bytes = ~~~ (bytes.foldl
    (fun (x : BitVec 32) (b : Byte) =>
      (fun r : BitVec 32 => if r.getLsbD 0 then (r >>> 1) ^^^ 0xEDB88320#32 else r >>> 1)^[8] (x ^^^ b.setWidth 32))
    0xFFFFFFFF#32)) ∧
  (∀ (rs : List ImageRecord) (z : ImageRecord) (active : Option Nat) (crc : Nat),
    crc = (crc32 (rs.flatMap fun x => x.kind :: x.body)).toNat → z.kind = 6#8 → field z.body 0 1 = rs.length →
    recordsCrc rs = crc ∧ (verifyFault (rs ++ [z]) active = some (.crcMismatch, rs.length + 1) ↔
      field z.body 1 4 ≠ crc)) ∧
  crc32 [0x31#8, 0x32#8, 0x33#8, 0x34#8, 0x35#8, 0x36#8, 0x37#8, 0x38#8, 0x39#8] = 0xCBF43926#32

/-- The completion of a save (R103, R137, R138, R140): the saved values are those its write began with; a waiting
image write goes before a waiting save, which takes the values of its own beginning; a release of RESET that waited
takes effect. An image write that completes while RESET is asserted leaves the image area VALID with the new image and
gives the term clock its floor, and no block takes the activation; where the release waited, the part comes up under
the new image (R100, R140). The blocks then stand as after any release (`State.BroughtUp`), with the straps as they
were given at the release that waited (the model's choice, log 28). -/
def Obligations.SaveCompletesInOrder : Prop :=
  (∀ (s : State) (v : SavedValues) (straps : Quad Straps), s.powered = true → s.store.write = .saving v →
    (straps = Quad.ofFn fun p => (s.ports.get p).strapPins) →
    (s.resetPin ≠ .releasing → s.store.imageWaiting = true → exec .saveComplete s = .next { s with
      store := { s.store with saved := some v, image := none, write := .imageWrite, imageWaiting := false } }) ∧
    (s.resetPin ≠ .releasing → s.store.imageWaiting = false → s.store.saveWaiting = true →
      exec .saveComplete s = .next { s with
        store := { s.store with
          saved := some v, saveWaiting := false
          write := .saving { clock := s.time.clock, meters := s.watches.map fun (x : Watch) => x.meter
                             sequence := s.journal.nextSeq } } }) ∧
    (s.resetPin ≠ .releasing → s.store.imageWaiting = false → s.store.saveWaiting = false →
      exec .saveComplete s = .next { s with store := { s.store with saved := some v, write := .idle } }) ∧
    (s.resetPin = .releasing → s.store.imageWaiting = false → s.store.saveWaiting = false →
      ∃ u : State, exec .saveComplete s = .next u ∧ s.BroughtUp u straps ∧
        u.store = { s.store with saved := some v, write := .idle } ∧ u.time.clock = s.time.clock ∧
        u.journal.nextSeq = s.journal.nextSeq ∧ u.cat = loadCatalogue s.store.image s.time.clock ∧
        (∀ k, (u.watches.get k).meter = (s.watches.get k).meter))) ∧
  (∀ (s : State) (ahead : Quad Nat) (rs : List ImageRecord) (clock : Nat) (straps : Quad Straps), s.powered = true →
    s.store.write = .imageWrite → (straps = Quad.ofFn fun p => (s.ports.get p).strapPins) →
    rs = s.stager.area.dropLast → clock = max s.time.clock (headOf rs).header.issueMinute →
    (s.resetPin = .asserted → exec (.imageWriteComplete ahead) s = .next { s with
      store := { s.store with image := some rs, write := .idle }, time := { s.time with clock := clock } }) ∧
    (s.resetPin = .releasing → ∃ u : State, exec (.imageWriteComplete ahead) s = .next u ∧ s.BroughtUp u straps ∧
      u.serving = true ∧ u.cat = catalogueOf rs clock (fun _ => SiteFlags.initial) ∧ u.time.clock = clock ∧
      u.store = { s.store with image := some rs, write := .idle, saveWaiting := false, imageWaiting := false } ∧
      u.journal.nextSeq = s.journal.nextSeq ∧ (∀ k, (u.watches.get k).meter = (s.watches.get k).meter)))

/-- The completion of an activation (R5, R20, R25, R67, R84, R95, R100, R134, R138, R139, R152, R167, R174): every
block's work at the one event. The order of notices within a port's list is an operand (log 19); that the save begins
after the IMAGE record is the model's choice (log 18). A request passed on before it is finished first, the oldest
first, unless it is a CHECKOUT, a HEARTBEAT or one that reads no catalogue, which are carried out after it under the
catalogue they were taken under (R1, R57, R169; which requests are finished is the model's choice, log 4). Then a
window end produced during the write is taken, under the catalogue still active (R90); in which order the receivers
take theirs is the model's choice (log 32). In both cases the completion is what it is after the request's or
receiver's own row. That a window end waits in a count for each receiver is the model's choice (log 7). -/
def Obligations.ActivationActsInEveryBlock : Prop :=
  (∀ (s u : State) (ahead : Quad Nat) (older younger : List Request) (r : Request), s.running = true →
    s.store.write = .imageWrite → s.requests = older ++ r :: younger → r.command ∉ outlastingCommands →
    (∀ x ∈ older, x.command ∈ outlastingCommands) → exec (commandRow r.command r.port) s = .next u →
    exec (.imageWriteComplete ahead) s = exec (.imageWriteComplete ahead) u) ∧
  (∀ (s u : State) (ahead : Quad Nat) (i : Instr), s.running = true → s.store.write = .imageWrite →
    (∀ x ∈ s.requests, x.command ∈ outlastingCommands) →
    (i = .sweepWindowEnd ∧ 0 < s.due.sweep ∨
      s.due.sweep = 0 ∧
        ((∃ k, i = .demandWatchWindowEnd k ∧ 0 < s.due.demand.get k ∧ ∀ j, j < k → s.due.demand.get j = 0) ∨
          (∀ k, s.due.demand.get k = 0) ∧
            (i = .grantEngineWindowEnd ∧ 0 < s.due.grant ∨
              s.due.grant = 0 ∧
                ∃ p, i = .portWindowEnd p [] ∧ 0 < s.due.port.get p ∧ ∀ q, q < p → s.due.port.get q = 0))) →
    exec i s = .next u → exec (.imageWriteComplete ahead) s = exec (.imageWriteComplete ahead) u) ∧
  ∀ (s : State) (ahead : Quad Nat) (rs : List ImageRecord) (clock : Nat) (x : Port), s.running = true →
    s.store.write = .imageWrite → s.stager.port = some x → rs = s.stager.area.dropLast →
    clock = max s.time.clock (headOf rs).header.issueMinute → s.QueueBounded →
    (∀ y ∈ s.requests, y.command ∈ outlastingCommands) →
    s.due = { sweep := 0, grant := 0, demand := ⟨0, 0, 0, 0⟩, port := ⟨0, 0, 0, 0⟩ } →
    ∃ u : State, exec (.imageWriteComplete ahead) s = .next u ∧
      u.cat = catalogueOf rs clock (fun code => match s.cat.findCode code with
        | some i => (s.cat.slot i).site
        | none => SiteFlags.initial) ∧
      u.time = { s.time with
        clock := clock, mode := (headOf rs).header.windowMode, length := (headOf rs).header.windowLength
        windowTimer := u.time.windowTimer } ∧
      ((headOf rs).header.windowMode = .auto ∧ (headOf rs).header.windowLength ≤ s.time.windowTimer →
        u.time.windowTimer = 0 ∧
        u.due = { sweep := 1, grant := 1, demand := ⟨1, 1, 1, 1⟩, port := ⟨1, 1, 1, 1⟩ }) ∧
      (¬ ((headOf rs).header.windowMode = .auto ∧ (headOf rs).header.windowLength ≤ s.time.windowTimer) →
        u.time.windowTimer = s.time.windowTimer ∧ u.due = s.due) ∧
      u.grant.queue = [] ∧
      (∀ n, u.waitGeneration n = if s.grant.queue.any (fun e => e.slot == n) then
        nextWaitGeneration (s.waitGeneration n) else s.waitGeneration n) ∧
      (∀ n, u.generationAt n = s.generationAt n ∧
        u.checkoutAt n = (s.checkoutAt n).map fun e => { e with
          lines := e.lines.map fun l => { l with
            index := u.cat.findCode l.code, orphan := (u.cat.findCode l.code).isNone }
          flags := { e.flags with orphan := e.lines.any fun l => (u.cat.findCode l.code).isNone } }) ∧
      (∀ k, u.watches.get k = Watch.initial (s.watches.get k).meter) ∧
      u.stager = Stager.initial ∧
      (∀ p, u.ports.get p = ({ s.ports.get p with
          effClass := (((headOf rs).header.classMap.get p).getD (s.ports.get p).strapClass) } : PortIf).handAll
        ((((s.grant.queue.filter fun e => e.port == p).map fun e => .waitEnded (s.ticket e) .image).take (ahead.get p)) ++
          [.image (headOf rs).header.issue] ++
          (((s.grant.queue.filter fun e => e.port == p).map fun e => .waitEnded (s.ticket e) .image).drop
            (ahead.get p)))) ∧
      u.journal = s.journal.writeDroppable clock
        (RecordBody.plain .image x 0 (headOf rs).header.issue 0 (Quad.fill 0)) ∧
      u.requests = (s.requests.map fun y => { y with under := some (s.basis y) }) ∧
      (s.store.saveWaiting = false ∧ clock / 60 = s.time.clock / 60 →
        u.store = { s.store with image := some rs, write := .idle }) ∧
      (s.store.saveWaiting = true ∨ clock / 60 ≠ s.time.clock / 60 → u.store = { s.store with
        image := some rs, saveWaiting := false
        write := .saving { clock := clock, meters := s.watches.map fun (x : Watch) => x.meter
                           sequence := u.journal.nextSeq } }) ∧
      { u with cat := s.cat, time := s.time, due := s.due, grant := s.grant, watches := s.watches, stager := s.stager
               ports := s.ports, journal := s.journal, requests := s.requests, store := s.store } = s

/-- The pools at an activation (R25, R168): ceilings and caps cut to the new capacity and a pending ceiling kept,
reserves cut together from port 3 down; from NO_IMAGE the ceiling is the capacity and no port has a cap or a reserve;
holdings stay. A request to be finished and a window end still to be taken come before, as the statement
ActivationActsInEveryBlock says, a policy command among them (R169). -/
def Obligations.ActivationCutsPolicy : Prop :=
  ∀ (s u : State) (ahead : Quad Nat) (k : Pool), s.running = true → s.store.write = .imageWrite →
    s.due = WindowEnds.zero → (∀ x ∈ s.requests, x.command ∈ outlastingCommands) →
    exec (.imageWriteComplete ahead) s = .next u →
    (u.pool k).inUse = (s.pool k).inUse ∧ (u.pool k).held = (s.pool k).held ∧
    (u.pool k).pendingCeiling = (s.pool k).pendingCeiling ∧
    (s.serving = false → (u.pool k).ceiling = some (u.cat.capacity k) ∧
      (u.pool k).cap = Quad.fill 0 ∧ (u.pool k).reserve = Quad.fill 0) ∧
    (s.serving = true →
      (∀ v, (s.pool k).ceiling = some v → (u.pool k).ceiling = some (min v (u.cat.capacity k))) ∧
      (∀ p, (u.pool k).cap.get p = min ((s.pool k).cap.get p) (u.cat.capacity k)) ∧
      (u.pool k).reserve.sum = min (s.pool k).reserve.sum (u.cat.capacity k) ∧
      (∀ p, (u.pool k).reserve.get p ≤ (s.pool k).reserve.get p) ∧
      ∀ p q, p < q → (u.pool k).reserve.get q ≠ 0 → (u.pool k).reserve.get p = (s.pool k).reserve.get p)

/-! ### Site policy -/

/-- POLICY STAGE and POLICY APPLY (R10, R159 to R162): the staged byte; an apply gives each masked slot that is
present and not locked the flags of its mode, leaves every other slot, reports the changed and skipped slots, and is
followed by a queue pass. An entry on a disabled feature stays in the queue then only where an older entry blocks one
of its pools (R162): the pass ends at an entry that fits while the table is full (R77), and the entries behind it
whose re-check fails are removed after it, with notice and record, nothing else being done to any of them. One taken
before a completion is finished before it, as ActivationActsInEveryBlock says (R169). POLICY APPLY's payload is the
mask in eight bytes and the mode (R160, R193). That these removals follow the ended pass, so that R77 and R162 both
hold, is the model's inference (log 29). -/
def Obligations.PolicyAppliesByMode : Prop :=
  (∀ (payload : List Byte) (mask : Nat) (m : ApplyMode), parseApply payload = some (mask, m) ↔
    mask < 2 ^ 64 ∧ payload = b8 mask ++ [match m with | .copy => 0#8 | .merge => 1#8 | .strip => 2#8]) ∧
  (∀ s u : State, s.QueueBounded → u = s.queuePass →
    ∃ gone : List WaitEntry, gone.Sublist u.grant.queue ∧ (∀ e ∈ gone, s.recheckFails e = true) ∧
      (u.freeSlot ≠ none → gone = []) ∧
      s.applyPass.grant.queue = (u.grant.queue.filter fun e => decide (e ∉ gone)) ∧
      s.applyPass.grant.table = u.grant.table ∧ s.applyPass.grant.pools = u.grant.pools ∧
      (∀ n, s.applyPass.waitGeneration n = if gone.any (fun e => e.slot == n) then
        nextWaitGeneration (u.waitGeneration n) else u.waitGeneration n) ∧
      s.applyPass.ports = gone.foldl
        (fun q e => q.set e.port ((q.get e.port).hand (.waitEnded (u.ticket e) .failed))) u.ports ∧
      s.applyPass.journal = gone.foldl (fun j e => j.writeDroppable s.time.clock
        (RecordBody.plain .waitEnd e.port (u.ticket e) e.tag (requestCode e.bundle e.lines) e.charges)) u.journal ∧
      { s.applyPass with grant := s.grant, journal := s.journal, ports := s.ports } = s) ∧
  (∀ (s : State) (older younger : List WaitEntry) (e : WaitEntry), (s.grant.queue.map fun x => x.slot).Nodup →
    s.applyPass.grant.queue = older ++ e :: younger → s.recheckFails e = true →
    ∃ x ∈ older, x.blocking = true ∧ ∃ k, 1 ≤ x.charges.get k ∧ 1 ≤ e.charges.get k) ∧
  ∀ (s : State) (r : Request) (h : ImageHead), s.Ready r → s.cat.head = some h →
    (s.basis r).privileges.admin = true →
    (r.command = .policyStage →
      (∀ b : Byte, r.payload = [b] → b.toNat < 16 → exec (.policyStage r.port) s =
        .next (({ s.dropRequest .policyStage r.port with
          policy := s.policy.set r.port
            { enabled := b.getLsbD 0, queue := b.getLsbD 1, watchMask := b.getLsbD 2
              termNotice := b.getLsbD 3 } }).respond r (.ok [b]))) ∧
      ((∀ b : Byte, r.payload = [b] → 16 ≤ b.toNat) →
        exec (.policyStage r.port) s = .next (s.onlyAnswered r (.bare .badRequest)))) ∧
    (r.command = .policyApply →
      (parseApply r.payload = none →
        exec (.policyApply r.port) s = .next (s.onlyAnswered r (.bare .badRequest))) ∧
      (∀ (mask : Nat) (m : ApplyMode) (f : Nat → FeatureSlot → FeatureSlot),
        parseApply r.payload = some (mask, m) →
        (∀ i sl, f i sl =
          if mask.testBit i = true ∧ sl.feature.isSome = true ∧ i < h.header.boundary then
            { sl with site := match m with
              | .copy => s.policy.get r.port
              | .merge =>
                { enabled := sl.site.enabled || (s.policy.get r.port).enabled
                  queue := sl.site.queue || (s.policy.get r.port).queue
                  watchMask := sl.site.watchMask || (s.policy.get r.port).watchMask
                  termNotice := sl.site.termNotice || (s.policy.get r.port).termNotice }
              | .strip =>
                { enabled := sl.site.enabled && !(s.policy.get r.port).enabled
                  queue := sl.site.queue && !(s.policy.get r.port).queue
                  watchMask := sl.site.watchMask && !(s.policy.get r.port).watchMask
                  termNotice := sl.site.termNotice && !(s.policy.get r.port).termNotice } }
          else sl) →
        ∃ changed skipped : Nat, exec (.policyApply r.port) s =
            .next (({ s.dropRequest .policyApply r.port with
                cat := { s.cat with slots := s.cat.slots.mapIdx f } }).applyPass.respond r
              (.ok (b8 changed ++ b8 skipped ++ b1 (s.policy.get r.port).bits))) ∧
          changed < 2 ^ 64 ∧ skipped < 2 ^ 64 ∧
          ∀ i, i < 64 → i < s.cat.slots.length →
            (changed.testBit i = true ↔ (f i (s.cat.slot i)).site ≠ (s.cat.slot i).site) ∧
            (skipped.testBit i = true ↔
              mask.testBit i = true ∧ ((s.cat.feature i).isNone = true ∨ h.header.boundary ≤ i))))

/-- SET CEILING and SET SHARE (R22, R163 to R166): the values are clamped to the pool's capacity, the pool's fields of
that command alone change, and a pass follows an IMMEDIATE ceiling that rose and every SET SHARE. One taken before a
completion is finished before it, as ActivationActsInEveryBlock says, and then carried over as ActivationCutsPolicy
says (R168, R169). That a pending ceiling that is absent stands in the reply as three bytes of 0 (log 30), and that
the held of SET SHARE's reply stands as the command's own pass left it (log 31, with log 14), are the model's choices.
The fields of the two payloads and their ranges (R163, R165, R193). -/
def Obligations.PolicyValuesAreClamped : Prop :=
  (∀ (payload : List Byte) (q : CeilingRequest), parseCeiling payload = some q ↔
    q.value < 2 ^ 24 ∧ payload = b1 q.pool.val ++ b3 q.value ++ b1 (if q.deferred then 1 else 0)) ∧
  (∀ (payload : List Byte) (q : ShareRequest), parseShare payload = some q ↔
    q.cap < 2 ^ 24 ∧ q.reserve < 2 ^ 24 ∧ payload = b1 q.port.val ++ b1 q.pool.val ++ b3 q.cap ++ b3 q.reserve) ∧
  ∀ (s : State) (r : Request) (n : Pool → Nat), s.Ready r → s.serving = true → (s.basis r).privileges.admin = true →
    (∀ k, n k = s.cat.capacity k) →
    (r.command = .setCeiling →
      (parseCeiling r.payload = none →
        exec (.setCeiling r.port) s = .next (s.onlyAnswered r (.bare .badRequest))) ∧
      (∀ (q : CeilingRequest) (v : Nat) (u w : State), parseCeiling r.payload = some q →
        v = min q.value (n q.pool) →
        u = (s.dropRequest .setCeiling r.port).withPools (s.grant.pools.set q.pool
          (if q.deferred then { s.pool q.pool with pendingCeiling := some v }
            else { s.pool q.pool with ceiling := some v, pendingCeiling := none })) →
        w = (if q.deferred = false ∧ s.ceiling q.pool < u.ceiling q.pool then u.queuePass else u) →
        exec (.setCeiling r.port) s = .next (w.respond r
          (.ok (b1 q.pool.val ++ b3 q.value ++ b3 v ++ indication (decide (n q.pool < q.value)) ++
            b3 (u.ceiling q.pool) ++ b3 (w.pool q.pool).inUse ++
            indication q.deferred ++ b3 (if q.deferred then v else 0)))))) ∧
    (r.command = .setShare →
      (parseShare r.payload = none →
        exec (.setShare r.port) s = .next (s.onlyAnswered r (.bare .badRequest))) ∧
      (∀ (q : ShareRequest) (cap others reserve : Nat) (u : State), parseShare r.payload = some q →
        cap = min q.cap (n q.pool) →
        others = ((fours.filter fun p => p ≠ q.port).map fun p => (s.pool q.pool).reserve.get p).sum →
        reserve = (if cap = 0 then min q.reserve (n q.pool - others)
          else min (min q.reserve (n q.pool - others)) cap) →
        u = ((s.dropRequest .setShare r.port).withPools (s.grant.pools.set q.pool
          { s.pool q.pool with cap := (s.pool q.pool).cap.set q.port cap
                               reserve := (s.pool q.pool).reserve.set q.port reserve })).queuePass →
        exec (.setShare r.port) s = .next (u.respond r
          (.ok (b1 q.port.val ++ b1 q.pool.val ++ b3 q.cap ++ b3 q.reserve ++ b3 cap ++ b3 reserve ++
            indication (cap != q.cap) ++ indication (reserve != q.reserve) ++
            b3 ((u.pool q.pool).held.get q.port))))))

/-! ### The journal -/

/-- Records (R171 to R173). A record that is written, whatever places are free, stands last with the next sequence
number, which wraps, and the gap count so far, which returns to 0: so a metered grant's, and a conversion's, which no
space test holds back and which gives up its reservation. A droppable record is written so when a place is free beyond
the reservations, and otherwise skipped and counted. -/
def Obligations.DroppableRecordsKeepPlaces : Prop :=
  ∀ (j : Journal) (minute : Nat) (b : RecordBody),
    (j.nextSeq ≤ 4294967295 →
      ∃ x, j.write minute b = { j with
          fifo := j.fifo ++ [x], gap := 0
          nextSeq := (if j.nextSeq = 4294967295 then 0 else j.nextSeq + 1) } ∧
        x = { sequence := j.nextSeq, kind := b.kind, port := b.port, overdraft := b.overdraft, grace := b.grace
              orphan := b.orphan, forced := b.forced, gap := j.gap, minute := minute, handle := b.handle, tag := b.tag
              code := b.code, charges := b.charges }) ∧
    (∀ s : State, s.journal = j → s.time.clock = minute →
      s.recordGrant b = { s with journal := { j.write minute b with rv := j.rv + 1 } } ∧
      s.recordRelease b = { s with journal := { j.write minute b with rv := j.rv - 1 } }) ∧
    (j.fifo.length + j.rv + 1 ≤ 512 → j.writeDroppable minute b = j.write minute b) ∧
    (512 < j.fifo.length + j.rv + 1 → j.gap ≤ 65535 →
      j.writeDroppable minute b = { j with gap := if j.gap = 65535 then 65535 else j.gap + 1 })

/-- The journal port (R176 to R179): when a batch begins and how many records it takes; JCLK walks the 32 bytes of the
record presented; JACK after all of them takes the record away and ends the batch or presents the next, and an early
JACK presents the same one again. A record is 32 bytes, each field at its place, most significant byte first (R174,
R193). The model's choices: that a BATCH_BEGIN which may not begin a batch changes nothing but the level it carries
(log 2), that the recorder's JEND comes as the level the row carries (log 9), that JREQ's pulses are counted and JD
has no value while no record is presented (log 21), and that a batch begins at its row, however long its conditions
have held (log 36). -/
def Obligations.BatchDeliversRecords : Prop :=
  (∀ (s : State) (jend : Bool) (h : ImageHead) (j : Journal), s.running = true → s.cat.head = some h →
    j = { s.journal with jendRecorder := jend } →
    (s.journal.batch = .idle → s.journal.fifo ≠ [] → jend = false → exec (.batchBegin jend) s =
      .next { s with journal := { j with
        batch := .running, remaining := min s.journal.fifo.length h.header.batchLimit, bytePos := 0
        batchMode := h.header.requestMode
        jreqPulses := if h.header.requestMode = .pulse then j.jreqPulses + 1 else j.jreqPulses } }) ∧
    (s.journal.batch = .running ∨ s.journal.fifo = [] ∨ jend = true →
      exec (.batchBegin jend) s = .next { s with journal := j })) ∧
  (∀ (s : State) (jend : Bool), s.running = true → s.cat.head = none →
    exec (.batchBegin jend) s = .next { s with journal := { s.journal with jendRecorder := jend } }) ∧
  (∀ s : State, s.running = true →
    (s.journal.batch = .running → s.journal.bytePos < 32 → exec .jclkRisingEdge s =
      .next { s with journal := { s.journal with bytePos := s.journal.bytePos + 1 } }) ∧
    (s.journal.batch = .idle ∨ 32 ≤ s.journal.bytePos → exec .jclkRisingEdge s = .next s)) ∧
  (∀ (s : State) (jend : Bool) (j : Journal) (pulses : Nat), s.running = true →
    j = { s.journal with jendRecorder := jend } →
    pulses = (if j.batchMode = .pulse then j.jreqPulses + 1 else j.jreqPulses) →
    (j.batch = .idle → exec (.recordAcknowledge jend) s = .next { s with journal := j }) ∧
    (j.batch = .running → j.bytePos ≠ 32 → exec (.recordAcknowledge jend) s =
      .next { s with journal := { j with bytePos := 0, jreqPulses := pulses } }) ∧
    (j.batch = .running → j.bytePos = 32 → 2 ≤ j.remaining → jend = false → exec (.recordAcknowledge jend) s =
      .next { s with journal := { j with
        fifo := j.fifo.tail, remaining := j.remaining - 1, bytePos := 0, jreqPulses := pulses } }) ∧
    (j.batch = .running → j.bytePos = 32 → j.remaining ≤ 1 ∨ jend = true → exec (.recordAcknowledge jend) s =
      .next { s with journal := { j with fifo := j.fifo.tail, batch := .idle, remaining := 0, bytePos := 0 } })) ∧
  (∀ (j : Journal) (x : JournalRecord), j.batch = .running → j.fifo.head? = some x →
    j.jd = some (x.bytes.getD j.bytePos 0#8) ∧
    (j.jendDriven = true ↔ j.remaining = 1) ∧ (j.jreqLevel = true ↔ j.batchMode = .level)) ∧
  (∀ j : Journal, j.batch = .idle → j.jd = none ∧ j.jendDriven = false ∧ j.jreqLevel = false) ∧
  (∀ j : Journal, j.jend = true ↔ j.jendDriven = true ∨ j.jendRecorder = true) ∧
  (∀ x : JournalRecord, x.bytes.length = 32 ∧
    x.bytes = beBytes 4 x.sequence ++
      [match x.kind with
        | .grant => 1#8 | .returned => 2#8 | .forcedReturn => 3#8 | .reclaim => 4#8 | .deny => 5#8
        | .waitEnd => 6#8 | .overdraftOpen => 7#8 | .overdraftClose => 8#8 | .image => 9#8 | .time => 10#8,
       BitVec.ofNat 8 (x.port.val + (if x.overdraft then 4 else 0) + (if x.grace then 8 else 0) +
         (if x.orphan then 16 else 0) + (if x.forced then 32 else 0))] ++
      beBytes 2 x.gap ++ beBytes 4 x.minute ++ beBytes 2 x.handle ++ beBytes 4 x.tag ++ beBytes 2 x.code ++
      beBytes 3 (x.charges.get 0) ++ beBytes 3 (x.charges.get 1) ++ beBytes 3 (x.charges.get 2) ++
      beBytes 3 (x.charges.get 3)) ∧
  (∀ width n i : Nat, (beBytes width n).length = width ∧
    (i < width → (beBytes width n)[i]? = some (BitVec.ofNat 8 (n / 256 ^ (width - 1 - i)))))

/-! ### What every step keeps -/

/-- Every step keeps the tokens in balance (R37) and the journal's places for its reservations (R170). -/
def Obligations.TokensAndReservationsBalance : Prop :=
  ∀ s t : State, s.TokensBalance → s.JournalFits → step s = .next t → t.TokensBalance ∧ t.JournalFits

/-- Every step keeps the slots' generations in their ranges (R41, R69) and the wait queue within its bounds (R71). -/
def Obligations.SlotsAndQueueStayBounded : Prop :=
  ∀ s t : State, s.SlotsNumbered → s.QueueBounded → step s = .next t → t.SlotsNumbered ∧ t.QueueBounded

/-- Every step of a part whose staging agrees with its state keeps only verified images stored, staged COMPLETE and
active (R139, R141, R145 to R147, R149, R150). -/
def Obligations.OnlyVerifiedImagesServe : Prop :=
  ∀ s t : State, s.ImagesVerified → s.stager.Shaped → step s = .next t → t.ImagesVerified

/-- Every step of a part that serves only verified images keeps the journal's numbers without a hole (R171) and its
batch within its bounds (R170, R176). -/
def Obligations.JournalStaysInOrder : Prop :=
  ∀ s t : State, s.ImagesVerified → s.journal.Numbered → s.journal.BatchShaped → step s = .next t →
    t.journal.Numbered ∧ t.journal.BatchShaped

/-- Every step of a part that serves only verified images keeps site policy within the capacities (R22, R165, R168),
an overdraft OPEN only in SHORT with an allowance (R126), and SHORT only with a hot verdict among the taps (R124). -/
def Obligations.PolicyAndWatchesStayBounded : Prop :=
  ∀ s t : State, s.ImagesVerified → s.PolicyBounded → s.OverdraftJustified → s.ShortIsHot → step s = .next t →
    t.PolicyBounded ∧ t.OverdraftJustified ∧ t.ShortIsHot

/-- Every step keeps the ports' states, responses, overrun marks and current requests in agreement (R185) and the
notice lists at most 16 long (R187). -/
def Obligations.PortsStayShaped : Prop :=
  ∀ s t : State, s.PortsShaped → s.NoticesBounded → step s = .next t → t.PortsShaped ∧ t.NoticesBounded

/-- Every step keeps the stored term states of a part out of RESET those of its clock (R15), the counters below their
wraps (R87, R88), and the Image Stager and the Sweep Unit in their shapes (R109, R141). -/
def Obligations.UnitsStayShaped : Prop :=
  ∀ s t : State, (s.resetPin = .released → s.TermsCurrent) → s.CountersBounded → s.stager.Shaped → s.sweep.Shaped →
    step s = .next t →
    (t.resetPin = .released → t.TermsCurrent) ∧ t.CountersBounded ∧ t.stager.Shaped ∧ t.sweep.Shaped

end
end

