-- ==== Sys2Proof/Laws/Bytes.lean ====
section
/-! SUPPORT. Numbers written as bytes and read back (R193), and the verification of a staging whose trailer is right
(R147). -/

namespace Sys2Proof.Machine

/-- A number of `w` bytes has `w` bytes. -/
@[simp] theorem beBytes_length (w n : Nat) : (beBytes w n).length = w := by
  induction w with
  | zero => rfl
  | succ w ih => simp [beBytes, ih]

/-- One byte more at the high end weighs 256 to the number of bytes behind it. -/
theorem beNat_cons (b : Byte) (bs : List Byte) : beNat (b :: bs) = b.toNat * 256 ^ bs.length + beNat bs := by
  have h : ∀ (bs : List Byte) (a : Nat),
      bs.foldl (fun n b => n * 256 + b.toNat) a = a * 256 ^ bs.length + beNat bs := by
    intro bs
    induction bs with
    | nil => intro a; simp [beNat]
    | cons c cs ih =>
      intro a
      have hc := ih (0 * 256 + c.toNat)
      have ha := ih (a * 256 + c.toNat)
      simp only [List.foldl_cons, ha, List.length_cons, pow_succ]
      have : beNat (c :: cs) = (0 * 256 + c.toNat) * 256 ^ cs.length + beNat cs := hc
      rw [this]
      ring
  have hb := h bs (0 * 256 + b.toNat)
  simpa using (show beNat (b :: bs) = _ from hb)

/-- A number written in `w` bytes reads back as its low `w` bytes (R193). -/
theorem beNat_beBytes (w n : Nat) : beNat (beBytes w n) = n % 256 ^ w := by
  induction w with
  | zero => simp [beBytes, beNat, Nat.mod_one]
  | succ w ih =>
    have hm : n % 256 ^ (w + 1) = n % 256 ^ w + 256 ^ w * (n / 256 ^ w % 256) := by rw [pow_succ, Nat.mod_mul]
    rw [beBytes, beNat_cons, ih, beBytes_length, BitVec.toNat_ofNat, hm, Nat.add_comm, Nat.mul_comm]

/-- A field behind `off` bytes, with nothing after it. -/
theorem field_behind (front back : List Byte) : field (front ++ back) front.length back.length = beNat back := by
  simp [field]

/-- A staging of records that each pass their tests, with the trailer that R148 gives them, is verified where the active
issue does not forbid it. -/
theorem verifyFault_none (rs : List ImageRecord) (active : Option Nat) (hl : rs.length < 256)
    (hi : ∀ i, active = some i → i < (headOf rs).header.issue) (hf : firstRecordFault [] rs = none) :
    verifyFault (rs ++ [⟨6#8, b1 rs.length ++ b4 (recordsCrc rs)⟩]) active = none := by
  have hc : recordsCrc rs < 256 ^ 4 := by
    unfold recordsCrc
    exact lt_of_lt_of_eq (crc32 _).isLt (by norm_num)
  have h0 : field (b1 rs.length ++ b4 (recordsCrc rs)) 0 1 = rs.length := by
    have : (b1 rs.length ++ b4 (recordsCrc rs)).take 1 = b1 rs.length := by simp [b1, beBytes]
    simp only [field, List.drop_zero, this]
    rw [b1, beNat_beBytes, Nat.mod_eq_of_lt (by simpa using hl)]
  have h1 : field (b1 rs.length ++ b4 (recordsCrc rs)) 1 4 = recordsCrc rs := by
    have := field_behind (b1 rs.length) (b4 (recordsCrc rs))
    simp only [b1, b4, beBytes_length] at this
    rw [b1, b4, this, beNat_beBytes, Nat.mod_eq_of_lt hc]
  have hk : ImageRecord.isKind ⟨6#8, b1 rs.length ++ b4 (recordsCrc rs)⟩ kindTrailer = true := rfl
  unfold verifyFault
  simp only [List.getLast?_append, List.getLast?_singleton, Option.some_or, List.dropLast_concat, hk, h0, h1]
  cases active with
  | none => simp [hf]
  | some i => have := hi i rfl; simp [hf, show ¬ (headOf rs).header.issue ≤ i by omega]

end Sys2Proof.Machine
end

