-- ==== Sys2Proof/Laws/State.lean ====
section
/-! SUPPORT. Each update of State, read field by field: what it writes, and that it leaves every other field. True by
definition, so that no proof unfolds a record update. -/

namespace Sys2Proof.Machine

variable (s : State)

/-! ### dropRequest -/

@[simp] theorem State.dropRequest_powered (c : Command) (p : Port) : (s.dropRequest c p).powered = s.powered := rfl
@[simp] theorem State.dropRequest_resetPin (c : Command) (p : Port) : (s.dropRequest c p).resetPin = s.resetPin := rfl
@[simp] theorem State.dropRequest_ports (c : Command) (p : Port) : (s.dropRequest c p).ports = s.ports := rfl
@[simp] theorem State.dropRequest_requests (c : Command) (p : Port) : (s.dropRequest c p).requests = s.requests.eraseP fun r => r.isFor c p := rfl
@[simp] theorem State.dropRequest_cat (c : Command) (p : Port) : (s.dropRequest c p).cat = s.cat := rfl
@[simp] theorem State.dropRequest_grant (c : Command) (p : Port) : (s.dropRequest c p).grant = s.grant := rfl
@[simp] theorem State.dropRequest_watches (c : Command) (p : Port) : (s.dropRequest c p).watches = s.watches := rfl
@[simp] theorem State.dropRequest_time (c : Command) (p : Port) : (s.dropRequest c p).time = s.time := rfl
@[simp] theorem State.dropRequest_due (c : Command) (p : Port) : (s.dropRequest c p).due = s.due := rfl
@[simp] theorem State.dropRequest_sweep (c : Command) (p : Port) : (s.dropRequest c p).sweep = s.sweep := rfl
@[simp] theorem State.dropRequest_journal (c : Command) (p : Port) : (s.dropRequest c p).journal = s.journal := rfl
@[simp] theorem State.dropRequest_stager (c : Command) (p : Port) : (s.dropRequest c p).stager = s.stager := rfl
@[simp] theorem State.dropRequest_store (c : Command) (p : Port) : (s.dropRequest c p).store = s.store := rfl
@[simp] theorem State.dropRequest_policy (c : Command) (p : Port) : (s.dropRequest c p).policy = s.policy := rfl
@[simp] theorem State.dropRequest_pending (c : Command) (p : Port) : (s.dropRequest c p).pending = s.pending := rfl

/-! ### modifyPort -/

@[simp] theorem State.modifyPort_powered (p : Port) (f : PortIf → PortIf) : (s.modifyPort p f).powered = s.powered := rfl
@[simp] theorem State.modifyPort_resetPin (p : Port) (f : PortIf → PortIf) : (s.modifyPort p f).resetPin = s.resetPin := rfl
@[simp] theorem State.modifyPort_ports (p : Port) (f : PortIf → PortIf) : (s.modifyPort p f).ports = s.ports.modify p f := rfl
@[simp] theorem State.modifyPort_requests (p : Port) (f : PortIf → PortIf) : (s.modifyPort p f).requests = s.requests := rfl
@[simp] theorem State.modifyPort_cat (p : Port) (f : PortIf → PortIf) : (s.modifyPort p f).cat = s.cat := rfl
@[simp] theorem State.modifyPort_grant (p : Port) (f : PortIf → PortIf) : (s.modifyPort p f).grant = s.grant := rfl
@[simp] theorem State.modifyPort_watches (p : Port) (f : PortIf → PortIf) : (s.modifyPort p f).watches = s.watches := rfl
@[simp] theorem State.modifyPort_time (p : Port) (f : PortIf → PortIf) : (s.modifyPort p f).time = s.time := rfl
@[simp] theorem State.modifyPort_due (p : Port) (f : PortIf → PortIf) : (s.modifyPort p f).due = s.due := rfl
@[simp] theorem State.modifyPort_sweep (p : Port) (f : PortIf → PortIf) : (s.modifyPort p f).sweep = s.sweep := rfl
@[simp] theorem State.modifyPort_journal (p : Port) (f : PortIf → PortIf) : (s.modifyPort p f).journal = s.journal := rfl
@[simp] theorem State.modifyPort_stager (p : Port) (f : PortIf → PortIf) : (s.modifyPort p f).stager = s.stager := rfl
@[simp] theorem State.modifyPort_store (p : Port) (f : PortIf → PortIf) : (s.modifyPort p f).store = s.store := rfl
@[simp] theorem State.modifyPort_policy (p : Port) (f : PortIf → PortIf) : (s.modifyPort p f).policy = s.policy := rfl
@[simp] theorem State.modifyPort_pending (p : Port) (f : PortIf → PortIf) : (s.modifyPort p f).pending = s.pending := rfl

/-! ### notify -/

@[simp] theorem State.notify_powered (p : Port) (x : Notice) : (s.notify p x).powered = s.powered := rfl
@[simp] theorem State.notify_resetPin (p : Port) (x : Notice) : (s.notify p x).resetPin = s.resetPin := rfl
@[simp] theorem State.notify_ports (p : Port) (x : Notice) : (s.notify p x).ports = s.ports.modify p fun q => q.hand x := rfl
@[simp] theorem State.notify_requests (p : Port) (x : Notice) : (s.notify p x).requests = s.requests := rfl
@[simp] theorem State.notify_cat (p : Port) (x : Notice) : (s.notify p x).cat = s.cat := rfl
@[simp] theorem State.notify_grant (p : Port) (x : Notice) : (s.notify p x).grant = s.grant := rfl
@[simp] theorem State.notify_watches (p : Port) (x : Notice) : (s.notify p x).watches = s.watches := rfl
@[simp] theorem State.notify_time (p : Port) (x : Notice) : (s.notify p x).time = s.time := rfl
@[simp] theorem State.notify_due (p : Port) (x : Notice) : (s.notify p x).due = s.due := rfl
@[simp] theorem State.notify_sweep (p : Port) (x : Notice) : (s.notify p x).sweep = s.sweep := rfl
@[simp] theorem State.notify_journal (p : Port) (x : Notice) : (s.notify p x).journal = s.journal := rfl
@[simp] theorem State.notify_stager (p : Port) (x : Notice) : (s.notify p x).stager = s.stager := rfl
@[simp] theorem State.notify_store (p : Port) (x : Notice) : (s.notify p x).store = s.store := rfl
@[simp] theorem State.notify_policy (p : Port) (x : Notice) : (s.notify p x).policy = s.policy := rfl
@[simp] theorem State.notify_pending (p : Port) (x : Notice) : (s.notify p x).pending = s.pending := rfl

/-! ### notifyAll -/

@[simp] theorem State.notifyAll_powered (xs : List Notice) : (s.notifyAll xs).powered = s.powered := rfl
@[simp] theorem State.notifyAll_resetPin (xs : List Notice) : (s.notifyAll xs).resetPin = s.resetPin := rfl
@[simp] theorem State.notifyAll_ports (xs : List Notice) : (s.notifyAll xs).ports = s.ports.map fun q => q.handAll xs := rfl
@[simp] theorem State.notifyAll_requests (xs : List Notice) : (s.notifyAll xs).requests = s.requests := rfl
@[simp] theorem State.notifyAll_cat (xs : List Notice) : (s.notifyAll xs).cat = s.cat := rfl
@[simp] theorem State.notifyAll_grant (xs : List Notice) : (s.notifyAll xs).grant = s.grant := rfl
@[simp] theorem State.notifyAll_watches (xs : List Notice) : (s.notifyAll xs).watches = s.watches := rfl
@[simp] theorem State.notifyAll_time (xs : List Notice) : (s.notifyAll xs).time = s.time := rfl
@[simp] theorem State.notifyAll_due (xs : List Notice) : (s.notifyAll xs).due = s.due := rfl
@[simp] theorem State.notifyAll_sweep (xs : List Notice) : (s.notifyAll xs).sweep = s.sweep := rfl
@[simp] theorem State.notifyAll_journal (xs : List Notice) : (s.notifyAll xs).journal = s.journal := rfl
@[simp] theorem State.notifyAll_stager (xs : List Notice) : (s.notifyAll xs).stager = s.stager := rfl
@[simp] theorem State.notifyAll_store (xs : List Notice) : (s.notifyAll xs).store = s.store := rfl
@[simp] theorem State.notifyAll_policy (xs : List Notice) : (s.notifyAll xs).policy = s.policy := rfl
@[simp] theorem State.notifyAll_pending (xs : List Notice) : (s.notifyAll xs).pending = s.pending := rfl

/-! ### withClock -/

@[simp] theorem State.withClock_powered (n : Nat) : (s.withClock n).powered = s.powered := rfl
@[simp] theorem State.withClock_resetPin (n : Nat) : (s.withClock n).resetPin = s.resetPin := rfl
@[simp] theorem State.withClock_ports (n : Nat) : (s.withClock n).ports = s.ports := rfl
@[simp] theorem State.withClock_requests (n : Nat) : (s.withClock n).requests = s.requests := rfl
@[simp] theorem State.withClock_cat (n : Nat) : (s.withClock n).cat = s.cat := rfl
@[simp] theorem State.withClock_grant (n : Nat) : (s.withClock n).grant = s.grant := rfl
@[simp] theorem State.withClock_watches (n : Nat) : (s.withClock n).watches = s.watches := rfl
@[simp] theorem State.withClock_time (n : Nat) : (s.withClock n).time = { s.time with clock := n } := rfl
@[simp] theorem State.withClock_due (n : Nat) : (s.withClock n).due = s.due := rfl
@[simp] theorem State.withClock_sweep (n : Nat) : (s.withClock n).sweep = s.sweep := rfl
@[simp] theorem State.withClock_journal (n : Nat) : (s.withClock n).journal = s.journal := rfl
@[simp] theorem State.withClock_stager (n : Nat) : (s.withClock n).stager = s.stager := rfl
@[simp] theorem State.withClock_store (n : Nat) : (s.withClock n).store = s.store := rfl
@[simp] theorem State.withClock_policy (n : Nat) : (s.withClock n).policy = s.policy := rfl
@[simp] theorem State.withClock_pending (n : Nat) : (s.withClock n).pending = s.pending := rfl

/-! ### withWclk -/

@[simp] theorem State.withWclk_powered (w : WclkState) : (s.withWclk w).powered = s.powered := rfl
@[simp] theorem State.withWclk_resetPin (w : WclkState) : (s.withWclk w).resetPin = s.resetPin := rfl
@[simp] theorem State.withWclk_ports (w : WclkState) : (s.withWclk w).ports = s.ports := rfl
@[simp] theorem State.withWclk_requests (w : WclkState) : (s.withWclk w).requests = s.requests := rfl
@[simp] theorem State.withWclk_cat (w : WclkState) : (s.withWclk w).cat = s.cat := rfl
@[simp] theorem State.withWclk_grant (w : WclkState) : (s.withWclk w).grant = s.grant := rfl
@[simp] theorem State.withWclk_watches (w : WclkState) : (s.withWclk w).watches = s.watches := rfl
@[simp] theorem State.withWclk_time (w : WclkState) : (s.withWclk w).time = { s.time with wclk := w } := rfl
@[simp] theorem State.withWclk_due (w : WclkState) : (s.withWclk w).due = s.due := rfl
@[simp] theorem State.withWclk_sweep (w : WclkState) : (s.withWclk w).sweep = s.sweep := rfl
@[simp] theorem State.withWclk_journal (w : WclkState) : (s.withWclk w).journal = s.journal := rfl
@[simp] theorem State.withWclk_stager (w : WclkState) : (s.withWclk w).stager = s.stager := rfl
@[simp] theorem State.withWclk_store (w : WclkState) : (s.withWclk w).store = s.store := rfl
@[simp] theorem State.withWclk_policy (w : WclkState) : (s.withWclk w).policy = s.policy := rfl
@[simp] theorem State.withWclk_pending (w : WclkState) : (s.withWclk w).pending = s.pending := rfl

/-! ### withPools -/

@[simp] theorem State.withPools_powered (q : Quad PoolState) : (s.withPools q).powered = s.powered := rfl
@[simp] theorem State.withPools_resetPin (q : Quad PoolState) : (s.withPools q).resetPin = s.resetPin := rfl
@[simp] theorem State.withPools_ports (q : Quad PoolState) : (s.withPools q).ports = s.ports := rfl
@[simp] theorem State.withPools_requests (q : Quad PoolState) : (s.withPools q).requests = s.requests := rfl
@[simp] theorem State.withPools_cat (q : Quad PoolState) : (s.withPools q).cat = s.cat := rfl
@[simp] theorem State.withPools_grant (q : Quad PoolState) : (s.withPools q).grant = { s.grant with pools := q } := rfl
@[simp] theorem State.withPools_watches (q : Quad PoolState) : (s.withPools q).watches = s.watches := rfl
@[simp] theorem State.withPools_time (q : Quad PoolState) : (s.withPools q).time = s.time := rfl
@[simp] theorem State.withPools_due (q : Quad PoolState) : (s.withPools q).due = s.due := rfl
@[simp] theorem State.withPools_sweep (q : Quad PoolState) : (s.withPools q).sweep = s.sweep := rfl
@[simp] theorem State.withPools_journal (q : Quad PoolState) : (s.withPools q).journal = s.journal := rfl
@[simp] theorem State.withPools_stager (q : Quad PoolState) : (s.withPools q).stager = s.stager := rfl
@[simp] theorem State.withPools_store (q : Quad PoolState) : (s.withPools q).store = s.store := rfl
@[simp] theorem State.withPools_policy (q : Quad PoolState) : (s.withPools q).policy = s.policy := rfl
@[simp] theorem State.withPools_pending (q : Quad PoolState) : (s.withPools q).pending = s.pending := rfl

/-! ### withQueue -/

@[simp] theorem State.withQueue_powered (q : List WaitEntry) : (s.withQueue q).powered = s.powered := rfl
@[simp] theorem State.withQueue_resetPin (q : List WaitEntry) : (s.withQueue q).resetPin = s.resetPin := rfl
@[simp] theorem State.withQueue_ports (q : List WaitEntry) : (s.withQueue q).ports = s.ports := rfl
@[simp] theorem State.withQueue_requests (q : List WaitEntry) : (s.withQueue q).requests = s.requests := rfl
@[simp] theorem State.withQueue_cat (q : List WaitEntry) : (s.withQueue q).cat = s.cat := rfl
@[simp] theorem State.withQueue_grant (q : List WaitEntry) : (s.withQueue q).grant = { s.grant with queue := q } := rfl
@[simp] theorem State.withQueue_watches (q : List WaitEntry) : (s.withQueue q).watches = s.watches := rfl
@[simp] theorem State.withQueue_time (q : List WaitEntry) : (s.withQueue q).time = s.time := rfl
@[simp] theorem State.withQueue_due (q : List WaitEntry) : (s.withQueue q).due = s.due := rfl
@[simp] theorem State.withQueue_sweep (q : List WaitEntry) : (s.withQueue q).sweep = s.sweep := rfl
@[simp] theorem State.withQueue_journal (q : List WaitEntry) : (s.withQueue q).journal = s.journal := rfl
@[simp] theorem State.withQueue_stager (q : List WaitEntry) : (s.withQueue q).stager = s.stager := rfl
@[simp] theorem State.withQueue_store (q : List WaitEntry) : (s.withQueue q).store = s.store := rfl
@[simp] theorem State.withQueue_policy (q : List WaitEntry) : (s.withQueue q).policy = s.policy := rfl
@[simp] theorem State.withQueue_pending (q : List WaitEntry) : (s.withQueue q).pending = s.pending := rfl

/-! ### setSlot -/

@[simp] theorem State.setSlot_powered (n : Nat) (c : CheckoutSlot) : (s.setSlot n c).powered = s.powered := rfl
@[simp] theorem State.setSlot_resetPin (n : Nat) (c : CheckoutSlot) : (s.setSlot n c).resetPin = s.resetPin := rfl
@[simp] theorem State.setSlot_ports (n : Nat) (c : CheckoutSlot) : (s.setSlot n c).ports = s.ports := rfl
@[simp] theorem State.setSlot_requests (n : Nat) (c : CheckoutSlot) : (s.setSlot n c).requests = s.requests := rfl
@[simp] theorem State.setSlot_cat (n : Nat) (c : CheckoutSlot) : (s.setSlot n c).cat = s.cat := rfl
@[simp] theorem State.setSlot_grant (n : Nat) (c : CheckoutSlot) : (s.setSlot n c).grant = { s.grant with table := s.grant.table.set n c } := rfl
@[simp] theorem State.setSlot_watches (n : Nat) (c : CheckoutSlot) : (s.setSlot n c).watches = s.watches := rfl
@[simp] theorem State.setSlot_time (n : Nat) (c : CheckoutSlot) : (s.setSlot n c).time = s.time := rfl
@[simp] theorem State.setSlot_due (n : Nat) (c : CheckoutSlot) : (s.setSlot n c).due = s.due := rfl
@[simp] theorem State.setSlot_sweep (n : Nat) (c : CheckoutSlot) : (s.setSlot n c).sweep = s.sweep := rfl
@[simp] theorem State.setSlot_journal (n : Nat) (c : CheckoutSlot) : (s.setSlot n c).journal = s.journal := rfl
@[simp] theorem State.setSlot_stager (n : Nat) (c : CheckoutSlot) : (s.setSlot n c).stager = s.stager := rfl
@[simp] theorem State.setSlot_store (n : Nat) (c : CheckoutSlot) : (s.setSlot n c).store = s.store := rfl
@[simp] theorem State.setSlot_policy (n : Nat) (c : CheckoutSlot) : (s.setSlot n c).policy = s.policy := rfl
@[simp] theorem State.setSlot_pending (n : Nat) (c : CheckoutSlot) : (s.setSlot n c).pending = s.pending := rfl

/-! ### applyCharges -/

@[simp] theorem State.applyCharges_powered (p : Port) (q : Quad Nat) : (s.applyCharges p q).powered = s.powered := rfl
@[simp] theorem State.applyCharges_resetPin (p : Port) (q : Quad Nat) : (s.applyCharges p q).resetPin = s.resetPin := rfl
@[simp] theorem State.applyCharges_ports (p : Port) (q : Quad Nat) : (s.applyCharges p q).ports = s.ports := rfl
@[simp] theorem State.applyCharges_requests (p : Port) (q : Quad Nat) : (s.applyCharges p q).requests = s.requests := rfl
@[simp] theorem State.applyCharges_cat (p : Port) (q : Quad Nat) : (s.applyCharges p q).cat = s.cat := rfl
@[simp] theorem State.applyCharges_watches (p : Port) (q : Quad Nat) : (s.applyCharges p q).watches = s.watches := rfl
@[simp] theorem State.applyCharges_time (p : Port) (q : Quad Nat) : (s.applyCharges p q).time = s.time := rfl
@[simp] theorem State.applyCharges_due (p : Port) (q : Quad Nat) : (s.applyCharges p q).due = s.due := rfl
@[simp] theorem State.applyCharges_sweep (p : Port) (q : Quad Nat) : (s.applyCharges p q).sweep = s.sweep := rfl
@[simp] theorem State.applyCharges_journal (p : Port) (q : Quad Nat) : (s.applyCharges p q).journal = s.journal := rfl
@[simp] theorem State.applyCharges_stager (p : Port) (q : Quad Nat) : (s.applyCharges p q).stager = s.stager := rfl
@[simp] theorem State.applyCharges_store (p : Port) (q : Quad Nat) : (s.applyCharges p q).store = s.store := rfl
@[simp] theorem State.applyCharges_policy (p : Port) (q : Quad Nat) : (s.applyCharges p q).policy = s.policy := rfl
@[simp] theorem State.applyCharges_pending (p : Port) (q : Quad Nat) : (s.applyCharges p q).pending = s.pending := rfl
@[simp] theorem State.applyCharges_table (p : Port) (q : Quad Nat) : (s.applyCharges p q).grant.table = s.grant.table := rfl
@[simp] theorem State.applyCharges_waitGens (p : Port) (q : Quad Nat) : (s.applyCharges p q).grant.waitGens = s.grant.waitGens := rfl
@[simp] theorem State.applyCharges_queue (p : Port) (q : Quad Nat) : (s.applyCharges p q).grant.queue = s.grant.queue := rfl

/-! ### creditCharges -/

@[simp] theorem State.creditCharges_powered (p : Port) (q : Quad Nat) : (s.creditCharges p q).powered = s.powered := rfl
@[simp] theorem State.creditCharges_resetPin (p : Port) (q : Quad Nat) : (s.creditCharges p q).resetPin = s.resetPin := rfl
@[simp] theorem State.creditCharges_ports (p : Port) (q : Quad Nat) : (s.creditCharges p q).ports = s.ports := rfl
@[simp] theorem State.creditCharges_requests (p : Port) (q : Quad Nat) : (s.creditCharges p q).requests = s.requests := rfl
@[simp] theorem State.creditCharges_cat (p : Port) (q : Quad Nat) : (s.creditCharges p q).cat = s.cat := rfl
@[simp] theorem State.creditCharges_watches (p : Port) (q : Quad Nat) : (s.creditCharges p q).watches = s.watches := rfl
@[simp] theorem State.creditCharges_time (p : Port) (q : Quad Nat) : (s.creditCharges p q).time = s.time := rfl
@[simp] theorem State.creditCharges_due (p : Port) (q : Quad Nat) : (s.creditCharges p q).due = s.due := rfl
@[simp] theorem State.creditCharges_sweep (p : Port) (q : Quad Nat) : (s.creditCharges p q).sweep = s.sweep := rfl
@[simp] theorem State.creditCharges_journal (p : Port) (q : Quad Nat) : (s.creditCharges p q).journal = s.journal := rfl
@[simp] theorem State.creditCharges_stager (p : Port) (q : Quad Nat) : (s.creditCharges p q).stager = s.stager := rfl
@[simp] theorem State.creditCharges_store (p : Port) (q : Quad Nat) : (s.creditCharges p q).store = s.store := rfl
@[simp] theorem State.creditCharges_policy (p : Port) (q : Quad Nat) : (s.creditCharges p q).policy = s.policy := rfl
@[simp] theorem State.creditCharges_pending (p : Port) (q : Quad Nat) : (s.creditCharges p q).pending = s.pending := rfl
@[simp] theorem State.creditCharges_table (p : Port) (q : Quad Nat) : (s.creditCharges p q).grant.table = s.grant.table := rfl
@[simp] theorem State.creditCharges_waitGens (p : Port) (q : Quad Nat) : (s.creditCharges p q).grant.waitGens = s.grant.waitGens := rfl
@[simp] theorem State.creditCharges_queue (p : Port) (q : Quad Nat) : (s.creditCharges p q).grant.queue = s.grant.queue := rfl

/-! ### leaveQueue -/

@[simp] theorem State.leaveQueue_powered (e : WaitEntry) : (s.leaveQueue e).powered = s.powered := rfl
@[simp] theorem State.leaveQueue_resetPin (e : WaitEntry) : (s.leaveQueue e).resetPin = s.resetPin := rfl
@[simp] theorem State.leaveQueue_ports (e : WaitEntry) : (s.leaveQueue e).ports = s.ports := rfl
@[simp] theorem State.leaveQueue_requests (e : WaitEntry) : (s.leaveQueue e).requests = s.requests := rfl
@[simp] theorem State.leaveQueue_cat (e : WaitEntry) : (s.leaveQueue e).cat = s.cat := rfl
@[simp] theorem State.leaveQueue_watches (e : WaitEntry) : (s.leaveQueue e).watches = s.watches := rfl
@[simp] theorem State.leaveQueue_time (e : WaitEntry) : (s.leaveQueue e).time = s.time := rfl
@[simp] theorem State.leaveQueue_due (e : WaitEntry) : (s.leaveQueue e).due = s.due := rfl
@[simp] theorem State.leaveQueue_sweep (e : WaitEntry) : (s.leaveQueue e).sweep = s.sweep := rfl
@[simp] theorem State.leaveQueue_journal (e : WaitEntry) : (s.leaveQueue e).journal = s.journal := rfl
@[simp] theorem State.leaveQueue_stager (e : WaitEntry) : (s.leaveQueue e).stager = s.stager := rfl
@[simp] theorem State.leaveQueue_store (e : WaitEntry) : (s.leaveQueue e).store = s.store := rfl
@[simp] theorem State.leaveQueue_policy (e : WaitEntry) : (s.leaveQueue e).policy = s.policy := rfl
@[simp] theorem State.leaveQueue_pending (e : WaitEntry) : (s.leaveQueue e).pending = s.pending := rfl
@[simp] theorem State.leaveQueue_table (e : WaitEntry) : (s.leaveQueue e).grant.table = s.grant.table := rfl
@[simp] theorem State.leaveQueue_pools (e : WaitEntry) : (s.leaveQueue e).grant.pools = s.grant.pools := rfl
@[simp] theorem State.leaveQueue_queue (e : WaitEntry) :
    (s.leaveQueue e).grant.queue = s.grant.queue.filter fun x => x.slot != e.slot := rfl

/-! ### updateEntry -/

@[simp] theorem State.updateEntry_powered (n : Nat) (f : WaitEntry → WaitEntry) : (s.updateEntry n f).powered = s.powered := rfl
@[simp] theorem State.updateEntry_resetPin (n : Nat) (f : WaitEntry → WaitEntry) : (s.updateEntry n f).resetPin = s.resetPin := rfl
@[simp] theorem State.updateEntry_ports (n : Nat) (f : WaitEntry → WaitEntry) : (s.updateEntry n f).ports = s.ports := rfl
@[simp] theorem State.updateEntry_requests (n : Nat) (f : WaitEntry → WaitEntry) : (s.updateEntry n f).requests = s.requests := rfl
@[simp] theorem State.updateEntry_cat (n : Nat) (f : WaitEntry → WaitEntry) : (s.updateEntry n f).cat = s.cat := rfl
@[simp] theorem State.updateEntry_watches (n : Nat) (f : WaitEntry → WaitEntry) : (s.updateEntry n f).watches = s.watches := rfl
@[simp] theorem State.updateEntry_time (n : Nat) (f : WaitEntry → WaitEntry) : (s.updateEntry n f).time = s.time := rfl
@[simp] theorem State.updateEntry_due (n : Nat) (f : WaitEntry → WaitEntry) : (s.updateEntry n f).due = s.due := rfl
@[simp] theorem State.updateEntry_sweep (n : Nat) (f : WaitEntry → WaitEntry) : (s.updateEntry n f).sweep = s.sweep := rfl
@[simp] theorem State.updateEntry_journal (n : Nat) (f : WaitEntry → WaitEntry) : (s.updateEntry n f).journal = s.journal := rfl
@[simp] theorem State.updateEntry_stager (n : Nat) (f : WaitEntry → WaitEntry) : (s.updateEntry n f).stager = s.stager := rfl
@[simp] theorem State.updateEntry_store (n : Nat) (f : WaitEntry → WaitEntry) : (s.updateEntry n f).store = s.store := rfl
@[simp] theorem State.updateEntry_policy (n : Nat) (f : WaitEntry → WaitEntry) : (s.updateEntry n f).policy = s.policy := rfl
@[simp] theorem State.updateEntry_pending (n : Nat) (f : WaitEntry → WaitEntry) : (s.updateEntry n f).pending = s.pending := rfl
@[simp] theorem State.updateEntry_table (n : Nat) (f : WaitEntry → WaitEntry) : (s.updateEntry n f).grant.table = s.grant.table := rfl
@[simp] theorem State.updateEntry_waitGens (n : Nat) (f : WaitEntry → WaitEntry) : (s.updateEntry n f).grant.waitGens = s.grant.waitGens := rfl
@[simp] theorem State.updateEntry_pools (n : Nat) (f : WaitEntry → WaitEntry) : (s.updateEntry n f).grant.pools = s.grant.pools := rfl

/-! ### countDown -/

@[simp] theorem State.countDown_powered : (s.countDown).powered = s.powered := rfl
@[simp] theorem State.countDown_resetPin : (s.countDown).resetPin = s.resetPin := rfl
@[simp] theorem State.countDown_ports : (s.countDown).ports = s.ports := rfl
@[simp] theorem State.countDown_requests : (s.countDown).requests = s.requests := rfl
@[simp] theorem State.countDown_cat : (s.countDown).cat = s.cat := rfl
@[simp] theorem State.countDown_watches : (s.countDown).watches = s.watches := rfl
@[simp] theorem State.countDown_time : (s.countDown).time = s.time := rfl
@[simp] theorem State.countDown_due : (s.countDown).due = s.due := rfl
@[simp] theorem State.countDown_sweep : (s.countDown).sweep = s.sweep := rfl
@[simp] theorem State.countDown_journal : (s.countDown).journal = s.journal := rfl
@[simp] theorem State.countDown_stager : (s.countDown).stager = s.stager := rfl
@[simp] theorem State.countDown_store : (s.countDown).store = s.store := rfl
@[simp] theorem State.countDown_policy : (s.countDown).policy = s.policy := rfl
@[simp] theorem State.countDown_pending : (s.countDown).pending = s.pending := rfl
@[simp] theorem State.countDown_table : (s.countDown).grant.table = s.grant.table := rfl
@[simp] theorem State.countDown_waitGens : (s.countDown).grant.waitGens = s.grant.waitGens := rfl
@[simp] theorem State.countDown_pools : (s.countDown).grant.pools = s.grant.pools := rfl

/-! ### applyPendings -/

@[simp] theorem State.applyPendings_powered : (s.applyPendings).powered = s.powered := rfl
@[simp] theorem State.applyPendings_resetPin : (s.applyPendings).resetPin = s.resetPin := rfl
@[simp] theorem State.applyPendings_ports : (s.applyPendings).ports = s.ports := rfl
@[simp] theorem State.applyPendings_requests : (s.applyPendings).requests = s.requests := rfl
@[simp] theorem State.applyPendings_cat : (s.applyPendings).cat = s.cat := rfl
@[simp] theorem State.applyPendings_watches : (s.applyPendings).watches = s.watches := rfl
@[simp] theorem State.applyPendings_time : (s.applyPendings).time = s.time := rfl
@[simp] theorem State.applyPendings_due : (s.applyPendings).due = s.due := rfl
@[simp] theorem State.applyPendings_sweep : (s.applyPendings).sweep = s.sweep := rfl
@[simp] theorem State.applyPendings_journal : (s.applyPendings).journal = s.journal := rfl
@[simp] theorem State.applyPendings_stager : (s.applyPendings).stager = s.stager := rfl
@[simp] theorem State.applyPendings_store : (s.applyPendings).store = s.store := rfl
@[simp] theorem State.applyPendings_policy : (s.applyPendings).policy = s.policy := rfl
@[simp] theorem State.applyPendings_pending : (s.applyPendings).pending = s.pending := rfl
@[simp] theorem State.applyPendings_table : (s.applyPendings).grant.table = s.grant.table := rfl
@[simp] theorem State.applyPendings_waitGens : (s.applyPendings).grant.waitGens = s.grant.waitGens := rfl
@[simp] theorem State.applyPendings_queue : (s.applyPendings).grant.queue = s.grant.queue := rfl

/-! ### withPool -/

@[simp] theorem State.withPool_powered (k : Pool) (q : PoolState) : (s.withPool k q).powered = s.powered := rfl
@[simp] theorem State.withPool_resetPin (k : Pool) (q : PoolState) : (s.withPool k q).resetPin = s.resetPin := rfl
@[simp] theorem State.withPool_ports (k : Pool) (q : PoolState) : (s.withPool k q).ports = s.ports := rfl
@[simp] theorem State.withPool_requests (k : Pool) (q : PoolState) : (s.withPool k q).requests = s.requests := rfl
@[simp] theorem State.withPool_cat (k : Pool) (q : PoolState) : (s.withPool k q).cat = s.cat := rfl
@[simp] theorem State.withPool_watches (k : Pool) (q : PoolState) : (s.withPool k q).watches = s.watches := rfl
@[simp] theorem State.withPool_time (k : Pool) (q : PoolState) : (s.withPool k q).time = s.time := rfl
@[simp] theorem State.withPool_due (k : Pool) (q : PoolState) : (s.withPool k q).due = s.due := rfl
@[simp] theorem State.withPool_sweep (k : Pool) (q : PoolState) : (s.withPool k q).sweep = s.sweep := rfl
@[simp] theorem State.withPool_journal (k : Pool) (q : PoolState) : (s.withPool k q).journal = s.journal := rfl
@[simp] theorem State.withPool_stager (k : Pool) (q : PoolState) : (s.withPool k q).stager = s.stager := rfl
@[simp] theorem State.withPool_store (k : Pool) (q : PoolState) : (s.withPool k q).store = s.store := rfl
@[simp] theorem State.withPool_policy (k : Pool) (q : PoolState) : (s.withPool k q).policy = s.policy := rfl
@[simp] theorem State.withPool_pending (k : Pool) (q : PoolState) : (s.withPool k q).pending = s.pending := rfl
@[simp] theorem State.withPool_table (k : Pool) (q : PoolState) : (s.withPool k q).grant.table = s.grant.table := rfl
@[simp] theorem State.withPool_waitGens (k : Pool) (q : PoolState) : (s.withPool k q).grant.waitGens = s.grant.waitGens := rfl
@[simp] theorem State.withPool_queue (k : Pool) (q : PoolState) : (s.withPool k q).grant.queue = s.grant.queue := rfl

/-! ### withDue -/

@[simp] theorem State.withDue_powered (d : WindowEnds) : (s.withDue d).powered = s.powered := rfl
@[simp] theorem State.withDue_resetPin (d : WindowEnds) : (s.withDue d).resetPin = s.resetPin := rfl
@[simp] theorem State.withDue_ports (d : WindowEnds) : (s.withDue d).ports = s.ports := rfl
@[simp] theorem State.withDue_requests (d : WindowEnds) : (s.withDue d).requests = s.requests := rfl
@[simp] theorem State.withDue_cat (d : WindowEnds) : (s.withDue d).cat = s.cat := rfl
@[simp] theorem State.withDue_grant (d : WindowEnds) : (s.withDue d).grant = s.grant := rfl
@[simp] theorem State.withDue_watches (d : WindowEnds) : (s.withDue d).watches = s.watches := rfl
@[simp] theorem State.withDue_time (d : WindowEnds) : (s.withDue d).time = s.time := rfl
@[simp] theorem State.withDue_due (d : WindowEnds) : (s.withDue d).due = d := rfl
@[simp] theorem State.withDue_sweep (d : WindowEnds) : (s.withDue d).sweep = s.sweep := rfl
@[simp] theorem State.withDue_journal (d : WindowEnds) : (s.withDue d).journal = s.journal := rfl
@[simp] theorem State.withDue_stager (d : WindowEnds) : (s.withDue d).stager = s.stager := rfl
@[simp] theorem State.withDue_store (d : WindowEnds) : (s.withDue d).store = s.store := rfl
@[simp] theorem State.withDue_policy (d : WindowEnds) : (s.withDue d).policy = s.policy := rfl
@[simp] theorem State.withDue_pending (d : WindowEnds) : (s.withDue d).pending = s.pending := rfl

/-! ### withSweep -/

@[simp] theorem State.withSweep_powered (w : Sweep) : (s.withSweep w).powered = s.powered := rfl
@[simp] theorem State.withSweep_resetPin (w : Sweep) : (s.withSweep w).resetPin = s.resetPin := rfl
@[simp] theorem State.withSweep_ports (w : Sweep) : (s.withSweep w).ports = s.ports := rfl
@[simp] theorem State.withSweep_requests (w : Sweep) : (s.withSweep w).requests = s.requests := rfl
@[simp] theorem State.withSweep_cat (w : Sweep) : (s.withSweep w).cat = s.cat := rfl
@[simp] theorem State.withSweep_grant (w : Sweep) : (s.withSweep w).grant = s.grant := rfl
@[simp] theorem State.withSweep_watches (w : Sweep) : (s.withSweep w).watches = s.watches := rfl
@[simp] theorem State.withSweep_time (w : Sweep) : (s.withSweep w).time = s.time := rfl
@[simp] theorem State.withSweep_due (w : Sweep) : (s.withSweep w).due = s.due := rfl
@[simp] theorem State.withSweep_sweep (w : Sweep) : (s.withSweep w).sweep = w := rfl
@[simp] theorem State.withSweep_journal (w : Sweep) : (s.withSweep w).journal = s.journal := rfl
@[simp] theorem State.withSweep_stager (w : Sweep) : (s.withSweep w).stager = s.stager := rfl
@[simp] theorem State.withSweep_store (w : Sweep) : (s.withSweep w).store = s.store := rfl
@[simp] theorem State.withSweep_policy (w : Sweep) : (s.withSweep w).policy = s.policy := rfl
@[simp] theorem State.withSweep_pending (w : Sweep) : (s.withSweep w).pending = s.pending := rfl

/-! ### withStager -/

@[simp] theorem State.withStager_powered (t : Stager) : (s.withStager t).powered = s.powered := rfl
@[simp] theorem State.withStager_resetPin (t : Stager) : (s.withStager t).resetPin = s.resetPin := rfl
@[simp] theorem State.withStager_ports (t : Stager) : (s.withStager t).ports = s.ports := rfl
@[simp] theorem State.withStager_requests (t : Stager) : (s.withStager t).requests = s.requests := rfl
@[simp] theorem State.withStager_cat (t : Stager) : (s.withStager t).cat = s.cat := rfl
@[simp] theorem State.withStager_grant (t : Stager) : (s.withStager t).grant = s.grant := rfl
@[simp] theorem State.withStager_watches (t : Stager) : (s.withStager t).watches = s.watches := rfl
@[simp] theorem State.withStager_time (t : Stager) : (s.withStager t).time = s.time := rfl
@[simp] theorem State.withStager_due (t : Stager) : (s.withStager t).due = s.due := rfl
@[simp] theorem State.withStager_sweep (t : Stager) : (s.withStager t).sweep = s.sweep := rfl
@[simp] theorem State.withStager_journal (t : Stager) : (s.withStager t).journal = s.journal := rfl
@[simp] theorem State.withStager_stager (t : Stager) : (s.withStager t).stager = t := rfl
@[simp] theorem State.withStager_store (t : Stager) : (s.withStager t).store = s.store := rfl
@[simp] theorem State.withStager_policy (t : Stager) : (s.withStager t).policy = s.policy := rfl
@[simp] theorem State.withStager_pending (t : Stager) : (s.withStager t).pending = s.pending := rfl

/-! ### discardStaging -/

@[simp] theorem State.discardStaging_powered : (s.discardStaging).powered = s.powered := rfl
@[simp] theorem State.discardStaging_resetPin : (s.discardStaging).resetPin = s.resetPin := rfl
@[simp] theorem State.discardStaging_ports : (s.discardStaging).ports = s.ports := rfl
@[simp] theorem State.discardStaging_requests : (s.discardStaging).requests = s.requests := rfl
@[simp] theorem State.discardStaging_cat : (s.discardStaging).cat = s.cat := rfl
@[simp] theorem State.discardStaging_grant : (s.discardStaging).grant = s.grant := rfl
@[simp] theorem State.discardStaging_watches : (s.discardStaging).watches = s.watches := rfl
@[simp] theorem State.discardStaging_time : (s.discardStaging).time = s.time := rfl
@[simp] theorem State.discardStaging_due : (s.discardStaging).due = s.due := rfl
@[simp] theorem State.discardStaging_sweep : (s.discardStaging).sweep = s.sweep := rfl
@[simp] theorem State.discardStaging_journal : (s.discardStaging).journal = s.journal := rfl
@[simp] theorem State.discardStaging_stager : (s.discardStaging).stager = Stager.initial := rfl
@[simp] theorem State.discardStaging_store : (s.discardStaging).store = s.store := rfl
@[simp] theorem State.discardStaging_policy : (s.discardStaging).policy = s.policy := rfl
@[simp] theorem State.discardStaging_pending : (s.discardStaging).pending = s.pending := rfl

/-! ### withWatch -/

@[simp] theorem State.withWatch_powered (k : Pool) (w : Watch) : (s.withWatch k w).powered = s.powered := rfl
@[simp] theorem State.withWatch_resetPin (k : Pool) (w : Watch) : (s.withWatch k w).resetPin = s.resetPin := rfl
@[simp] theorem State.withWatch_ports (k : Pool) (w : Watch) : (s.withWatch k w).ports = s.ports := rfl
@[simp] theorem State.withWatch_requests (k : Pool) (w : Watch) : (s.withWatch k w).requests = s.requests := rfl
@[simp] theorem State.withWatch_cat (k : Pool) (w : Watch) : (s.withWatch k w).cat = s.cat := rfl
@[simp] theorem State.withWatch_grant (k : Pool) (w : Watch) : (s.withWatch k w).grant = s.grant := rfl
@[simp] theorem State.withWatch_watches (k : Pool) (w : Watch) : (s.withWatch k w).watches = s.watches.set k w := rfl
@[simp] theorem State.withWatch_time (k : Pool) (w : Watch) : (s.withWatch k w).time = s.time := rfl
@[simp] theorem State.withWatch_due (k : Pool) (w : Watch) : (s.withWatch k w).due = s.due := rfl
@[simp] theorem State.withWatch_sweep (k : Pool) (w : Watch) : (s.withWatch k w).sweep = s.sweep := rfl
@[simp] theorem State.withWatch_journal (k : Pool) (w : Watch) : (s.withWatch k w).journal = s.journal := rfl
@[simp] theorem State.withWatch_stager (k : Pool) (w : Watch) : (s.withWatch k w).stager = s.stager := rfl
@[simp] theorem State.withWatch_store (k : Pool) (w : Watch) : (s.withWatch k w).store = s.store := rfl
@[simp] theorem State.withWatch_policy (k : Pool) (w : Watch) : (s.withWatch k w).policy = s.policy := rfl
@[simp] theorem State.withWatch_pending (k : Pool) (w : Watch) : (s.withWatch k w).pending = s.pending := rfl

/-! ### handShortfalls -/

@[simp] theorem State.handShortfalls_powered (c : Catalogue) (g : GrantOrder) : (s.handShortfalls c g).powered = s.powered := rfl
@[simp] theorem State.handShortfalls_resetPin (c : Catalogue) (g : GrantOrder) : (s.handShortfalls c g).resetPin = s.resetPin := rfl
@[simp] theorem State.handShortfalls_ports (c : Catalogue) (g : GrantOrder) : (s.handShortfalls c g).ports = s.ports := rfl
@[simp] theorem State.handShortfalls_requests (c : Catalogue) (g : GrantOrder) : (s.handShortfalls c g).requests = s.requests := rfl
@[simp] theorem State.handShortfalls_cat (c : Catalogue) (g : GrantOrder) : (s.handShortfalls c g).cat = s.cat := rfl
@[simp] theorem State.handShortfalls_grant (c : Catalogue) (g : GrantOrder) : (s.handShortfalls c g).grant = s.grant := rfl
@[simp] theorem State.handShortfalls_time (c : Catalogue) (g : GrantOrder) : (s.handShortfalls c g).time = s.time := rfl
@[simp] theorem State.handShortfalls_due (c : Catalogue) (g : GrantOrder) : (s.handShortfalls c g).due = s.due := rfl
@[simp] theorem State.handShortfalls_sweep (c : Catalogue) (g : GrantOrder) : (s.handShortfalls c g).sweep = s.sweep := rfl
@[simp] theorem State.handShortfalls_journal (c : Catalogue) (g : GrantOrder) : (s.handShortfalls c g).journal = s.journal := rfl
@[simp] theorem State.handShortfalls_stager (c : Catalogue) (g : GrantOrder) : (s.handShortfalls c g).stager = s.stager := rfl
@[simp] theorem State.handShortfalls_store (c : Catalogue) (g : GrantOrder) : (s.handShortfalls c g).store = s.store := rfl
@[simp] theorem State.handShortfalls_policy (c : Catalogue) (g : GrantOrder) : (s.handShortfalls c g).policy = s.policy := rfl
@[simp] theorem State.handShortfalls_pending (c : Catalogue) (g : GrantOrder) : (s.handShortfalls c g).pending = s.pending := rfl

/-! ### withJournal -/

@[simp] theorem State.withJournal_powered (j : Journal) : (s.withJournal j).powered = s.powered := rfl
@[simp] theorem State.withJournal_resetPin (j : Journal) : (s.withJournal j).resetPin = s.resetPin := rfl
@[simp] theorem State.withJournal_ports (j : Journal) : (s.withJournal j).ports = s.ports := rfl
@[simp] theorem State.withJournal_requests (j : Journal) : (s.withJournal j).requests = s.requests := rfl
@[simp] theorem State.withJournal_cat (j : Journal) : (s.withJournal j).cat = s.cat := rfl
@[simp] theorem State.withJournal_grant (j : Journal) : (s.withJournal j).grant = s.grant := rfl
@[simp] theorem State.withJournal_watches (j : Journal) : (s.withJournal j).watches = s.watches := rfl
@[simp] theorem State.withJournal_time (j : Journal) : (s.withJournal j).time = s.time := rfl
@[simp] theorem State.withJournal_due (j : Journal) : (s.withJournal j).due = s.due := rfl
@[simp] theorem State.withJournal_sweep (j : Journal) : (s.withJournal j).sweep = s.sweep := rfl
@[simp] theorem State.withJournal_journal (j : Journal) : (s.withJournal j).journal = j := rfl
@[simp] theorem State.withJournal_stager (j : Journal) : (s.withJournal j).stager = s.stager := rfl
@[simp] theorem State.withJournal_store (j : Journal) : (s.withJournal j).store = s.store := rfl
@[simp] theorem State.withJournal_policy (j : Journal) : (s.withJournal j).policy = s.policy := rfl
@[simp] theorem State.withJournal_pending (j : Journal) : (s.withJournal j).pending = s.pending := rfl

/-! ### withJend -/

@[simp] theorem State.withJend_powered (b : Bool) : (s.withJend b).powered = s.powered := rfl
@[simp] theorem State.withJend_resetPin (b : Bool) : (s.withJend b).resetPin = s.resetPin := rfl
@[simp] theorem State.withJend_ports (b : Bool) : (s.withJend b).ports = s.ports := rfl
@[simp] theorem State.withJend_requests (b : Bool) : (s.withJend b).requests = s.requests := rfl
@[simp] theorem State.withJend_cat (b : Bool) : (s.withJend b).cat = s.cat := rfl
@[simp] theorem State.withJend_grant (b : Bool) : (s.withJend b).grant = s.grant := rfl
@[simp] theorem State.withJend_watches (b : Bool) : (s.withJend b).watches = s.watches := rfl
@[simp] theorem State.withJend_time (b : Bool) : (s.withJend b).time = s.time := rfl
@[simp] theorem State.withJend_due (b : Bool) : (s.withJend b).due = s.due := rfl
@[simp] theorem State.withJend_sweep (b : Bool) : (s.withJend b).sweep = s.sweep := rfl
@[simp] theorem State.withJend_journal (b : Bool) : (s.withJend b).journal = { s.journal with jendRecorder := b } := rfl
@[simp] theorem State.withJend_stager (b : Bool) : (s.withJend b).stager = s.stager := rfl
@[simp] theorem State.withJend_store (b : Bool) : (s.withJend b).store = s.store := rfl
@[simp] theorem State.withJend_policy (b : Bool) : (s.withJend b).policy = s.policy := rfl
@[simp] theorem State.withJend_pending (b : Bool) : (s.withJend b).pending = s.pending := rfl

/-! ### record -/

@[simp] theorem State.record_powered (b : RecordBody) : (s.record b).powered = s.powered := rfl
@[simp] theorem State.record_resetPin (b : RecordBody) : (s.record b).resetPin = s.resetPin := rfl
@[simp] theorem State.record_ports (b : RecordBody) : (s.record b).ports = s.ports := rfl
@[simp] theorem State.record_requests (b : RecordBody) : (s.record b).requests = s.requests := rfl
@[simp] theorem State.record_cat (b : RecordBody) : (s.record b).cat = s.cat := rfl
@[simp] theorem State.record_grant (b : RecordBody) : (s.record b).grant = s.grant := rfl
@[simp] theorem State.record_watches (b : RecordBody) : (s.record b).watches = s.watches := rfl
@[simp] theorem State.record_time (b : RecordBody) : (s.record b).time = s.time := rfl
@[simp] theorem State.record_due (b : RecordBody) : (s.record b).due = s.due := rfl
@[simp] theorem State.record_sweep (b : RecordBody) : (s.record b).sweep = s.sweep := rfl
@[simp] theorem State.record_journal (b : RecordBody) : (s.record b).journal = s.journal.write s.time.clock b := rfl
@[simp] theorem State.record_stager (b : RecordBody) : (s.record b).stager = s.stager := rfl
@[simp] theorem State.record_store (b : RecordBody) : (s.record b).store = s.store := rfl
@[simp] theorem State.record_policy (b : RecordBody) : (s.record b).policy = s.policy := rfl
@[simp] theorem State.record_pending (b : RecordBody) : (s.record b).pending = s.pending := rfl

/-! ### recordDroppable -/

@[simp] theorem State.recordDroppable_powered (b : RecordBody) : (s.recordDroppable b).powered = s.powered := rfl
@[simp] theorem State.recordDroppable_resetPin (b : RecordBody) : (s.recordDroppable b).resetPin = s.resetPin := rfl
@[simp] theorem State.recordDroppable_ports (b : RecordBody) : (s.recordDroppable b).ports = s.ports := rfl
@[simp] theorem State.recordDroppable_requests (b : RecordBody) : (s.recordDroppable b).requests = s.requests := rfl
@[simp] theorem State.recordDroppable_cat (b : RecordBody) : (s.recordDroppable b).cat = s.cat := rfl
@[simp] theorem State.recordDroppable_grant (b : RecordBody) : (s.recordDroppable b).grant = s.grant := rfl
@[simp] theorem State.recordDroppable_watches (b : RecordBody) : (s.recordDroppable b).watches = s.watches := rfl
@[simp] theorem State.recordDroppable_time (b : RecordBody) : (s.recordDroppable b).time = s.time := rfl
@[simp] theorem State.recordDroppable_due (b : RecordBody) : (s.recordDroppable b).due = s.due := rfl
@[simp] theorem State.recordDroppable_sweep (b : RecordBody) : (s.recordDroppable b).sweep = s.sweep := rfl
@[simp] theorem State.recordDroppable_journal (b : RecordBody) : (s.recordDroppable b).journal = s.journal.writeDroppable s.time.clock b := rfl
@[simp] theorem State.recordDroppable_stager (b : RecordBody) : (s.recordDroppable b).stager = s.stager := rfl
@[simp] theorem State.recordDroppable_store (b : RecordBody) : (s.recordDroppable b).store = s.store := rfl
@[simp] theorem State.recordDroppable_policy (b : RecordBody) : (s.recordDroppable b).policy = s.policy := rfl
@[simp] theorem State.recordDroppable_pending (b : RecordBody) : (s.recordDroppable b).pending = s.pending := rfl

/-! ### recordGrant -/

@[simp] theorem State.recordGrant_powered (b : RecordBody) : (s.recordGrant b).powered = s.powered := rfl
@[simp] theorem State.recordGrant_resetPin (b : RecordBody) : (s.recordGrant b).resetPin = s.resetPin := rfl
@[simp] theorem State.recordGrant_ports (b : RecordBody) : (s.recordGrant b).ports = s.ports := rfl
@[simp] theorem State.recordGrant_requests (b : RecordBody) : (s.recordGrant b).requests = s.requests := rfl
@[simp] theorem State.recordGrant_cat (b : RecordBody) : (s.recordGrant b).cat = s.cat := rfl
@[simp] theorem State.recordGrant_grant (b : RecordBody) : (s.recordGrant b).grant = s.grant := rfl
@[simp] theorem State.recordGrant_watches (b : RecordBody) : (s.recordGrant b).watches = s.watches := rfl
@[simp] theorem State.recordGrant_time (b : RecordBody) : (s.recordGrant b).time = s.time := rfl
@[simp] theorem State.recordGrant_due (b : RecordBody) : (s.recordGrant b).due = s.due := rfl
@[simp] theorem State.recordGrant_sweep (b : RecordBody) : (s.recordGrant b).sweep = s.sweep := rfl
@[simp] theorem State.recordGrant_journal (b : RecordBody) : (s.recordGrant b).journal = { s.journal.write s.time.clock b with rv := s.journal.rv + 1 } := rfl
@[simp] theorem State.recordGrant_stager (b : RecordBody) : (s.recordGrant b).stager = s.stager := rfl
@[simp] theorem State.recordGrant_store (b : RecordBody) : (s.recordGrant b).store = s.store := rfl
@[simp] theorem State.recordGrant_policy (b : RecordBody) : (s.recordGrant b).policy = s.policy := rfl
@[simp] theorem State.recordGrant_pending (b : RecordBody) : (s.recordGrant b).pending = s.pending := rfl

/-! ### recordRelease -/

@[simp] theorem State.recordRelease_powered (b : RecordBody) : (s.recordRelease b).powered = s.powered := rfl
@[simp] theorem State.recordRelease_resetPin (b : RecordBody) : (s.recordRelease b).resetPin = s.resetPin := rfl
@[simp] theorem State.recordRelease_ports (b : RecordBody) : (s.recordRelease b).ports = s.ports := rfl
@[simp] theorem State.recordRelease_requests (b : RecordBody) : (s.recordRelease b).requests = s.requests := rfl
@[simp] theorem State.recordRelease_cat (b : RecordBody) : (s.recordRelease b).cat = s.cat := rfl
@[simp] theorem State.recordRelease_grant (b : RecordBody) : (s.recordRelease b).grant = s.grant := rfl
@[simp] theorem State.recordRelease_watches (b : RecordBody) : (s.recordRelease b).watches = s.watches := rfl
@[simp] theorem State.recordRelease_time (b : RecordBody) : (s.recordRelease b).time = s.time := rfl
@[simp] theorem State.recordRelease_due (b : RecordBody) : (s.recordRelease b).due = s.due := rfl
@[simp] theorem State.recordRelease_sweep (b : RecordBody) : (s.recordRelease b).sweep = s.sweep := rfl
@[simp] theorem State.recordRelease_journal (b : RecordBody) : (s.recordRelease b).journal = { s.journal.write s.time.clock b with rv := s.journal.rv - 1 } := rfl
@[simp] theorem State.recordRelease_stager (b : RecordBody) : (s.recordRelease b).stager = s.stager := rfl
@[simp] theorem State.recordRelease_store (b : RecordBody) : (s.recordRelease b).store = s.store := rfl
@[simp] theorem State.recordRelease_policy (b : RecordBody) : (s.recordRelease b).policy = s.policy := rfl
@[simp] theorem State.recordRelease_pending (b : RecordBody) : (s.recordRelease b).pending = s.pending := rfl

/-! ### beginSave -/

@[simp] theorem State.beginSave_powered : (s.beginSave).powered = s.powered := rfl
@[simp] theorem State.beginSave_resetPin : (s.beginSave).resetPin = s.resetPin := rfl
@[simp] theorem State.beginSave_ports : (s.beginSave).ports = s.ports := rfl
@[simp] theorem State.beginSave_requests : (s.beginSave).requests = s.requests := rfl
@[simp] theorem State.beginSave_cat : (s.beginSave).cat = s.cat := rfl
@[simp] theorem State.beginSave_grant : (s.beginSave).grant = s.grant := rfl
@[simp] theorem State.beginSave_watches : (s.beginSave).watches = s.watches := rfl
@[simp] theorem State.beginSave_time : (s.beginSave).time = s.time := rfl
@[simp] theorem State.beginSave_due : (s.beginSave).due = s.due := rfl
@[simp] theorem State.beginSave_sweep : (s.beginSave).sweep = s.sweep := rfl
@[simp] theorem State.beginSave_journal : (s.beginSave).journal = s.journal := rfl
@[simp] theorem State.beginSave_stager : (s.beginSave).stager = s.stager := rfl
@[simp] theorem State.beginSave_store : (s.beginSave).store = { s.store with write := .saving s.savedNow, saveWaiting := false } := rfl
@[simp] theorem State.beginSave_policy : (s.beginSave).policy = s.policy := rfl
@[simp] theorem State.beginSave_pending : (s.beginSave).pending = s.pending := rfl

/-! ### beginImageWrite -/

@[simp] theorem State.beginImageWrite_powered : (s.beginImageWrite).powered = s.powered := rfl
@[simp] theorem State.beginImageWrite_resetPin : (s.beginImageWrite).resetPin = s.resetPin := rfl
@[simp] theorem State.beginImageWrite_ports : (s.beginImageWrite).ports = s.ports := rfl
@[simp] theorem State.beginImageWrite_requests : (s.beginImageWrite).requests = s.requests := rfl
@[simp] theorem State.beginImageWrite_cat : (s.beginImageWrite).cat = s.cat := rfl
@[simp] theorem State.beginImageWrite_grant : (s.beginImageWrite).grant = s.grant := rfl
@[simp] theorem State.beginImageWrite_watches : (s.beginImageWrite).watches = s.watches := rfl
@[simp] theorem State.beginImageWrite_time : (s.beginImageWrite).time = s.time := rfl
@[simp] theorem State.beginImageWrite_due : (s.beginImageWrite).due = s.due := rfl
@[simp] theorem State.beginImageWrite_sweep : (s.beginImageWrite).sweep = s.sweep := rfl
@[simp] theorem State.beginImageWrite_journal : (s.beginImageWrite).journal = s.journal := rfl
@[simp] theorem State.beginImageWrite_stager : (s.beginImageWrite).stager = s.stager := rfl
@[simp] theorem State.beginImageWrite_store : (s.beginImageWrite).store = { s.store with write := .imageWrite, image := none, imageWaiting := false } := rfl
@[simp] theorem State.beginImageWrite_policy : (s.beginImageWrite).policy = s.policy := rfl
@[simp] theorem State.beginImageWrite_pending : (s.beginImageWrite).pending = s.pending := rfl

/-! ### storeSaved -/

@[simp] theorem State.storeSaved_powered (v : SavedValues) : (s.storeSaved v).powered = s.powered := rfl
@[simp] theorem State.storeSaved_resetPin (v : SavedValues) : (s.storeSaved v).resetPin = s.resetPin := rfl
@[simp] theorem State.storeSaved_ports (v : SavedValues) : (s.storeSaved v).ports = s.ports := rfl
@[simp] theorem State.storeSaved_requests (v : SavedValues) : (s.storeSaved v).requests = s.requests := rfl
@[simp] theorem State.storeSaved_cat (v : SavedValues) : (s.storeSaved v).cat = s.cat := rfl
@[simp] theorem State.storeSaved_grant (v : SavedValues) : (s.storeSaved v).grant = s.grant := rfl
@[simp] theorem State.storeSaved_watches (v : SavedValues) : (s.storeSaved v).watches = s.watches := rfl
@[simp] theorem State.storeSaved_time (v : SavedValues) : (s.storeSaved v).time = s.time := rfl
@[simp] theorem State.storeSaved_due (v : SavedValues) : (s.storeSaved v).due = s.due := rfl
@[simp] theorem State.storeSaved_sweep (v : SavedValues) : (s.storeSaved v).sweep = s.sweep := rfl
@[simp] theorem State.storeSaved_journal (v : SavedValues) : (s.storeSaved v).journal = s.journal := rfl
@[simp] theorem State.storeSaved_stager (v : SavedValues) : (s.storeSaved v).stager = s.stager := rfl
@[simp] theorem State.storeSaved_store (v : SavedValues) : (s.storeSaved v).store = { s.store with saved := some v } := rfl
@[simp] theorem State.storeSaved_policy (v : SavedValues) : (s.storeSaved v).policy = s.policy := rfl
@[simp] theorem State.storeSaved_pending (v : SavedValues) : (s.storeSaved v).pending = s.pending := rfl

/-! ### storeImage -/

@[simp] theorem State.storeImage_powered (rs : List ImageRecord) : (s.storeImage rs).powered = s.powered := rfl
@[simp] theorem State.storeImage_resetPin (rs : List ImageRecord) : (s.storeImage rs).resetPin = s.resetPin := rfl
@[simp] theorem State.storeImage_ports (rs : List ImageRecord) : (s.storeImage rs).ports = s.ports := rfl
@[simp] theorem State.storeImage_requests (rs : List ImageRecord) : (s.storeImage rs).requests = s.requests := rfl
@[simp] theorem State.storeImage_cat (rs : List ImageRecord) : (s.storeImage rs).cat = s.cat := rfl
@[simp] theorem State.storeImage_grant (rs : List ImageRecord) : (s.storeImage rs).grant = s.grant := rfl
@[simp] theorem State.storeImage_watches (rs : List ImageRecord) : (s.storeImage rs).watches = s.watches := rfl
@[simp] theorem State.storeImage_time (rs : List ImageRecord) : (s.storeImage rs).time = s.time := rfl
@[simp] theorem State.storeImage_due (rs : List ImageRecord) : (s.storeImage rs).due = s.due := rfl
@[simp] theorem State.storeImage_sweep (rs : List ImageRecord) : (s.storeImage rs).sweep = s.sweep := rfl
@[simp] theorem State.storeImage_journal (rs : List ImageRecord) : (s.storeImage rs).journal = s.journal := rfl
@[simp] theorem State.storeImage_stager (rs : List ImageRecord) : (s.storeImage rs).stager = s.stager := rfl
@[simp] theorem State.storeImage_store (rs : List ImageRecord) : (s.storeImage rs).store = { s.store with image := some rs, write := .idle } := rfl
@[simp] theorem State.storeImage_policy (rs : List ImageRecord) : (s.storeImage rs).policy = s.policy := rfl
@[simp] theorem State.storeImage_pending (rs : List ImageRecord) : (s.storeImage rs).pending = s.pending := rfl

end Sys2Proof.Machine
end

