-- ==== Sys2Proof/Laws/Journal.lean ====
section
/-! SUPPORT. What the Journal's operations can do (chapter 10), each said once. -/

namespace Sys2Proof.Machine

/-! ### Writes (R171, R173) -/

@[simp] theorem Journal.write_rv (j : Journal) (m : Nat) (b : RecordBody) : (j.write m b).rv = j.rv := rfl
@[simp] theorem Journal.write_fifo (j : Journal) (m : Nat) (b : RecordBody) :
    (j.write m b).fifo = j.fifo ++ [j.record m b] := rfl
@[simp] theorem Journal.write_gap (j : Journal) (m : Nat) (b : RecordBody) : (j.write m b).gap = 0 := rfl
@[simp] theorem Journal.write_nextSeq (j : Journal) (m : Nat) (b : RecordBody) :
    (j.write m b).nextSeq = (j.nextSeq + 1) % (Config.maxWord + 1) := rfl
@[simp] theorem Journal.write_batch (j : Journal) (m : Nat) (b : RecordBody) : (j.write m b).batch = j.batch := rfl
@[simp] theorem Journal.write_remaining (j : Journal) (m : Nat) (b : RecordBody) :
    (j.write m b).remaining = j.remaining := rfl
@[simp] theorem Journal.write_bytePos (j : Journal) (m : Nat) (b : RecordBody) :
    (j.write m b).bytePos = j.bytePos := rfl
@[simp] theorem Journal.record_sequence (j : Journal) (m : Nat) (b : RecordBody) :
    (j.record m b).sequence = j.nextSeq := rfl

theorem Journal.room_iff (j : Journal) (n : Nat) :
    j.room n = true ↔ j.fifo.length + j.rv + n ≤ Config.journalPlaces := by
  simp [Journal.room]

/-- A droppable record is written where one place is free beyond the reservations, and otherwise counted (R173). -/
theorem Journal.writeDroppable_cases (j : Journal) (m : Nat) (b : RecordBody) :
    (j.fifo.length + j.rv + 1 ≤ Config.journalPlaces ∧ j.writeDroppable m b = j.write m b) ∨
    (Config.journalPlaces < j.fifo.length + j.rv + 1 ∧
      j.writeDroppable m b = { j with gap := min Config.maxGap (j.gap + 1) }) := by
  unfold Journal.writeDroppable
  by_cases h : j.room 1 = true
  · exact .inl ⟨(j.room_iff 1).mp h, by simp [h]⟩
  · refine .inr ⟨?_, by simp [h]⟩
    have := mt (j.room_iff 1).mpr h
    omega

/-! ### The batch (R176, R177, R179) -/

/-- An acknowledgement removes the oldest record; the batch goes on with the next or ends (R177, R179). -/
theorem Journal.acknowledge_cases (j : Journal) :
    ((j.remaining - 1 = 0 ∨ j.jend = true) ∧
      j.acknowledge = { j with fifo := j.fifo.tail, batch := .idle, remaining := 0, bytePos := 0 }) ∨
    (j.remaining - 1 ≠ 0 ∧ j.jend = false ∧
      j.acknowledge = ({ j with fifo := j.fifo.tail, remaining := j.remaining - 1 }).present) := by
  unfold Journal.acknowledge
  by_cases h : j.remaining - 1 = 0 ∨ j.jend = true
  · exact .inl ⟨h, by simp only [h, if_true]; rfl⟩
  · refine .inr ⟨fun e => h (.inl e), ?_, by simp only [h, if_false]⟩
    cases hj : j.jend
    · rfl
    · exact absurd (.inr hj) h

@[simp] theorem Journal.present_fifo (j : Journal) : j.present.fifo = j.fifo := rfl
@[simp] theorem Journal.present_rv (j : Journal) : j.present.rv = j.rv := rfl
@[simp] theorem Journal.present_gap (j : Journal) : j.present.gap = j.gap := rfl
@[simp] theorem Journal.present_nextSeq (j : Journal) : j.present.nextSeq = j.nextSeq := rfl
@[simp] theorem Journal.present_batch (j : Journal) : j.present.batch = j.batch := rfl
@[simp] theorem Journal.present_remaining (j : Journal) : j.present.remaining = j.remaining := rfl
@[simp] theorem Journal.present_bytePos (j : Journal) : j.present.bytePos = 0 := rfl

end Sys2Proof.Machine
end

