-- ==== Sys2Proof/Laws/Word.lean ====
section
/-! SUPPORT. The four-fold tables: what reading one gives after each way of building or changing it. -/

namespace Sys2Proof

variable {α β : Type}

@[simp] theorem Quad.get_ofFn (f : Fin 4 → α) (i : Fin 4) : (Quad.ofFn f).get i = f i := by
  fin_cases i <;> rfl

@[simp] theorem Quad.get_fill (a : α) (i : Fin 4) : (Quad.fill a).get i = a := by
  fin_cases i <;> rfl

@[simp] theorem Quad.get_map (f : α → β) (q : Quad α) (i : Fin 4) : (q.map f).get i = f (q.get i) := by
  fin_cases i <;> rfl

/-- A table with one place written reads as written there, and as before elsewhere. -/
theorem Quad.get_set (q : Quad α) (i j : Fin 4) (a : α) : (q.set i a).get j = if j = i then a else q.get j := by
  fin_cases i <;> fin_cases j <;> rfl

@[simp] theorem Quad.get_set_self (q : Quad α) (i : Fin 4) (a : α) : (q.set i a).get i = a := by
  simp [Quad.get_set]

theorem Quad.get_set_ne (q : Quad α) {i j : Fin 4} (h : j ≠ i) (a : α) : (q.set i a).get j = q.get j := by
  simp [Quad.get_set, h]

/-- A table with one place changed reads as changed there, and as before elsewhere. -/
theorem Quad.get_modify (q : Quad α) (i j : Fin 4) (f : α → α) :
    (q.modify i f).get j = if j = i then f (q.get j) else q.get j := by
  by_cases h : j = i
  · subst h; simp [Quad.modify]
  · simp [Quad.modify, Quad.get_set, h]

@[simp] theorem Quad.get_modify_self (q : Quad α) (i : Fin 4) (f : α → α) : (q.modify i f).get i = f (q.get i) := by
  simp [Quad.get_modify]

theorem Quad.get_modify_ne (q : Quad α) {i j : Fin 4} (h : j ≠ i) (f : α → α) : (q.modify i f).get j = q.get j := by
  simp [Quad.get_modify, h]

/-- Tables that read alike at every index are equal. -/
theorem Quad.ext_get {p q : Quad α} (h : ∀ i, p.get i = q.get i) : p = q := by
  obtain ⟨a, b, c, d⟩ := p
  obtain ⟨a', b', c', d'⟩ := q
  have h0 := h 0; have h1 := h 1; have h2 := h 2; have h3 := h 3
  simp only [Quad.get] at h0 h1 h2 h3
  subst h0 h1 h2 h3
  rfl

/-- The sum of a table is the sum of what it reads at the four indices. -/
theorem Quad.sum_eq (q : Quad Nat) : q.sum = q.get 0 + q.get 1 + q.get 2 + q.get 3 := rfl

theorem mem_fours (i : Fin 4) : i ∈ fours := by fin_cases i <;> decide

end Sys2Proof
end

