-- ==== Sys2Proof/Laws/Ports.lean ====
section
/-! SUPPORT. What a Port Interface's operations can do (chapter 11), each said once. -/

namespace Sys2Proof.Machine

/-! ### Attention and notices (R187, R191) -/

/-- A cause of attention leaves the port as it was, or starts a pulse. -/
theorem PortIf.attend_cases (p : PortIf) : p.attend = p ∨ p.attend = { p with pulse := true } := by
  unfold PortIf.attend; split <;> simp

/-- A cause of attention starts a pulse in PULSE mode outside PRST, and changes nothing else (R191, log 20). -/
theorem PortIf.attend_eq (p : PortIf) :
    p.attend = { p with pulse := p.pulse || (decide (p.settings.attn = .pulse) && !p.prst) } := by
  obtain ⟨⟩ := p
  rename_i settings _ prst _ _ _ _
  cases prst <;> by_cases h : settings.attn = .pulse <;> simp [PortIf.attend, h]

/-- A notice handed to a port is not stored, sets OVERFLOW, or is stored at the newest end where there is a place
(R187); nothing else of the port changes but the ATTN pulse. -/
theorem PortIf.hand_cases (p : PortIf) (x : Notice) :
    p.hand x = p ∨ p.hand x = { p with overflow := true } ∨
    (p.notices.length < Config.noticePlaces ∧
      ∃ b, p.hand x = { p with notices := p.notices ++ [x], pulse := b }) := by
  unfold PortIf.hand
  split
  · exact .inl rfl
  · split
    · exact .inl rfl
    · split
      · exact .inr (.inl rfl)
      · rename_i h
        refine .inr (.inr ⟨by omega, ?_⟩)
        rcases PortIf.attend_cases { p with notices := p.notices ++ [x] } with h' | h'
        · exact ⟨p.pulse, h'⟩
        · exact ⟨true, h'⟩

/-- A property that OVERFLOW, the pulse and a notice stored where there is a place keep is kept by any notices handed to
the port. -/
theorem PortIf.handAll_induct {P : PortIf → Prop} (hov : ∀ q, P q → P { q with overflow := true })
    (hst : ∀ q x b, q.notices.length < Config.noticePlaces → P q → P { q with notices := q.notices ++ [x], pulse := b })
    (xs : List Notice) : ∀ p : PortIf, P p → P (p.handAll xs) := by
  induction xs with
  | nil => exact fun p h => h
  | cons x xs ih =>
    intro p h
    refine ih _ ?_
    rcases p.hand_cases x with e | e | ⟨hl, b, e⟩
    · rw [e]; exact h
    · rw [e]; exact hov p h
    · rw [e]; exact hst p x b hl h

/-- Notices leave everything of a port but its list, OVERFLOW and the pulse. -/
theorem PortIf.handAll_frame (p : PortIf) (xs : List Notice) :
    p.handAll xs = { p with notices := (p.handAll xs).notices, overflow := (p.handAll xs).overflow
                            pulse := (p.handAll xs).pulse } := by
  refine PortIf.handAll_induct
    (P := fun q => q = { p with notices := q.notices, overflow := q.overflow, pulse := q.pulse }) ?_ ?_ xs p rfl
  · intro q h; rw [h]
  · intro q x b _ h; rw [h]

theorem PortIf.hand_eq_handAll (p : PortIf) (x : Notice) : p.hand x = p.handAll [x] := rfl

@[simp] theorem PortIf.handAll_state (p : PortIf) (xs : List Notice) : (p.handAll xs).state = p.state := by
  rw [PortIf.handAll_frame]
@[simp] theorem PortIf.handAll_response (p : PortIf) (xs : List Notice) : (p.handAll xs).response = p.response := by
  rw [PortIf.handAll_frame]
@[simp] theorem PortIf.handAll_overrun (p : PortIf) (xs : List Notice) : (p.handAll xs).overrun = p.overrun := by
  rw [PortIf.handAll_frame]
@[simp] theorem PortIf.handAll_settings (p : PortIf) (xs : List Notice) : (p.handAll xs).settings = p.settings := by
  rw [PortIf.handAll_frame]
@[simp] theorem PortIf.handAll_prst (p : PortIf) (xs : List Notice) : (p.handAll xs).prst = p.prst := by
  rw [PortIf.handAll_frame]
@[simp] theorem PortIf.handAll_strapPins (p : PortIf) (xs : List Notice) : (p.handAll xs).strapPins = p.strapPins := by
  rw [PortIf.handAll_frame]
@[simp] theorem PortIf.handAll_strapClass (p : PortIf) (xs : List Notice) :
    (p.handAll xs).strapClass = p.strapClass := by
  rw [PortIf.handAll_frame]
@[simp] theorem PortIf.handAll_effClass (p : PortIf) (xs : List Notice) : (p.handAll xs).effClass = p.effClass := by
  rw [PortIf.handAll_frame]
@[simp] theorem PortIf.handAll_sdo (p : PortIf) (xs : List Notice) : (p.handAll xs).sdo = p.sdo := by
  rw [PortIf.handAll_frame]

/-- A list of at most 16 notices stays one (R187). -/
theorem PortIf.handAll_notices_le (p : PortIf) (xs : List Notice) (h : p.notices.length ≤ Config.noticePlaces) :
    (p.handAll xs).notices.length ≤ Config.noticePlaces := by
  refine PortIf.handAll_induct (P := fun q => q.notices.length ≤ Config.noticePlaces) ?_ ?_ xs p h
  · exact fun q h => h
  · intro q x b hl _; simpa using hl

/-! ### Responses (R185) -/

/-- A response placed on a port (R185): the port is ANSWERED with it, and only the overrun mark and the pulse change
besides. -/
theorem PortIf.answer_cases (p : PortIf) (r : Reply) :
    ∃ b, p.answer r =
      { p with state := .answered, overrun := false, pulse := b
               response := some { status := r.status, overrun := p.overrun, payload := r.payload } } := by
  unfold PortIf.answer
  rcases PortIf.attend_cases (p.place r) with h | h
  · exact ⟨p.pulse, h⟩
  · exact ⟨true, h⟩

/-- A response changes the port of a current request alone (R185). -/
theorem State.respond_cases (s : State) (r : Request) (x : Reply) :
    (r.current = true ∧ s.respond r x = s.modifyPort r.port fun q => q.answer x) ∨
    (r.current = false ∧ s.respond r x = s) := by
  unfold State.respond
  cases r.current <;> simp [State.modifyPort]

end Sys2Proof.Machine
end

