-- ==== Sys2Proof/Laws/Grant.lean ====
section
/-! SUPPORT. What the Grant Engine's operations can do (chapters 2 to 4), each said once: charges, release, grant, the end
of a wait, and the queue pass. -/

namespace Sys2Proof.Machine

/-! ### Pools (R36, R37) -/

@[simp] theorem State.withPools_pool (s : State) (q : Quad PoolState) (k : Pool) : (s.withPools q).pool k = q.get k := rfl
@[simp] theorem State.applyCharges_pool (s : State) (p : Port) (q : Quad Nat) (k : Pool) :
    (s.applyCharges p q).pool k = (s.pool k).take p (q.get k) := by
  simp [State.applyCharges]
@[simp] theorem State.creditCharges_pool (s : State) (p : Port) (q : Quad Nat) (k : Pool) :
    (s.creditCharges p q).pool k = (s.pool k).give p (q.get k) := by
  simp [State.creditCharges]
@[simp] theorem State.setSlot_pool (s : State) (n : Nat) (c : CheckoutSlot) (k : Pool) :
    (s.setSlot n c).pool k = s.pool k := rfl
@[simp] theorem State.leaveQueue_pool (s : State) (e : WaitEntry) (k : Pool) : (s.leaveQueue e).pool k = s.pool k := rfl
@[simp] theorem State.updateEntry_pool (s : State) (n : Nat) (f : WaitEntry → WaitEntry) (k : Pool) :
    (s.updateEntry n f).pool k = s.pool k := rfl

/-! ### A grant (R52) and a release (R58) -/

@[simp] theorem State.grantInto_powered (s : State) (n : Nat) (g : GrantOrder) : (s.grantInto n g).powered = s.powered := by
  unfold State.grantInto; dsimp only; split <;> rfl
@[simp] theorem State.grantInto_resetPin (s : State) (n : Nat) (g : GrantOrder) : (s.grantInto n g).resetPin = s.resetPin := by
  unfold State.grantInto; dsimp only; split <;> rfl
@[simp] theorem State.grantInto_requests (s : State) (n : Nat) (g : GrantOrder) : (s.grantInto n g).requests = s.requests := by
  unfold State.grantInto; dsimp only; split <;> rfl
@[simp] theorem State.grantInto_cat (s : State) (n : Nat) (g : GrantOrder) : (s.grantInto n g).cat = s.cat := by
  unfold State.grantInto; dsimp only; split <;> rfl
@[simp] theorem State.grantInto_watches (s : State) (n : Nat) (g : GrantOrder) : (s.grantInto n g).watches = s.watches := by
  unfold State.grantInto; dsimp only; split <;> rfl
@[simp] theorem State.grantInto_time (s : State) (n : Nat) (g : GrantOrder) : (s.grantInto n g).time = s.time := by
  unfold State.grantInto; dsimp only; split <;> rfl
@[simp] theorem State.grantInto_due (s : State) (n : Nat) (g : GrantOrder) : (s.grantInto n g).due = s.due := by
  unfold State.grantInto; dsimp only; split <;> rfl
@[simp] theorem State.grantInto_sweep (s : State) (n : Nat) (g : GrantOrder) : (s.grantInto n g).sweep = s.sweep := by
  unfold State.grantInto; dsimp only; split <;> rfl
@[simp] theorem State.grantInto_stager (s : State) (n : Nat) (g : GrantOrder) : (s.grantInto n g).stager = s.stager := by
  unfold State.grantInto; dsimp only; split <;> rfl
@[simp] theorem State.grantInto_store (s : State) (n : Nat) (g : GrantOrder) : (s.grantInto n g).store = s.store := by
  unfold State.grantInto; dsimp only; split <;> rfl
@[simp] theorem State.grantInto_policy (s : State) (n : Nat) (g : GrantOrder) : (s.grantInto n g).policy = s.policy := by
  unfold State.grantInto; dsimp only; split <;> rfl
@[simp] theorem State.grantInto_pending (s : State) (n : Nat) (g : GrantOrder) : (s.grantInto n g).pending = s.pending := by
  unfold State.grantInto; dsimp only; split <;> rfl
@[simp] theorem State.grantInto_ports (s : State) (n : Nat) (g : GrantOrder) : (s.grantInto n g).ports = s.ports := by
  unfold State.grantInto; dsimp only; split <;> rfl

/-- The Grant Engine after a grant: the entry stands in its slot and the charges are applied (R36, R52). -/
theorem State.grantInto_grant (s : State) (n : Nat) (g : GrantOrder) :
    (s.grantInto n g).grant = ((s.applyCharges g.owner g.charges).setSlot n
      { generation := s.generationAt n, entry := some (s.grantEntry g) }).grant := by
  unfold State.grantInto; dsimp only; split <;> rfl

/-- The Journal after a grant: for a metered one a GRANT record and one reservation more (R52, R172). -/
theorem State.grantInto_journal (s : State) (n : Nat) (g : GrantOrder) :
    (s.grantInto n g).journal =
      if g.metered then { s.journal.write s.time.clock (s.grantBody n g) with rv := s.journal.rv + 1 } else s.journal := by
  unfold State.grantInto; dsimp only; split <;> rfl

@[simp] theorem State.release_powered (s : State) (n : Nat) (e : Checkout) (k : RecordKind) :
    (s.release n e k).powered = s.powered := by
  unfold State.release; dsimp only; split <;> rfl
@[simp] theorem State.release_resetPin (s : State) (n : Nat) (e : Checkout) (k : RecordKind) :
    (s.release n e k).resetPin = s.resetPin := by
  unfold State.release; dsimp only; split <;> rfl
@[simp] theorem State.release_requests (s : State) (n : Nat) (e : Checkout) (k : RecordKind) :
    (s.release n e k).requests = s.requests := by
  unfold State.release; dsimp only; split <;> rfl
@[simp] theorem State.release_cat (s : State) (n : Nat) (e : Checkout) (k : RecordKind) :
    (s.release n e k).cat = s.cat := by
  unfold State.release; dsimp only; split <;> rfl
@[simp] theorem State.release_watches (s : State) (n : Nat) (e : Checkout) (k : RecordKind) :
    (s.release n e k).watches = s.watches := by
  unfold State.release; dsimp only; split <;> rfl
@[simp] theorem State.release_time (s : State) (n : Nat) (e : Checkout) (k : RecordKind) :
    (s.release n e k).time = s.time := by
  unfold State.release; dsimp only; split <;> rfl
@[simp] theorem State.release_due (s : State) (n : Nat) (e : Checkout) (k : RecordKind) :
    (s.release n e k).due = s.due := by
  unfold State.release; dsimp only; split <;> rfl
@[simp] theorem State.release_sweep (s : State) (n : Nat) (e : Checkout) (k : RecordKind) :
    (s.release n e k).sweep = s.sweep := by
  unfold State.release; dsimp only; split <;> rfl
@[simp] theorem State.release_stager (s : State) (n : Nat) (e : Checkout) (k : RecordKind) :
    (s.release n e k).stager = s.stager := by
  unfold State.release; dsimp only; split <;> rfl
@[simp] theorem State.release_store (s : State) (n : Nat) (e : Checkout) (k : RecordKind) :
    (s.release n e k).store = s.store := by
  unfold State.release; dsimp only; split <;> rfl
@[simp] theorem State.release_policy (s : State) (n : Nat) (e : Checkout) (k : RecordKind) :
    (s.release n e k).policy = s.policy := by
  unfold State.release; dsimp only; split <;> rfl
@[simp] theorem State.release_pending (s : State) (n : Nat) (e : Checkout) (k : RecordKind) :
    (s.release n e k).pending = s.pending := by
  unfold State.release; dsimp only; split <;> rfl
@[simp] theorem State.release_ports (s : State) (n : Nat) (e : Checkout) (k : RecordKind) :
    (s.release n e k).ports = s.ports := by
  unfold State.release; dsimp only; split <;> rfl

/-- The Grant Engine after a release: the charges are credited, the slot is FREE under the next generation (R58). -/
theorem State.release_grant (s : State) (n : Nat) (e : Checkout) (k : RecordKind) :
    (s.release n e k).grant = ((s.creditCharges e.owner e.charges).setSlot n
      { generation := nextGeneration (s.generationAt n), entry := none }).grant := by
  unfold State.release; dsimp only; split <;> rfl

/-- The Journal after a release: a metered reservation becomes the release record (R58, R172). -/
theorem State.release_journal (s : State) (n : Nat) (e : Checkout) (k : RecordKind) :
    (s.release n e k).journal =
      if e.flags.metered then
        { s.journal.write s.time.clock (s.releaseBody n e k) with rv := s.journal.rv - 1 }
      else s.journal := by
  unfold State.release; dsimp only; split <;> rfl

/-! ### The end of a wait (R79) -/

@[simp] theorem State.endWait_powered (s : State) (c : Option WaitCause) (e : WaitEntry) :
    (s.endWait c e).powered = s.powered := by
  unfold State.endWait; cases c <;> rfl
@[simp] theorem State.endWait_resetPin (s : State) (c : Option WaitCause) (e : WaitEntry) :
    (s.endWait c e).resetPin = s.resetPin := by
  unfold State.endWait; cases c <;> rfl
@[simp] theorem State.endWait_requests (s : State) (c : Option WaitCause) (e : WaitEntry) :
    (s.endWait c e).requests = s.requests := by
  unfold State.endWait; cases c <;> rfl
@[simp] theorem State.endWait_cat (s : State) (c : Option WaitCause) (e : WaitEntry) :
    (s.endWait c e).cat = s.cat := by
  unfold State.endWait; cases c <;> rfl
@[simp] theorem State.endWait_watches (s : State) (c : Option WaitCause) (e : WaitEntry) :
    (s.endWait c e).watches = s.watches := by
  unfold State.endWait; cases c <;> rfl
@[simp] theorem State.endWait_time (s : State) (c : Option WaitCause) (e : WaitEntry) :
    (s.endWait c e).time = s.time := by
  unfold State.endWait; cases c <;> rfl
@[simp] theorem State.endWait_due (s : State) (c : Option WaitCause) (e : WaitEntry) :
    (s.endWait c e).due = s.due := by
  unfold State.endWait; cases c <;> rfl
@[simp] theorem State.endWait_sweep (s : State) (c : Option WaitCause) (e : WaitEntry) :
    (s.endWait c e).sweep = s.sweep := by
  unfold State.endWait; cases c <;> rfl
@[simp] theorem State.endWait_stager (s : State) (c : Option WaitCause) (e : WaitEntry) :
    (s.endWait c e).stager = s.stager := by
  unfold State.endWait; cases c <;> rfl
@[simp] theorem State.endWait_store (s : State) (c : Option WaitCause) (e : WaitEntry) :
    (s.endWait c e).store = s.store := by
  unfold State.endWait; cases c <;> rfl
@[simp] theorem State.endWait_policy (s : State) (c : Option WaitCause) (e : WaitEntry) :
    (s.endWait c e).policy = s.policy := by
  unfold State.endWait; cases c <;> rfl
@[simp] theorem State.endWait_pending (s : State) (c : Option WaitCause) (e : WaitEntry) :
    (s.endWait c e).pending = s.pending := by
  unfold State.endWait; cases c <;> rfl
@[simp] theorem State.endWait_grant (s : State) (c : Option WaitCause) (e : WaitEntry) :
    (s.endWait c e).grant = (s.leaveQueue e).grant := by
  unfold State.endWait; cases c <;> rfl
@[simp] theorem State.endWait_journal (s : State) (c : Option WaitCause) (e : WaitEntry) :
    (s.endWait c e).journal = s.journal.writeDroppable s.time.clock (s.waitEndBody e) := by
  unfold State.endWait; cases c <;> rfl
theorem State.endWait_ports (s : State) (c : Option WaitCause) (e : WaitEntry) :
    (s.endWait c e).ports = match c with
      | some x => s.ports.modify e.port fun q => q.hand (.waitEnded (s.ticket e) x)
      | none => s.ports := by
  unfold State.endWait; cases c <;> rfl

/-- What every removal of a list of entries keeps, if one removal keeps it. -/
theorem State.endWaits_induct {P : State → Prop} (c : Option WaitCause)
    (h : ∀ s e, P s → P (s.endWait c e)) (es : List WaitEntry) : ∀ s, P s → P (s.endWaits c es) := by
  induction es with
  | nil => exact fun s hs => hs
  | cons e es ih => exact fun s hs => ih _ (h s e hs)

/-! ### A grant from the queue (R76) -/

@[simp] theorem State.grantWaiting_powered (s : State) (n : Nat) (e : WaitEntry) :
    (s.grantWaiting n e).powered = s.powered := by
  simp [State.grantWaiting]
@[simp] theorem State.grantWaiting_resetPin (s : State) (n : Nat) (e : WaitEntry) :
    (s.grantWaiting n e).resetPin = s.resetPin := by
  simp [State.grantWaiting]
@[simp] theorem State.grantWaiting_requests (s : State) (n : Nat) (e : WaitEntry) :
    (s.grantWaiting n e).requests = s.requests := by
  simp [State.grantWaiting]
@[simp] theorem State.grantWaiting_cat (s : State) (n : Nat) (e : WaitEntry) :
    (s.grantWaiting n e).cat = s.cat := by
  simp [State.grantWaiting]
@[simp] theorem State.grantWaiting_watches (s : State) (n : Nat) (e : WaitEntry) :
    (s.grantWaiting n e).watches = s.watches := by
  simp [State.grantWaiting]
@[simp] theorem State.grantWaiting_time (s : State) (n : Nat) (e : WaitEntry) :
    (s.grantWaiting n e).time = s.time := by
  simp [State.grantWaiting]
@[simp] theorem State.grantWaiting_due (s : State) (n : Nat) (e : WaitEntry) :
    (s.grantWaiting n e).due = s.due := by
  simp [State.grantWaiting]
@[simp] theorem State.grantWaiting_sweep (s : State) (n : Nat) (e : WaitEntry) :
    (s.grantWaiting n e).sweep = s.sweep := by
  simp [State.grantWaiting]
@[simp] theorem State.grantWaiting_stager (s : State) (n : Nat) (e : WaitEntry) :
    (s.grantWaiting n e).stager = s.stager := by
  simp [State.grantWaiting]
@[simp] theorem State.grantWaiting_store (s : State) (n : Nat) (e : WaitEntry) :
    (s.grantWaiting n e).store = s.store := by
  simp [State.grantWaiting]
@[simp] theorem State.grantWaiting_policy (s : State) (n : Nat) (e : WaitEntry) :
    (s.grantWaiting n e).policy = s.policy := by
  simp [State.grantWaiting]
@[simp] theorem State.grantWaiting_pending (s : State) (n : Nat) (e : WaitEntry) :
    (s.grantWaiting n e).pending = s.pending := by
  simp [State.grantWaiting]
@[simp] theorem State.grantWaiting_journal (s : State) (n : Nat) (e : WaitEntry) :
    (s.grantWaiting n e).journal = (s.grantInto n (s.orderOf e)).journal := by
  simp [State.grantWaiting]
@[simp] theorem State.grantWaiting_grant (s : State) (n : Nat) (e : WaitEntry) :
    (s.grantWaiting n e).grant = ((s.grantInto n (s.orderOf e)).leaveQueue e).grant := by
  simp [State.grantWaiting]

/-! ### The queue pass (R73 to R77) -/

/-- A change that a pass may make to an entry that stays (R75, R77): its blocking flag and last reason alone. -/
def KeepsEntry (f : WaitEntry → WaitEntry) : Prop :=
  ∀ x, f x = { x with blocking := (f x).blocking, last := (f x).last }

/-- What a queue pass can do to the state (R74 to R77): entries fail, entries that stay are marked, and entries that pass
every test are granted. A property these three keep is kept by the pass. -/
theorem State.passOver_induct {P : State → Prop}
    (hfail : ∀ s e, s.recheckFails e = true → P s → P (s.endWait (some .failed) e))
    (hmark : ∀ s n f, KeepsEntry f → P s → P (s.updateEntry n f))
    (hgrant : ∀ s n e, s.recheckFails e = false → s.entryFailure e = none → s.freeSlot = some n →
      ((s.orderOf e).metered = true → s.journal.room 2 = true) → P s → P (s.grantWaiting n e))
    (es : List WaitEntry) : ∀ s blocked, P s → P (s.passOver blocked es).state := by
  induction es with
  | nil => exact fun s _ h => h
  | cons e es ih =>
    intro s blocked h
    unfold State.passOver
    split
    · exact ih _ _ h
    · split
      · rename_i hf
        exact ih _ _ (hfail s e hf h)
      · rename_i hf
        split
        · split
          · exact ih _ _ (hmark _ _ _ (fun x => rfl) h)
          · exact ih _ _ (hmark _ _ _ (fun x => rfl) h)
        · rename_i hn
          split
          · exact hmark _ _ _ (fun x => rfl) h
          · rename_i n hs
            split
            · exact ih _ _ h
            · rename_i hr
              refine ih _ _ (hgrant s n e (by simpa using hf) hn hs ?_ h)
              intro hm
              simpa [hm] using hr

/-- The same of a whole queue pass. -/
theorem State.queuePass_induct {P : State → Prop}
    (hfail : ∀ s e, s.recheckFails e = true → P s → P (s.endWait (some .failed) e))
    (hmark : ∀ s n f, KeepsEntry f → P s → P (s.updateEntry n f))
    (hgrant : ∀ s n e, s.recheckFails e = false → s.entryFailure e = none → s.freeSlot = some n →
      ((s.orderOf e).metered = true → s.journal.room 2 = true) → P s → P (s.grantWaiting n e))
    (s : State) (h : P s) : P s.queuePass :=
  State.passOver_induct hfail hmark hgrant _ _ _ h

@[simp] theorem State.queuePass_powered (s : State) : s.queuePass.powered = s.powered :=
  State.queuePass_induct (P := fun t => t.powered = s.powered) (fun t e _ h => by simpa using h)
    (fun t n f _ h => by simpa using h) (fun t n e _ _ _ _ h => by simpa using h) s rfl
@[simp] theorem State.queuePass_resetPin (s : State) : s.queuePass.resetPin = s.resetPin :=
  State.queuePass_induct (P := fun t => t.resetPin = s.resetPin) (fun t e _ h => by simpa using h)
    (fun t n f _ h => by simpa using h) (fun t n e _ _ _ _ h => by simpa using h) s rfl
@[simp] theorem State.queuePass_requests (s : State) : s.queuePass.requests = s.requests :=
  State.queuePass_induct (P := fun t => t.requests = s.requests) (fun t e _ h => by simpa using h)
    (fun t n f _ h => by simpa using h) (fun t n e _ _ _ _ h => by simpa using h) s rfl
@[simp] theorem State.queuePass_cat (s : State) : s.queuePass.cat = s.cat :=
  State.queuePass_induct (P := fun t => t.cat = s.cat) (fun t e _ h => by simpa using h)
    (fun t n f _ h => by simpa using h) (fun t n e _ _ _ _ h => by simpa using h) s rfl
@[simp] theorem State.queuePass_watches (s : State) : s.queuePass.watches = s.watches :=
  State.queuePass_induct (P := fun t => t.watches = s.watches) (fun t e _ h => by simpa using h)
    (fun t n f _ h => by simpa using h) (fun t n e _ _ _ _ h => by simpa using h) s rfl
@[simp] theorem State.queuePass_time (s : State) : s.queuePass.time = s.time :=
  State.queuePass_induct (P := fun t => t.time = s.time) (fun t e _ h => by simpa using h)
    (fun t n f _ h => by simpa using h) (fun t n e _ _ _ _ h => by simpa using h) s rfl
@[simp] theorem State.queuePass_due (s : State) : s.queuePass.due = s.due :=
  State.queuePass_induct (P := fun t => t.due = s.due) (fun t e _ h => by simpa using h)
    (fun t n f _ h => by simpa using h) (fun t n e _ _ _ _ h => by simpa using h) s rfl
@[simp] theorem State.queuePass_sweep (s : State) : s.queuePass.sweep = s.sweep :=
  State.queuePass_induct (P := fun t => t.sweep = s.sweep) (fun t e _ h => by simpa using h)
    (fun t n f _ h => by simpa using h) (fun t n e _ _ _ _ h => by simpa using h) s rfl
@[simp] theorem State.queuePass_stager (s : State) : s.queuePass.stager = s.stager :=
  State.queuePass_induct (P := fun t => t.stager = s.stager) (fun t e _ h => by simpa using h)
    (fun t n f _ h => by simpa using h) (fun t n e _ _ _ _ h => by simpa using h) s rfl
@[simp] theorem State.queuePass_store (s : State) : s.queuePass.store = s.store :=
  State.queuePass_induct (P := fun t => t.store = s.store) (fun t e _ h => by simpa using h)
    (fun t n f _ h => by simpa using h) (fun t n e _ _ _ _ h => by simpa using h) s rfl
@[simp] theorem State.queuePass_policy (s : State) : s.queuePass.policy = s.policy :=
  State.queuePass_induct (P := fun t => t.policy = s.policy) (fun t e _ h => by simpa using h)
    (fun t n f _ h => by simpa using h) (fun t n e _ _ _ _ h => by simpa using h) s rfl
@[simp] theorem State.queuePass_pending (s : State) : s.queuePass.pending = s.pending :=
  State.queuePass_induct (P := fun t => t.pending = s.pending) (fun t e _ h => by simpa using h)
    (fun t n f _ h => by simpa using h) (fun t n e _ _ _ _ h => by simpa using h) s rfl
@[simp] theorem State.endWaits_powered (s : State) (c : Option WaitCause) (es : List WaitEntry) :
    (s.endWaits c es).powered = s.powered :=
  State.endWaits_induct (P := fun t => t.powered = s.powered) c (fun t e h => by simpa using h) es s rfl
@[simp] theorem State.endWaits_resetPin (s : State) (c : Option WaitCause) (es : List WaitEntry) :
    (s.endWaits c es).resetPin = s.resetPin :=
  State.endWaits_induct (P := fun t => t.resetPin = s.resetPin) c (fun t e h => by simpa using h) es s rfl
@[simp] theorem State.endWaits_requests (s : State) (c : Option WaitCause) (es : List WaitEntry) :
    (s.endWaits c es).requests = s.requests :=
  State.endWaits_induct (P := fun t => t.requests = s.requests) c (fun t e h => by simpa using h) es s rfl
@[simp] theorem State.endWaits_cat (s : State) (c : Option WaitCause) (es : List WaitEntry) :
    (s.endWaits c es).cat = s.cat :=
  State.endWaits_induct (P := fun t => t.cat = s.cat) c (fun t e h => by simpa using h) es s rfl
@[simp] theorem State.endWaits_watches (s : State) (c : Option WaitCause) (es : List WaitEntry) :
    (s.endWaits c es).watches = s.watches :=
  State.endWaits_induct (P := fun t => t.watches = s.watches) c (fun t e h => by simpa using h) es s rfl
@[simp] theorem State.endWaits_time (s : State) (c : Option WaitCause) (es : List WaitEntry) :
    (s.endWaits c es).time = s.time :=
  State.endWaits_induct (P := fun t => t.time = s.time) c (fun t e h => by simpa using h) es s rfl
@[simp] theorem State.endWaits_due (s : State) (c : Option WaitCause) (es : List WaitEntry) :
    (s.endWaits c es).due = s.due :=
  State.endWaits_induct (P := fun t => t.due = s.due) c (fun t e h => by simpa using h) es s rfl
@[simp] theorem State.endWaits_sweep (s : State) (c : Option WaitCause) (es : List WaitEntry) :
    (s.endWaits c es).sweep = s.sweep :=
  State.endWaits_induct (P := fun t => t.sweep = s.sweep) c (fun t e h => by simpa using h) es s rfl
@[simp] theorem State.endWaits_stager (s : State) (c : Option WaitCause) (es : List WaitEntry) :
    (s.endWaits c es).stager = s.stager :=
  State.endWaits_induct (P := fun t => t.stager = s.stager) c (fun t e h => by simpa using h) es s rfl
@[simp] theorem State.endWaits_store (s : State) (c : Option WaitCause) (es : List WaitEntry) :
    (s.endWaits c es).store = s.store :=
  State.endWaits_induct (P := fun t => t.store = s.store) c (fun t e h => by simpa using h) es s rfl
@[simp] theorem State.endWaits_policy (s : State) (c : Option WaitCause) (es : List WaitEntry) :
    (s.endWaits c es).policy = s.policy :=
  State.endWaits_induct (P := fun t => t.policy = s.policy) c (fun t e h => by simpa using h) es s rfl
@[simp] theorem State.endWaits_pending (s : State) (c : Option WaitCause) (es : List WaitEntry) :
    (s.endWaits c es).pending = s.pending :=
  State.endWaits_induct (P := fun t => t.pending = s.pending) c (fun t e h => by simpa using h) es s rfl

/-- What a POLICY APPLY's pass and removals can do to the state (R74 to R77, R162): what a queue pass can, and removals.
A property these keep is kept by both. -/
theorem State.applyPass_induct {P : State → Prop}
    (hend : ∀ s e, P s → P (s.endWait (some .failed) e))
    (hmark : ∀ s n f, KeepsEntry f → P s → P (s.updateEntry n f))
    (hgrant : ∀ s n e, s.recheckFails e = false → s.entryFailure e = none → s.freeSlot = some n →
      ((s.orderOf e).metered = true → s.journal.room 2 = true) → P s → P (s.grantWaiting n e))
    (s : State) (h : P s) : P s.applyPass :=
  State.endWaits_induct _ hend _ _ (State.queuePass_induct (fun s e _ => hend s e) hmark hgrant s h)

/-- Where the pass visits every entry, a POLICY APPLY removes none behind it. -/
theorem State.applyPass_of_unvisited (s : State) (h : s.pass.unvisited = []) : s.applyPass = s.queuePass := by
  simp [State.applyPass, PassResult.failing, h, State.endWaits]

@[simp] theorem State.applyPass_powered (s : State) : s.applyPass.powered = s.powered := by simp [State.applyPass]
@[simp] theorem State.applyPass_resetPin (s : State) : s.applyPass.resetPin = s.resetPin := by simp [State.applyPass]
@[simp] theorem State.applyPass_requests (s : State) : s.applyPass.requests = s.requests := by simp [State.applyPass]
@[simp] theorem State.applyPass_cat (s : State) : s.applyPass.cat = s.cat := by simp [State.applyPass]
@[simp] theorem State.applyPass_watches (s : State) : s.applyPass.watches = s.watches := by simp [State.applyPass]
@[simp] theorem State.applyPass_time (s : State) : s.applyPass.time = s.time := by simp [State.applyPass]
@[simp] theorem State.applyPass_due (s : State) : s.applyPass.due = s.due := by simp [State.applyPass]
@[simp] theorem State.applyPass_sweep (s : State) : s.applyPass.sweep = s.sweep := by simp [State.applyPass]
@[simp] theorem State.applyPass_stager (s : State) : s.applyPass.stager = s.stager := by simp [State.applyPass]
@[simp] theorem State.applyPass_store (s : State) : s.applyPass.store = s.store := by simp [State.applyPass]
@[simp] theorem State.applyPass_policy (s : State) : s.applyPass.policy = s.policy := by simp [State.applyPass]
@[simp] theorem State.applyPass_pending (s : State) : s.applyPass.pending = s.pending := by simp [State.applyPass]

/-- A pass over an empty queue does nothing. -/
theorem State.queuePass_empty (s : State) (h : s.grant.queue = []) : s.queuePass = s := by
  unfold State.queuePass State.pass; rw [h]; rfl

/-- The pass of a POLICY APPLY over an empty queue does nothing. -/
theorem State.applyPass_empty (s : State) (h : s.grant.queue = []) : s.applyPass = s := by
  rw [State.applyPass_of_unvisited s (by unfold State.pass; rw [h]; rfl), State.queuePass_empty s h]

end Sys2Proof.Machine
end

