-- ==== Sys2Proof/Laws/Completion.lean ====
section
/-! SUPPORT. What is finished before a completion or a port reset, each said once: the window ends still to be taken
(R90), and the requests taken before it that are finished first (R1, R155, R169). -/

namespace Sys2Proof.Machine

/-! ### Window ends still to be taken (R90) -/

/-- A property that one application keeps is kept by any number of them. -/
theorem iterate_keeps {P : State → Prop} (f : State → State) (h : ∀ u, P u → P (f u)) (n : Nat) :
    ∀ s, P s → P (f^[n] s) := by
  induction n with
  | zero => exact fun s hs => hs
  | succ n ih => exact fun s hs => ih (f s) (h s hs)

/-- A property that each of four uses of an operation keeps is kept by all four. -/
theorem fours_keeps {P : State → Prop} (f : State → Fin 4 → State) (h : ∀ u k, P u → P (f u k)) (s : State)
    (hs : P s) : P (fours.foldl f s) := h _ _ (h _ _ (h _ _ (h _ _ hs)))

/-- What every receiver keeps as it takes one window end, the taking of all that are still due keeps. -/
theorem State.takeDue_induct {P : State → Prop} (hs : ∀ u : State, P u → P u.sweepTakes)
    (hw : ∀ (u : State) (k : Pool), P u → P (u.watchTakes k)) (hg : ∀ u : State, P u → P u.grantTakes)
    (hp : ∀ (u : State) (p : Port), P u → P (u.portTakes p [])) (s : State) (h : P s) : P s.takeDue := by
  unfold State.takeDue
  refine fours_keeps _ (fun u p hu => iterate_keeps _ (fun v hv => hp v p hv) _ u hu) _ ?_
  refine iterate_keeps _ hg _ _ ?_
  refine fours_keeps _ (fun u k hu => iterate_keeps _ (fun v hv => hw v k hv) _ u hu) _ ?_
  exact iterate_keeps _ hs _ _ h

/-- With no window end still to be taken, nothing is. -/
theorem State.takeDue_of_zero (s : State) (h : s.due = WindowEnds.zero) : s.takeDue = s := by
  simp only [State.takeDue, h, WindowEnds.zero, Quad.fill, fours, List.foldl, Quad.get, Function.iterate_zero, id]

/-! ### Requests finished before an event (R155, R169) -/

/-- What the carrying out of a request to be finished keeps, the finishing of them all keeps. -/
theorem State.finish_induct {P : State → Prop} (due : Request → Bool)
    (h : ∀ (u : State) (r : Request), due r = true → P u → P (u.carryOut r.command r.port r (workOf r.command)))
    (s : State) (hs : P s) : P (s.finish due) := by
  unfold State.finish
  generalize s.requests = rs
  induction rs generalizing s with
  | nil => exact hs
  | cons r rs ih =>
    refine ih _ ?_
    show P (s.finishRequest due r)
    unfold State.finishRequest
    split
    · exact h s r (by assumption) hs
    · exact hs

/-- Requests of which none is to be finished leave the state as it is. -/
theorem State.finish_foldl_none (due : Request → Bool) (rs : List Request) (h : ∀ r ∈ rs, due r = false) (s : State) :
    rs.foldl (fun t r => t.finishRequest due r) s = s := by
  induction rs with
  | nil => rfl
  | cons r rs ih =>
    have e : s.finishRequest due r = s := by simp [State.finishRequest, h r (by simp)]
    rw [List.foldl_cons, e]
    exact ih fun x hx => h x (by simp [hx])

/-- Where no request is to be finished, nothing is. -/
theorem State.finish_none (s : State) (due : Request → Bool) (h : ∀ r ∈ s.requests, due r = false) :
    s.finish due = s := State.finish_foldl_none due _ h s

/-- The oldest request to be finished is carried out first, and the rest are finished in what it leaves, whose requests
are the others. -/
theorem State.finish_first (s u : State) (due : Request → Bool) (older younger : List Request) (r : Request)
    (hr : s.requests = older ++ r :: younger) (ho : ∀ x ∈ older, due x = false) (hd : due r = true)
    (hu : u = s.carryOut r.command r.port r (workOf r.command)) (hq : u.requests = older ++ younger) :
    s.finish due = u.finish due := by
  unfold State.finish
  rw [hr, hq, List.foldl_append, List.foldl_append, State.finish_foldl_none due older ho,
    State.finish_foldl_none due older ho, List.foldl_cons]
  simp only [State.finishRequest, hd, if_true, ← hu]

/-- A port that has passed on no staging command leaves none to finish. -/
theorem State.finishStaging_none (s : State) (p : Port)
    (h : ∀ r ∈ s.requests, r.port = p → isStaging r.command = false) : s.finishStaging p = s := by
  refine s.finish_none _ fun r hr => ?_
  by_cases e : r.port = p
  · simp [e, h r hr e]
  · simp [e]

/-- Requests that all outlast a completion leave none to finish. -/
theorem State.finishTaken_none (s : State) (h : ∀ r ∈ s.requests, outlasts r.command = true) : s.finishTaken = s :=
  s.finish_none _ fun r hr => by simp [h r hr]

/-! ### What a request is judged by (R1) -/

theorem State.basis_of_not_outlasts (s : State) (r : Request) (h : outlasts r.command = false) :
    s.basis r = s.activeBasis r.port := by simp [State.basis, h]
theorem State.basis_of_kept (s : State) (r : Request) (h : r.under = none) : s.basis r = s.activeBasis r.port := by
  simp [State.basis, h]
@[simp] theorem State.activeBasis_catalogue (s : State) (p : Port) : (s.activeBasis p).catalogue = s.cat := rfl
@[simp] theorem State.activeBasis_effClass (s : State) (p : Port) :
    (s.activeBasis p).effClass = (s.ports.get p).effClass := rfl
@[simp] theorem State.activeBasis_serving (s : State) (p : Port) : (s.activeBasis p).serving = s.serving := rfl

end Sys2Proof.Machine
end

