-- ==== Sys2Proof/Laws/Ops.lean ====
section
/-! SUPPORT. What the operations shared by several commands can do, said once for each: the store's writes, the term
clock, window ends, second ticks, and the values after reset. -/

namespace Sys2Proof.Machine

/-! ### The store (R103, R138) -/

/-- A save asked for begins in an idle controller and waits behind any write. -/
theorem State.askSave_cases (s : State) :
    (s.store.write = .idle ∧ s.askSave = s.beginSave) ∨
    (s.store.write ≠ .idle ∧ s.askSave = { s with store := { s.store with saveWaiting := true } }) := by
  unfold State.askSave
  split <;> simp_all

/-- An image write asked for begins in an idle controller, waits behind a save, and is not asked for twice. -/
theorem State.askImageWrite_cases (s : State) :
    (s.store.write = .idle ∧ s.askImageWrite = s.beginImageWrite) ∨
    ((∃ v, s.store.write = .saving v) ∧
      s.askImageWrite = { s with store := { s.store with imageWaiting := true } }) ∨
    (s.store.write = .imageWrite ∧ s.askImageWrite = s) := by
  unfold State.askImageWrite
  split <;> simp_all

/-- After a completed write a waiting image write goes before a waiting save. -/
theorem State.nextWrite_cases (s : State) :
    (s.store.imageWaiting = true ∧ s.nextWrite = s.beginImageWrite) ∨
    (s.store.imageWaiting = false ∧ s.store.saveWaiting = true ∧ s.nextWrite = s.beginSave) ∨
    (s.store.imageWaiting = false ∧ s.store.saveWaiting = false ∧
      s.nextWrite = { s with store := { s.store with write := .idle } }) := by
  unfold State.nextWrite
  split <;> (try split) <;> simp_all

/-- Asking for a save touches the store alone, and there neither area. -/
theorem State.askSave_frame (s : State) :
    { s.askSave with store := s.store } = s ∧ s.askSave.store.image = s.store.image ∧
    s.askSave.store.saved = s.store.saved ∧ s.askSave.store.imageWaiting = s.store.imageWaiting := by
  obtain ⟨-, h⟩ | ⟨-, h⟩ := s.askSave_cases <;> rw [h] <;> exact ⟨rfl, rfl, rfl, rfl⟩

/-! ### The term clock (R97, R102, R103) -/

/-- A value that is no change changes nothing; any other is stored with the term states and notices it gives, and a new
hour asks for a save. -/
theorem State.changeClock_cases (s : State) (clock : Nat) :
    (clock = s.time.clock ∧ s.changeClock clock = s) ∨
    (clock ≠ s.time.clock ∧ ∃ u : State,
      u = { s with
        time := { s.time with clock := clock }, cat := s.cat.atClock clock
        ports := s.ports.map fun q => q.handAll (termNotices s.cat.slots (s.cat.atClock clock).slots) } ∧
      (clock / 60 = s.time.clock / 60 → s.changeClock clock = u) ∧
      (clock / 60 ≠ s.time.clock / 60 → s.changeClock clock = u.askSave)) := by
  by_cases h : clock = s.time.clock
  · exact .inl ⟨h, if_pos h⟩
  · refine .inr ⟨h, _, rfl, fun hd => ?_, fun hd => ?_⟩
    · simp only [State.changeClock, h, hd, if_true, if_false]; rfl
    · simp only [State.changeClock, h, hd, if_false]; rfl

/-- The clock after a change is the value given. -/
theorem State.changeClock_clock (s : State) (clock : Nat) : (s.changeClock clock).time.clock = clock := by
  obtain ⟨h, e⟩ | ⟨-, u, hu, e1, e2⟩ := s.changeClock_cases clock
  · rw [e, h]
  · have hc : u.time.clock = clock := by rw [hu]
    by_cases hd : clock / 60 = s.time.clock / 60
    · rw [e1 hd, hc]
    · rw [e2 hd]
      exact (congrArg (·.time.clock) u.askSave_frame.1).trans hc

/-! ### Second ticks (R87, R88, R91, R156) -/

/-- The window timer counts the tick, and at the length in AUTO the window ends. -/
theorem State.countWindow_cases (s : State) :
    (s.time.mode = .auto ∧ min Config.maxWindowTimer (s.time.windowTimer + 1) = s.time.length ∧
      s.countWindow = s.produceWindowEnd) ∨
    (¬ (s.time.mode = .auto ∧ min Config.maxWindowTimer (s.time.windowTimer + 1) = s.time.length) ∧
      s.countWindow =
        { s with time := { s.time with windowTimer := min Config.maxWindowTimer (s.time.windowTimer + 1) } }) := by
  unfold State.countWindow
  by_cases h : s.time.mode = .auto ∧ min Config.maxWindowTimer (s.time.windowTimer + 1) = s.time.length
  · exact .inl ⟨h.1, h.2, if_pos h⟩
  · exact .inr ⟨h, if_neg h⟩

/-- The staging timer counts the tick in OPEN and COMPLETE, and the staging is discarded at 600. -/
theorem State.countStaging_cases (s : State) :
    (s.stager.open_ = false ∧ s.countStaging = s) ∨
    (s.stager.open_ = true ∧ s.stager.timer + 1 < Config.stagingSeconds ∧
      s.countStaging = { s with stager := { s.stager with timer := s.stager.timer + 1 } }) ∨
    (s.stager.open_ = true ∧ Config.stagingSeconds ≤ s.stager.timer + 1 ∧
      s.countStaging = { s with stager := Stager.initial }) := by
  unfold State.countStaging
  cases h : s.stager.open_
  · exact .inl ⟨rfl, rfl⟩
  · by_cases ht : s.stager.timer + 1 < Config.stagingSeconds
    · exact .inr (.inl ⟨rfl, ht, if_pos ht⟩)
    · exact .inr (.inr ⟨rfl, Nat.not_lt.mp ht, if_neg ht⟩)

/-- A second tick touches only what R88's holders and the clock's change reach. -/
theorem State.tick_frame (s : State) :
    { s.tick with
      time := s.time, due := s.due, cat := s.cat, store := s.store, ports := s.ports, stager := s.stager } = s := by
  have hw : ∀ u : State, { u.countWindow with time := u.time, due := u.due } = u := fun u => by
    obtain ⟨-, -, h⟩ | ⟨-, h⟩ := u.countWindow_cases
    · rw [h]; rfl
    · rw [h]
  have hc : ∀ (u : State) (c : Nat),
      { u.changeClock c with time := u.time, cat := u.cat, store := u.store, ports := u.ports } = u := fun u c => by
    obtain ⟨-, h⟩ | ⟨-, v, hv, h1, h2⟩ := u.changeClock_cases c
    · rw [h]
    · by_cases hd : c / 60 = u.time.clock / 60
      · rw [h1 hd, hv]
      · rw [h2 hd]
        obtain ⟨-, h⟩ | ⟨-, h⟩ := v.askSave_cases
        · rw [h, hv]; rfl
        · rw [h, hv]
  have hm : ∀ u : State,
      { u.countMinute with time := u.time, cat := u.cat, store := u.store, ports := u.ports } = u := fun u => by
    unfold State.countMinute
    split
    · rfl
    · exact congrArg (fun x : State => { x with time := u.time }) (hc { u with time := { u.time with minuteCount := 0 } } _)
  have hs : ∀ u : State, { u.countStaging with stager := u.stager } = u := fun u => by
    obtain ⟨-, h⟩ | ⟨-, -, h⟩ | ⟨-, -, h⟩ := u.countStaging_cases <;> rw [h]
  unfold State.tick
  generalize hu : ({ s with time := { s.time with prescaler := 0 } } : State) = u
  have e3 := hs u.countWindow.countMinute
  have e2 := hm u.countWindow
  have e1 := hw u
  have e0 : { u with time := s.time } = s := by rw [← hu]
  have h3 := congrArg (fun x : State => { x with
    time := s.time, due := s.due, cat := s.cat, store := s.store, ports := s.ports, stager := s.stager }) e3
  have h2 := congrArg (fun x : State => { x with
    time := s.time, due := s.due, cat := s.cat, store := s.store, ports := s.ports, stager := s.stager }) e2
  have h1 := congrArg (fun x : State => { x with
    time := s.time, due := s.due, cat := s.cat, store := s.store, ports := s.ports, stager := s.stager }) e1
  have h0 := congrArg (fun x : State => { x with
    time := s.time, due := s.due, cat := s.cat, store := s.store, ports := s.ports, stager := s.stager }) e0
  exact h3.trans (h2.trans (h1.trans h0))

/-! ### Reset (R18, R140, R157) -/

/-- A part just brought up runs, holds the store and values given, and keeps its queue of commands. -/
theorem State.bringUp_values (s : State) (store : Store) (v : SavedValues) (straps : Quad Straps) :
    (s.bringUp store v straps).running = true ∧ (s.bringUp store v straps).store = store ∧
    (s.bringUp store v straps).savedNow = v ∧ (s.bringUp store v straps).pending = s.pending ∧
    (s.bringUp store v straps).cat = loadCatalogue store.image v.clock := by
  refine ⟨rfl, rfl, ?_, rfl, rfl⟩
  have hc : ∀ c : Catalogue, (timebaseOf c v.clock).clock = v.clock := fun c => by
    unfold timebaseOf; split <;> rfl
  cases v
  exact congrArg (fun n => SavedValues.mk n _ _) (hc _)

/-- The release of RESET keeps the live values (R101, R133, R181). -/
theorem State.leaveReset_savedNow (s : State) : s.leaveReset.savedNow = s.savedNow :=
  (s.bringUp_values _ s.savedNow _).2.2.1

/-- Only an image write in progress costs the part its image at a loss of power (R157). -/
theorem Store.afterLoss_image (st : Store) :
    st.afterLoss.image = if st.write = .imageWrite then none else st.image := by
  unfold Store.afterLoss
  cases h : st.write <;> simp

end Sys2Proof.Machine
end

