-- ==== Sys2Proof/WellFormed.lean ====
section
/-! DEFINITION. Which commands are well formed: those whose slot operands name a slot the part has. -/

namespace Sys2Proof

/-- A slot operand is a number of the table it indexes: checkout slots 0..255 (R41), wait slots 0..31 (R69). A
transaction's byte count, its bytes and the order of notices are never malformed: the port answers any frame (R183). -/
def Instr.wellFormed (i : Instr) : Bool :=
  match i with
  | .sweepVisit slot => decide (slot < Config.checkoutSlots)
  | .reclaim slot => decide (slot < Config.checkoutSlots)
  | .waitExpiry slot => decide (slot < Config.waitSlots)
  | .powerOn _ | .powerLoss | .resetAssert | .resetRelease _ | .prstAssert _ | .prstRelease _
  | .requestFrame _ _ | .readTransaction _ _ _ | .attnPulseEnd _
  | .checkout _ | .returnCheckout _ | .returnTag _ | .releasePort _ | .queryCheckout _ | .heartbeat _
  | .cancelWait _ | .queryWait _ | .queryFeature _ | .queryPool _ | .timeAssert _ | .windowClose _
  | .stageBegin _ | .stageRecord _ | .stageFinish _ | .activate _ | .stageAbort _
  | .policyStage _ | .policyApply _ | .setCeiling _ | .setShare _
  | .journalStatus _ | .readNotice _ | .setNotice _ | .identify _
  | .secondTick | .minuteAdvance | .windowTimerExpiry | .wclkRisingEdge | .wclkLowSeen
  | .sweepWindowEnd | .grantEngineWindowEnd | .demandWatchWindowEnd _ | .portWindowEnd _ _
  | .stagingTimeout | .saveComplete | .imageWriteComplete _
  | .batchBegin _ | .recordAcknowledge _ | .jclkRisingEdge => true

end Sys2Proof
end

