-- ==== Sys2Proof/Laws/PerInstr.lean ====
section
/-! SUPPORT. The family IllFormed, constructor by constructor: a command that is not well formed is one of the three that
name a slot, with a slot number the part does not have (R41, R69). -/

namespace Sys2Proof.Laws.IllFormed

/-- A command that is not well formed names a checkout slot above 255 or a wait slot above 31. -/
def Statement (i : Instr) : Prop :=
  i.wellFormed = false → ∃ n, (i = .sweepVisit n ∧ 256 ≤ n) ∨ (i = .reclaim n ∧ 256 ≤ n) ∨ (i = .waitExpiry n ∧ 32 ≤ n)

theorem powerOn (straps : Quad Straps) : Statement (.powerOn straps) := fun h => nomatch h
theorem powerLoss : Statement .powerLoss := fun h => nomatch h
theorem resetAssert : Statement .resetAssert := fun h => nomatch h
theorem resetRelease (straps : Quad Straps) : Statement (.resetRelease straps) := fun h => nomatch h
theorem prstAssert (p : Port) : Statement (.prstAssert p) := fun h => nomatch h
theorem prstRelease (p : Port) : Statement (.prstRelease p) := fun h => nomatch h
theorem requestFrame (p : Port) (bytes : List Byte) : Statement (.requestFrame p bytes) := fun h => nomatch h
theorem readTransaction (p : Port) (n : Nat) (answered : Bool) : Statement (.readTransaction p n answered) := fun h => nomatch h
theorem attnPulseEnd (p : Port) : Statement (.attnPulseEnd p) := fun h => nomatch h
theorem checkout (p : Port) : Statement (.checkout p) := fun h => nomatch h
theorem returnCheckout (p : Port) : Statement (.returnCheckout p) := fun h => nomatch h
theorem returnTag (p : Port) : Statement (.returnTag p) := fun h => nomatch h
theorem releasePort (p : Port) : Statement (.releasePort p) := fun h => nomatch h
theorem queryCheckout (p : Port) : Statement (.queryCheckout p) := fun h => nomatch h
theorem heartbeat (p : Port) : Statement (.heartbeat p) := fun h => nomatch h
theorem cancelWait (p : Port) : Statement (.cancelWait p) := fun h => nomatch h
theorem queryWait (p : Port) : Statement (.queryWait p) := fun h => nomatch h
theorem queryFeature (p : Port) : Statement (.queryFeature p) := fun h => nomatch h
theorem queryPool (p : Port) : Statement (.queryPool p) := fun h => nomatch h
theorem timeAssert (p : Port) : Statement (.timeAssert p) := fun h => nomatch h
theorem windowClose (p : Port) : Statement (.windowClose p) := fun h => nomatch h
theorem stageBegin (p : Port) : Statement (.stageBegin p) := fun h => nomatch h
theorem stageRecord (p : Port) : Statement (.stageRecord p) := fun h => nomatch h
theorem stageFinish (p : Port) : Statement (.stageFinish p) := fun h => nomatch h
theorem activate (p : Port) : Statement (.activate p) := fun h => nomatch h
theorem stageAbort (p : Port) : Statement (.stageAbort p) := fun h => nomatch h
theorem policyStage (p : Port) : Statement (.policyStage p) := fun h => nomatch h
theorem policyApply (p : Port) : Statement (.policyApply p) := fun h => nomatch h
theorem setCeiling (p : Port) : Statement (.setCeiling p) := fun h => nomatch h
theorem setShare (p : Port) : Statement (.setShare p) := fun h => nomatch h
theorem journalStatus (p : Port) : Statement (.journalStatus p) := fun h => nomatch h
theorem readNotice (p : Port) : Statement (.readNotice p) := fun h => nomatch h
theorem setNotice (p : Port) : Statement (.setNotice p) := fun h => nomatch h
theorem identify (p : Port) : Statement (.identify p) := fun h => nomatch h
theorem secondTick : Statement .secondTick := fun h => nomatch h
theorem minuteAdvance : Statement .minuteAdvance := fun h => nomatch h
theorem windowTimerExpiry : Statement .windowTimerExpiry := fun h => nomatch h
theorem wclkRisingEdge : Statement .wclkRisingEdge := fun h => nomatch h
theorem wclkLowSeen : Statement .wclkLowSeen := fun h => nomatch h
theorem sweepWindowEnd : Statement .sweepWindowEnd := fun h => nomatch h
theorem sweepVisit (slot : Nat) : Statement (.sweepVisit slot) := by
  intro h
  exact ⟨slot, .inl ⟨rfl, Nat.not_lt.mp (of_decide_eq_false h)⟩⟩
theorem reclaim (slot : Nat) : Statement (.reclaim slot) := by
  intro h
  exact ⟨slot, .inr (.inl ⟨rfl, Nat.not_lt.mp (of_decide_eq_false h)⟩)⟩
theorem grantEngineWindowEnd : Statement .grantEngineWindowEnd := fun h => nomatch h
theorem waitExpiry (slot : Nat) : Statement (.waitExpiry slot) := by
  intro h
  exact ⟨slot, .inr (.inr ⟨rfl, Nat.not_lt.mp (of_decide_eq_false h)⟩)⟩
theorem demandWatchWindowEnd (k : Pool) : Statement (.demandWatchWindowEnd k) := fun h => nomatch h
theorem portWindowEnd (p : Port) (first : List Pool) : Statement (.portWindowEnd p first) := fun h => nomatch h
theorem stagingTimeout : Statement .stagingTimeout := fun h => nomatch h
theorem saveComplete : Statement .saveComplete := fun h => nomatch h
theorem imageWriteComplete (ahead : Quad Nat) : Statement (.imageWriteComplete ahead) := fun h => nomatch h
theorem batchBegin (jend : Bool) : Statement (.batchBegin jend) := fun h => nomatch h
theorem recordAcknowledge (jend : Bool) : Statement (.recordAcknowledge jend) := fun h => nomatch h
theorem jclkRisingEdge : Statement .jclkRisingEdge := fun h => nomatch h

end Sys2Proof.Laws.IllFormed
end

