-- ==== Sys2Proof/Laws/Serve.lean ====
section
/-! SUPPORT. How a command runs: the queue of commands, running, and the carrying out of a request, each said once. -/

namespace Sys2Proof.Machine

/-- A step takes the command at the front. -/
theorem step_front (s : State) (c : Instr) (rest : List Instr) (h : s.pending = c :: rest) :
    step s = exec c { s with pending := rest } := by
  unfold step; rw [h]

/-- An event has its effect in a running part and none otherwise. -/
theorem whenRunning_cases (s : State) (f : State → State) :
    (s.running = true ∧ whenRunning s f = .next (f s)) ∨ (s.running = false ∧ whenRunning s f = .next s) := by
  unfold whenRunning
  cases s.running <;> simp

/-- A request command in a running part carries out the oldest request of its port for it (R185); with no such request
or in a part that does not run it does nothing. -/
theorem serve_cases (c : Command) (p : Port) (s : State) (work : Request → State → State × Reply) :
    serve c p s work = .next s ∨
    ∃ r, s.running = true ∧ s.nextRequest c p = some r ∧
      serve c p s work =
        .next ((work r (s.dropRequest c p)).1.respond r (work r (s.dropRequest c p)).2) := by
  unfold serve
  rcases whenRunning_cases s (fun s =>
    match s.nextRequest c p with
    | none => s
    | some r => (work r (s.dropRequest c p)).1.respond r (work r (s.dropRequest c p)).2) with ⟨hr, h⟩ | ⟨_, h⟩
  · cases hn : s.nextRequest c p with
    | none => left; rw [hn] at h; exact h
    | some r => right; refine ⟨r, hr, rfl, ?_⟩; rw [hn] at h; exact h
  · exact .inl h

/-- What a request command answers, when its port has passed on such a request and the part runs. -/
theorem serve_eq (c : Command) (p : Port) (s : State) (work : Request → State → State × Reply) (r : Request)
    (hr : s.running = true) (hn : s.nextRequest c p = some r) :
    serve c p s work = .next ((work r (s.dropRequest c p)).1.respond r (work r (s.dropRequest c p)).2) := by
  unfold serve whenRunning
  simp only [hr, if_true, hn]
  rfl

/-- The oldest request of a port for a command is that port's, for that command. -/
theorem State.nextRequest_isFor (s : State) (c : Command) (p : Port) (r : Request) (h : s.nextRequest c p = some r) :
    r.command = c ∧ r.port = p := by
  have := List.find?_some h
  simpa [Request.isFor] using this

end Sys2Proof.Machine
end

