-- ==== Sys2Proof/Laws/Taken.lean ====
section
/-! SUPPORT. What no command's work does: it leaves supply, RESET, both queues of commands, and an image write in progress
as they are. So a request finished before a completion leaves the completion to come. -/

namespace Sys2Proof.Machine

/-- `t` has the supply, the RESET input, the requests and the waiting commands of `s`, and the image write that `s` has in
progress. -/
structure State.SameRun (s t : State) : Prop where
  powered : t.powered = s.powered
  resetPin : t.resetPin = s.resetPin
  requests : t.requests = s.requests
  pending : t.pending = s.pending
  imageWrite : s.store.write = .imageWrite → t.store.write = .imageWrite

theorem State.SameRun.refl (s : State) : s.SameRun s := ⟨rfl, rfl, rfl, rfl, id⟩

theorem State.SameRun.trans {s t u : State} (h : s.SameRun t) (h' : t.SameRun u) : s.SameRun u :=
  ⟨h'.powered.trans h.powered, h'.resetPin.trans h.resetPin, h'.requests.trans h.requests, h'.pending.trans h.pending,
    fun e => h'.imageWrite (h.imageWrite e)⟩

/-- With the store as it was, four fields are to be seen. -/
theorem State.SameRun.of_store {s t : State} (hp : t.powered = s.powered) (hr : t.resetPin = s.resetPin)
    (hq : t.requests = s.requests) (hw : t.pending = s.pending) (hs : t.store = s.store) : s.SameRun t :=
  ⟨hp, hr, hq, hw, fun e => by rw [hs]; exact e⟩

theorem State.release_sameRun (s : State) (n : Nat) (e : Checkout) (k : RecordKind) : s.SameRun (s.release n e k) :=
  .of_store (by simp) (by simp) (by simp) (by simp) (by simp)

theorem State.releaseSlot_sameRun (s : State) (k : RecordKind) (n : Nat) : s.SameRun (s.releaseSlot k n) := by
  unfold State.releaseSlot
  split
  · exact s.release_sameRun ..
  · exact .refl s

theorem State.queuePass_sameRun (s : State) : s.SameRun s.queuePass :=
  .of_store (by simp) (by simp) (by simp) (by simp) (by simp)

theorem State.applyPass_sameRun (s : State) : s.SameRun s.applyPass :=
  .of_store (by simp) (by simp) (by simp) (by simp) (by simp)

theorem State.SameRun.thenPass {s t : State} (h : s.SameRun t) : s.SameRun t.queuePass := h.trans t.queuePass_sameRun

theorem State.SameRun.thenApplyPass {s t : State} (h : s.SameRun t) : s.SameRun t.applyPass := h.trans t.applyPass_sameRun

theorem State.endWaits_sameRun (s : State) (c : Option WaitCause) (es : List WaitEntry) : s.SameRun (s.endWaits c es) :=
  .of_store (by simp) (by simp) (by simp) (by simp) (by simp)

theorem State.releaseMany_sameRun (s : State) (slots : List Nat) (es : List WaitEntry) :
    s.SameRun (s.releaseMany slots es) := by
  have h : ∀ (l : List Nat) (t : State), s.SameRun t → s.SameRun (l.foldl (State.releaseSlot · .returned) t) := by
    intro l
    induction l with
    | nil => exact fun t ht => ht
    | cons n l ih => exact fun t ht => ih _ (ht.trans (t.releaseSlot_sameRun ..))
  have h' := (h slots s (.refl s)).trans (State.endWaits_sameRun _ none es)
  unfold State.releaseMany
  simp only
  split
  · exact h'
  · exact h'.thenPass

theorem State.abandonStaging_sameRun (s : State) (p : Port) : s.SameRun (s.abandonStaging p) := by
  unfold State.abandonStaging
  split
  · exact .of_store rfl rfl rfl rfl rfl
  · exact .refl s

theorem State.noteStaging_sameRun (s : State) (p : Port) : s.SameRun (s.noteStaging p) := by
  unfold State.noteStaging
  split
  · exact .of_store rfl rfl rfl rfl rfl
  · exact .refl s

theorem State.beatAll_sameRun (b : Basis) (kept : Bool) (p : Port) :
    ∀ (hs : List Nat) (s : State), s.SameRun (s.beatAll b kept p hs).1
  | [], s => .refl s
  | h :: hs, s => by
    refine State.SameRun.trans (t := (s.beat b kept p h).1) ?_ (State.beatAll_sameRun b kept p hs _)
    unfold State.beat
    repeat' split
    all_goals first | exact .refl s | exact .of_store rfl rfl rfl rfl rfl

theorem State.askSave_sameRun (s : State) : s.SameRun s.askSave := by
  unfold State.askSave
  split <;> rename_i hw
  · exact ⟨rfl, rfl, rfl, rfl, fun h => by simp [hw] at h⟩
  · exact ⟨rfl, rfl, rfl, rfl, fun h => by simp [hw] at h⟩
  · exact ⟨rfl, rfl, rfl, rfl, fun h => hw⟩

theorem State.changeClock_sameRun (s : State) (n : Nat) : s.SameRun (s.changeClock n) := by
  unfold State.changeClock
  simp only
  have h (c : Catalogue) (xs : List Notice) : s.SameRun (({ s.withClock n with cat := c } : State).notifyAll xs) :=
    .of_store rfl rfl rfl rfl rfl
  repeat' split
  · exact .refl s
  · exact h _ _
  · exact (h _ _).trans (State.askSave_sameRun _)

theorem State.assertTime_sameRun (s : State) (p : Port) (v : Nat) : s.SameRun (s.assertTime p v) := by
  unfold State.assertTime
  simp only
  split
  · exact .refl s
  · exact (s.changeClock_sameRun _).trans (.of_store rfl rfl rfl rfl rfl)

theorem State.takeActivation_sameRun (s : State) : s.SameRun s.takeActivation := by
  unfold State.takeActivation State.askImageWrite
  split
  · exact ⟨rfl, rfl, rfl, rfl, fun _ => rfl⟩
  · exact ⟨rfl, rfl, rfl, rfl, id⟩
  · exact .of_store rfl rfl rfl rfl rfl

theorem State.refuse_sameRun (s : State) (c : Catalogue) (kept : Bool) (g : GrantOrder) (n : Nat) (q : QueueReason) :
    s.SameRun (s.refuse c kept g n q).1 := by
  unfold State.refuse
  simp only
  repeat' split
  all_goals exact .of_store rfl rfl rfl rfl rfl

theorem State.grantNow_sameRun (s : State) (n : Nat) (g : GrantOrder) : s.SameRun (s.grantNow n g).1 :=
  .of_store (by simp [State.grantNow]) (by simp [State.grantNow]) (by simp [State.grantNow]) (by simp [State.grantNow])
    (by simp [State.grantNow])

theorem State.setCeiling_sameRun (s : State) (q : CeilingRequest) : s.SameRun (s.setCeiling q) := by
  unfold State.setCeiling
  simp only
  repeat' split
  · exact .of_store rfl rfl rfl rfl rfl
  · exact State.SameRun.thenPass (.of_store rfl rfl rfl rfl rfl)
  · exact .of_store rfl rfl rfl rfl rfl

theorem State.cancel_sameRun (s : State) (c : Option WaitCause) (e : WaitEntry) : s.SameRun (s.cancel c e).1 := by
  have h : s.SameRun (s.endWait c e) := .of_store (by simp) (by simp) (by simp) (by simp) (by simp)
  unfold State.cancel
  simp only
  split
  · exact h.thenPass
  · exact h

/-- No command's work touches supply, RESET, the requests, the waiting commands or an image write in progress. -/
theorem workOf_sameRun (c : Command) (r : Request) (s : State) : s.SameRun (workOf c r s).1 := by
  cases c
  all_goals
    simp only [workOf, checkoutWork, returnWork, returnTagWork, releasePortWork, queryCheckoutWork, heartbeatWork,
      cancelWaitWork, queryWaitWork, queryFeatureWork, queryPoolWork, timeAssertWork, windowCloseWork, stageBeginWork,
      stageRecordWork, stageFinishWork, activateWork, stageAbortWork, policyStageWork, policyApplyWork, setCeilingWork,
      setShareWork, journalStatusWork, readNoticeWork, setNoticeWork, identifyWork, needsCatalogue, needsAdmin,
      needsTime, policyCommand, staging, State.judgeOrder, State.deny, State.offerRecord, State.verifyStaging]
    repeat' split
  all_goals first
    | exact .refl _
    | exact .of_store rfl rfl rfl rfl rfl
    | exact s.refuse_sameRun ..
    | exact s.grantNow_sameRun ..
    | exact (s.release_sameRun ..).thenPass
    | exact State.SameRun.thenPass ((s.release_sameRun ..).trans (.of_store rfl rfl rfl rfl rfl))
    | exact s.releaseMany_sameRun ..
    | exact (s.releaseMany_sameRun ..).trans (State.abandonStaging_sameRun _ _)
    | exact State.beatAll_sameRun ..
    | exact s.cancel_sameRun ..
    | exact s.assertTime_sameRun ..
    | exact s.noteStaging_sameRun ..
    | exact (s.noteStaging_sameRun _).trans (.of_store rfl rfl rfl rfl rfl)
    | exact (s.noteStaging_sameRun _).trans (State.takeActivation_sameRun _)
    | exact s.setCeiling_sameRun ..
    | exact State.SameRun.thenPass (.of_store rfl rfl rfl rfl rfl)
    | exact State.SameRun.thenApplyPass (.of_store rfl rfl rfl rfl rfl)

/-- Carrying a request out takes it from the requests and touches nothing else of the run. -/
theorem State.carryOut_sameRun (s : State) (c : Command) (p : Port) (r : Request) :
    (s.dropRequest c p).SameRun (s.carryOut c p r (workOf c)) := by
  refine (workOf_sameRun c r _).trans ?_
  rcases State.respond_cases (workOf c r (s.dropRequest c p)).1 r (workOf c r (s.dropRequest c p)).2 with
    ⟨_, e⟩ | ⟨_, e⟩
  · unfold State.carryOut
    simp only [e]
    exact .of_store rfl rfl rfl rfl rfl
  · unfold State.carryOut
    simp only [e]
    exact .refl _

/-- The oldest request to be finished is carried out first, as its own row would, and the rest are finished in what it
leaves. -/
theorem State.finish_oldest (s : State) (due : Request → Bool) (older younger : List Request) (r : Request)
    (hr : s.requests = older ++ r :: younger) (ho : ∀ x ∈ older, due x = false)
    (hd : ∀ x : Request, x.isFor r.command r.port = true → due x = true) :
    s.finish due = (s.carryOut r.command r.port r (workOf r.command)).finish due := by
  have hr' : r.isFor r.command r.port = true := by simp [Request.isFor]
  refine s.finish_first _ due older younger r hr ho (hd r hr') rfl ?_
  have he : ∀ x ∈ older, ¬ x.isFor r.command r.port = true := fun x hx h =>
    Bool.false_ne_true ((ho x hx).symm.trans (hd x h))
  rw [(s.carryOut_sameRun r.command r.port r).requests, State.dropRequest_requests, hr,
    List.eraseP_append_right _ he]
  simp [hr']

end Sys2Proof.Machine
end

