-- ==== Sys2Proof/Tests/Slice0.lean ====
section
/-! SUPPORT. Small tests of one step each, their expected values taken from the spec's worked examples (named in each
docstring) or worked out by hand from its rules, and for each statement with hypotheses a theorem that concrete states
and operands meet them. -/

namespace Sys2Proof.Tests

open Sys2Proof.Machine

set_option Elab.async false

/-! ### Well-formedness: each check refuses an ill-formed command -/

theorem test_sweepVisit_slot_checked :
    (Instr.sweepVisit 255).wellFormed = true ∧ (Instr.sweepVisit 256).wellFormed = false := by decide
theorem test_reclaim_slot_checked :
    (Instr.reclaim 255).wellFormed = true ∧ (Instr.reclaim 256).wellFormed = false := by decide
theorem test_waitExpiry_slot_checked :
    (Instr.waitExpiry 31).wellFormed = true ∧ (Instr.waitExpiry 32).wellFormed = false := by decide

/-- The opcode table gives bits to no row, so no word spells a command. -/
theorem test_no_word_spells_a_command : decodeTableWord 16 0x1234 = none := rfl

/-! ### States to test on -/

/-- The records of the worked example of chapter 2, but for the trailer: features 410, 411 and 520 with class scales of
20, bundle 2,101, and a metered feature 700 above the protect boundary. P3 has no privilege. -/
def records : List ImageRecord :=
  [ ⟨1, b4 41 ++ b4 900 ++ b1 2 ++ b1 0 ++ b1 3 ++ b1 40 ++ [1#8, 1#8, 1#8, 2#8] ++ b1 4⟩,
    ⟨2, [0#8, 0#8]⟩, ⟨2, [1#8, 3#8]⟩, ⟨2, [2#8, 0#8]⟩, ⟨2, [3#8, 1#8]⟩,
    ⟨3, b1 0 ++ b3 2000 ++ b3 100 ++ b1 1 ++ b3 500 ++ b1 4 ++ b1 2⟩,
    ⟨3, b1 1 ++ b3 500 ++ b3 0 ++ b1 0 ++ b3 1 ++ b1 1 ++ b1 1⟩,
    ⟨3, b1 2 ++ b3 50 ++ b3 0 ++ b1 1 ++ b3 1 ++ b1 1 ++ b1 1⟩,
    ⟨3, b1 3 ++ b3 0 ++ b3 0 ++ b1 0 ++ b3 1 ++ b1 1 ++ b1 1⟩,
    ⟨4, b1 12 ++ b2 410 ++ b1 0 ++ b1 40 ++ [20#8, 20#8, 20#8, 0#8] ++ b1 8 ++ b4 0 ++ b4 5000 ++ b2 60 ++ b1 6⟩,
    ⟨4, b1 13 ++ b2 411 ++ b1 0 ++ b1 7 ++ [20#8, 20#8, 20#8, 0#8] ++ b1 8 ++ b4 0 ++ b4 5000 ++ b2 60 ++ b1 6⟩,
    ⟨4, b1 20 ++ b2 520 ++ b1 1 ++ b1 3 ++ [20#8, 20#8, 20#8, 0#8] ++ b1 32 ++ b4 0 ++ b4 9000 ++ b2 0 ++ b1 4⟩,
    ⟨4, b1 40 ++ b2 700 ++ b1 2 ++ b1 5 ++ [16#8, 16#8, 16#8, 16#8] ++ b1 64 ++ b4 0 ++ b4 9000 ++ b2 0 ++ b1 1⟩,
    ⟨5, b1 3 ++ b2 2101 ++ b1 8 ++ [12#8, 1#8, 13#8, 1#8, 20#8, 4#8] ++
      [255#8, 0#8, 255#8, 0#8, 255#8, 0#8, 255#8, 0#8, 255#8, 0#8]⟩ ]

/-- The trailer of those records. -/
def trailer : ImageRecord := ⟨6#8, b1 records.length ++ b4 (recordsCrc records)⟩

/-- The catalogue of those records at minute 1,000. -/
def catalogue : Catalogue := catalogueOf records 1000 fun _ => SiteFlags.initial

/-- Straps with both pins low, and with both high. -/
def low : Straps := { pcl1 := false, pcl0 := false }
def high : Straps := { pcl1 := true, pcl0 := true }

/-- A part SERVING that image: every slot FREE, every pool empty. -/
def serving : State :=
  { State.reset with
    cat := catalogue
    store := { Store.factory with image := some records }
    time := { Timebase.initial 1000 with mode := .auto, length := 60 }
    grant := { GrantEngine.initial with pools := initialPools catalogue }
    ports := Quad.ofFn fun p => PortIf.initial false low 0 (effectiveClass catalogue.head 0 p) }

/-- A request of a port, current and taken under the active catalogue. -/
def req (p : Port) (c : Command) (payload : List Byte) : Request :=
  { port := p, command := c, payload := payload, current := true, under := none }

/-- The state in which a port has passed a request on and works on it. -/
def ask (s : State) (p : Port) (c : Command) (payload : List Byte) : State :=
  { s with requests := s.requests ++ [req p c payload]
           ports := s.ports.modify p fun q => { q with state := .working } }

/-- The records of a later image: pool 0 halved, feature 410 moved to slot 10 and feature 411 gone. -/
def laterRecords : List ImageRecord :=
  (records.take 5 ++ [⟨3, b1 0 ++ b3 1000 ++ b3 0 ++ b1 1 ++ b3 500 ++ b1 4 ++ b1 2⟩] ++ (records.take 9).drop 6) ++
    [⟨4, b1 10 ++ b2 410 ++ b1 0 ++ b1 40 ++ [20#8, 20#8, 20#8, 0#8] ++ b1 8 ++ b4 0 ++ b4 5000 ++ b2 60 ++ b1 6⟩] ++
    (records.take 13).drop 11

/-- The part of `serving` once that image has replaced its own. -/
def replaced : State :=
  { serving with
    cat := catalogueOf laterRecords 1000 fun _ => SiteFlags.initial
    grant := { serving.grant with
      pools := initialPools (catalogueOf laterRecords 1000 fun _ => SiteFlags.initial) } }

/-- A request taken under the first catalogue. -/
def reqOld (p : Port) (c : Command) (payload : List Byte) : Request :=
  { req p c payload with
    under := some { catalogue := catalogue, effClass := effectiveClass catalogue.head 0 p } }

/-- The state in which a port has passed on a request taken under the first catalogue. -/
def askOld (s : State) (p : Port) (c : Command) (payload : List Byte) : State :=
  { s with requests := s.requests ++ [reqOld p c payload]
           ports := s.ports.modify p fun q => { q with state := .working } }

/-- The state after a command (each answers a next state). -/
def after (i : Instr) (s : State) : State :=
  match exec i s with
  | .next t => t
  | .fault _ => s
  | .refused _ => s

/-- The response in a port's buffer after a command. -/
def reply (i : Instr) (s : State) (p : Port) : Option Response := ((after i s).ports.get p).response

/-- An OK response. -/
def okay (payload : List Byte) : Option Response := some { status := .ok, overrun := false, payload := payload }

/-- A response of a status, without payload. -/
def bare (st : Status) : Option Response := some { status := st, overrun := false, payload := [] }

/-- The pools 0 and 1 of chapter 2's example: in_use 1,700 and 100, and P2's reserve of 300 on pool 0. -/
def busyPools : Quad PoolState :=
  { initialPools catalogue with
    q0 := { (initialPools catalogue).q0 with
      inUse := 1700, held := ⟨1200, 380, 120, 0⟩, reserve := ⟨0, 0, 300, 0⟩ }
    q1 := { (initialPools catalogue).q1 with inUse := 100, held := ⟨60, 40, 0, 0⟩ } }

/-- The part of chapter 2's example, before P1 is judged. -/
def busy : State := { serving with grant := { serving.grant with pools := busyPools } }

/-- A checkout of one line of feature 410 and one of 520, as P2 holds it after chapter 2's grant. -/
def lines : List Line :=
  [{ index := some 12, code := 410, quantity := 3, pool := 0, cost := 150, orphan := false },
   { index := some 13, code := 411, quantity := 3, pool := 0, cost := 27, orphan := false },
   { index := some 20, code := 520, quantity := 12, pool := 1, cost := 45, orphan := false }]

/-- A checkout of a port with a job tag, metered or not. -/
def checkout (p : Port) (tag : Nat) (metered : Bool) : Checkout :=
  { owner := p, tag := tag, bundle := some { code := 2101, multiplier := 3 }, lines := lines, charges := ⟨155, 40, 0, 0⟩
    flags := { overdraft := false, grace := false, orphan := false, metered := metered }
    grantedMinute := 990, renewed := false, missed := 0 }

/-- The table with the slots given first and the rest FREE under generation 1. -/
def tableOf (xs : List CheckoutSlot) : List CheckoutSlot :=
  xs ++ List.replicate (256 - xs.length) { generation := 1, entry := none }

/-- A part in which P0 holds slot 0 and P2 slot 3 under generation 2 (handle 515), both metered, with pools and journal
to match. -/
def holding : State :=
  { serving with
    grant := { serving.grant with
      table := tableOf [⟨1, some (checkout 0 7 true)⟩, ⟨1, none⟩, ⟨1, none⟩, ⟨2, some (checkout 2 4410 true)⟩]
      pools := { initialPools catalogue with
        q0 := { (initialPools catalogue).q0 with inUse := 310, held := ⟨155, 0, 155, 0⟩ }
        q1 := { (initialPools catalogue).q1 with inUse := 80, held := ⟨40, 0, 40, 0⟩ } } }
    journal := { serving.journal with rv := 2 } }

/-- A waiting entry of a port for one seat of feature 410 (charge 50 on pool 0). -/
def waiter (slot : Nat) (p : Port) (blocking : Bool) (remaining : Nat) : WaitEntry :=
  { slot := slot, port := p, tag := 9, bundle := none
    lines := [{ index := some 12, code := 410, quantity := 1, pool := 0, cost := 50, orphan := false }]
    charges := ⟨50, 0, 0, 0⟩, blocking := blocking, remaining := remaining
    arrival := { reason := .noTokens, pool := some 0 }, last := { reason := .noTokens, pool := some 0 } }

/-- A part in which two entries wait for pool 0, which is full but for 10 tokens. -/
def queueing : State :=
  { holding with
    grant := { holding.grant with
      queue := [waiter 0 1 true 5, waiter 1 3 false 1]
      pools := { holding.grant.pools with q0 := { holding.grant.pools.q0 with ceiling := some 320 } } } }

/-- A part whose staging holds the whole image, trailer included, staged by P1. -/
def staged : State :=
  { State.reset with stager := { Stager.initial with state := .opened, port := some 1, area := records ++ [trailer] } }

/-- The same, verified. -/
def complete : State := { staged with stager := { staged.stager with state := .complete, summary := some (summaryOf staged.stager.area) } }

/-- The same, being written. -/
def writing : State :=
  { complete with
    stager := { complete.stager with state := .writing }
    store := { Store.factory with write := .imageWrite } }

/-- A part SERVING the image while the write of a second, like it, runs, with a reserve and two waiting entries. -/
def replacing : State :=
  { queueing with
    stager := { writing.stager with port := some 1 }
    store := { queueing.store with image := none, write := .imageWrite } }

/-- A journal record of a sequence number. -/
def logRecord (n : Nat) : JournalRecord :=
  { sequence := n, kind := .returned, port := 1, overdraft := false, grace := false, orphan := false, forced := false
    gap := 0, minute := 5, handle := 258, tag := 3, code := 410, charges := ⟨1, 2, 3, 4⟩ }

/-- Chapter 10's journal of six records, 994 to 999, with the batch limit 4. -/
def logged : State :=
  { serving with journal := { serving.journal with
      fifo := [logRecord 994, logRecord 995, logRecord 996, logRecord 997, logRecord 998, logRecord 999], nextSeq := 1000, rv := 3 } }

/-- The same with its batch running and the first record clocked out. -/
def draining : State :=
  { logged with journal := { logged.journal with batch := .running, remaining := 4, bytePos := 32 } }

/-- A window end waits for every receiver. -/
def ended (s : State) : State :=
  { s with due := { sweep := 1, grant := 1, demand := Quad.fill 1, port := Quad.fill 1 } }

/-! ### Bytes and checks -/

/-- The check value of R184 and that of R148, of the nine bytes 0x31 to 0x39. -/
theorem test_crc_check_values :
    crc8 [0x31#8, 0x32#8, 0x33#8, 0x34#8, 0x35#8, 0x36#8, 0x37#8, 0x38#8, 0x39#8] = 0xF4#8 ∧
    crc32 [0x31#8, 0x32#8, 0x33#8, 0x34#8, 0x35#8, 0x36#8, 0x37#8, 0x38#8, 0x39#8] = 0xCBF43926#32 := by
  decide +kernel

/-! ### Supply and RESET (R18, R140, R157) -/

theorem test_powerOn_loads_image :
    (after (.powerOn ⟨high, low, low, low⟩) serving).serving = true ∧
    ((after (.powerOn ⟨high, low, low, low⟩) serving).ports.get 0).strapClass = 3 ∧
    (after (.powerOn ⟨high, low, low, low⟩) serving).time.clock = 0 := by decide +kernel

/-- R157's last row: a loss during an image write leaves the image area INVALID. -/
theorem test_powerLoss_in_image_write : (after .powerLoss writing).store.image = none ∧
    (after .powerLoss writing).stager.state = .idle ∧ (after .powerLoss writing).powered = false := by decide +kernel

theorem test_resetAssert_discards_waiting :
    (after .resetAssert { serving with store := { serving.store with saveWaiting := true } }).store.saveWaiting = false :=
  by decide +kernel

/-- R140: a release during a write takes effect at its completion. -/
theorem test_resetRelease_waits_for_write :
    (after (.resetRelease (Quad.fill low)) { writing with resetPin := .asserted }).resetPin = .releasing ∧
    (after (.imageWriteComplete ⟨0, 0, 0, 0⟩)
      (after (.resetRelease (Quad.fill low)) { writing with resetPin := .asserted })).serving = true := by decide +kernel

/-! ### Port events (R183 to R186, R191) -/

theorem test_prstAssert_empties_port :
    ((after (.prstAssert 1) (ask queueing 1 .identify [])).ports.get 1).state = .idle ∧
    (after (.prstAssert 1) (ask queueing 1 .identify [])).requests.map (·.current) = [false] ∧
    ((after (.prstAssert 1) queueing).grant.queue.map (·.port)) = [3] := by decide +kernel

/-- R155: an ACTIVATE that the port has passed on has moved the staging to WRITING, and the write goes on. -/
theorem test_prstAssert_after_activate :
    (after (.prstAssert 1) (ask complete 1 .activate (b4 41))).stager.state = .writing ∧
    (after (.prstAssert 1) (ask complete 1 .activate (b4 41))).store.write = .imageWrite ∧
    (after (.prstAssert 1) complete).stager.state = .idle := by decide +kernel

theorem test_prstRelease : ((after (.prstRelease 2) (after (.prstAssert 2) serving)).ports.get 2).prst = false := by
  decide +kernel

/-- An IDENTIFY frame: code 0x53, length 0, and their CRC-8 by R184. -/
theorem test_requestFrame_identify :
    (after (.requestFrame 2 [0x01#8, 0x53#8, 0x00#8, crc8 [0x53#8, 0x00#8]]) serving).requests = [req 2 .identify []] :=
  by decide +kernel

/-- R183: a frame cut short is a frame error; R185: 0xFF names no command. -/
theorem test_requestFrame_errors :
    reply (.requestFrame 2 [0x01#8, 0x53#8]) serving 2 = bare .frameError ∧
    reply (.requestFrame 2 [0x01#8, 0xFF#8, 0x00#8, crc8 [0xFF#8, 0x00#8]]) serving 2 = bare .badRequest := by
  decide +kernel

/-- R183: a read past the frame gives 0xFF, and a whole frame empties the buffer. -/
theorem test_readTransaction_empties_buffer :
    ((after (.readTransaction 2 4 true) (after (.requestFrame 2 [0x01#8]) serving)).ports.get 2).sdo =
      [0xFF#8, 0x06#8, 0x00#8, crc8 [0x06#8, 0x00#8], 0xFF#8] ∧
    ((after (.readTransaction 2 2 true) (after (.requestFrame 2 [0x01#8]) serving)).ports.get 2).state = .answered ∧
    ((after (.readTransaction 2 3 true) (after (.requestFrame 2 [0x01#8]) serving)).ports.get 2).state = .idle := by
  decide +kernel

theorem test_attnPulseEnd :
    ((after (.attnPulseEnd 0)
      { serving with ports := serving.ports.modify 0 fun q => { q with pulse := true } }).ports.get 0).pulse = false := by
  decide +kernel

/-! ### CHECKOUT (chapters 2 and 3) -/

/-- Chapter 2's bundle request: bundle form, job tag 77, wait timeout 0, code 2,101, multiplier 3. -/
def bundleAsk : List Byte := [0#8] ++ b4 77 ++ [0#8] ++ b2 2101 ++ [3#8]

/-- Chapter 2: P1 is refused RESERVED_ELSEWHERE on pool 0 with charges 155 and 40, and pool 0 is handed 177. -/
theorem test_checkout_reserved_elsewhere :
    reply (.checkout 1) (ask busy 1 .checkout bundleAsk) 1 =
      some { status := .denied, overrun := false
             payload := [8#8, 0#8, 0#8] ++ b3 155 ++ b3 40 ++ b3 0 ++ b3 0 } ∧
    ((after (.checkout 1) (ask busy 1 .checkout bundleAsk)).watches.map (·.tally)) = ⟨177, 0, 0, 0⟩ := by decide +kernel

/-- Chapter 2: P2 is granted, handle 256, with pool 0 at 1,855 and P2's holdings 275 and 40. -/
theorem test_checkout_granted :
    reply (.checkout 2) (ask busy 2 .checkout bundleAsk) 2 =
      okay (b2 256 ++ [0#8] ++ b3 155 ++ b3 40 ++ b3 0 ++ b3 0) ∧
    ((after (.checkout 2) (ask busy 2 .checkout bundleAsk)).pool 0).inUse = 1855 ∧
    ((after (.checkout 2) (ask busy 2 .checkout bundleAsk)).pool 0).held = ⟨1200, 380, 275, 0⟩ := by decide +kernel

/-! ### Returns, heartbeats and waits (chapters 3, 4, 6) -/

/-- R60: P0 (ADMIN) returns P2's handle 515; P2 is told, and the slot is FREE under generation 3. -/
theorem test_return_forced :
    reply (.returnCheckout 0) (ask holding 0 .returnCheckout (b2 515)) 0 =
      okay (b2 515 ++ [2#8] ++ b4 4410 ++ b3 155 ++ b3 40 ++ b3 0 ++ b3 0 ++ [8#8]) ∧
    ((after (.returnCheckout 0) (ask holding 0 .returnCheckout (b2 515))).ports.get 2).notices = [.forced 515 4410 0] ∧
    (after (.returnCheckout 0) (ask holding 0 .returnCheckout (b2 515))).generationAt 3 = 3 := by decide +kernel

/-- Chapter 3's stale handle: a return of a slot's earlier generation is NOT_FOUND; another port's handle needs ADMIN. -/
theorem test_return_refused :
    reply (.returnCheckout 2) (ask holding 2 .returnCheckout (b2 259)) 2 = bare .notFound ∧
    reply (.returnCheckout 3) (ask holding 3 .returnCheckout (b2 515)) 3 = bare .notPermitted := by decide +kernel

theorem test_returnTag_counts :
    reply (.returnTag 2) (ask holding 2 .returnTag (b4 4410)) 2 =
      okay (b2 1 ++ [0#8] ++ b3 155 ++ b3 40 ++ b3 0 ++ b3 0) ∧
    reply (.returnTag 2) (ask holding 2 .returnTag (b4 7)) 2 = okay (b2 0 ++ [0#8] ++ b3 0 ++ b3 0 ++ b3 0 ++ b3 0) := by
  decide +kernel

theorem test_releasePort_frees_all :
    reply (.releasePort 0) (ask holding 0 .releasePort []) 0 =
      okay (b2 1 ++ [0#8] ++ b3 155 ++ b3 40 ++ b3 0 ++ b3 0 ++ [0#8]) ∧
    (after (.releasePort 0) (ask holding 0 .releasePort [])).checkoutAt 0 = none := by decide +kernel

/-- R63, R193: handle, owner, tag, bundle code and multiplier, three lines, charges, flags, minute, renewed, missed. -/
theorem test_queryCheckout :
    reply (.queryCheckout 3) (ask holding 3 .queryCheckout (b2 515)) 3 =
      okay (b2 515 ++ [2#8] ++ b4 4410 ++ b2 2101 ++ [3#8] ++
        ([12#8] ++ b2 410 ++ [3#8, 0#8] ++ b2 150 ++ [0#8, 1#8]) ++
        ([13#8] ++ b2 411 ++ [3#8, 0#8] ++ b2 27 ++ [0#8, 1#8]) ++
        ([20#8] ++ b2 520 ++ [12#8, 1#8] ++ b2 45 ++ [0#8, 1#8]) ++
        b3 155 ++ b3 40 ++ b3 0 ++ b3 0 ++ [8#8] ++ b4 990 ++ [0#8, 0#8]) := by decide +kernel

/-- R106: P2's own handle is RENEWED (0), P0's is NOT_OWNER (2), a stale one is NOT_FOUND (1). -/
theorem test_heartbeat_results :
    reply (.heartbeat 2) (ask holding 2 .heartbeat ([3#8] ++ b2 515 ++ b2 256 ++ b2 259)) 2 =
      okay ([3#8, 0#8, 2#8, 1#8, 1#8, 0#8] ++ b2 60 ++ b2 0) ∧
    ((after (.heartbeat 2) (ask holding 2 .heartbeat ([3#8] ++ b2 515 ++ b2 256 ++ b2 259))).checkoutAt 3).map
      (·.renewed) = some true := by decide +kernel

/-- R80: ticket 32,800 is wait slot 0 under generation 1; its own port's cancel raises no notice. -/
theorem test_cancelWait_own :
    reply (.cancelWait 1) (ask queueing 1 .cancelWait (b2 32800)) 1 =
      okay (b2 32800 ++ [1#8] ++ b4 9 ++ [5#8, 1#8]) ∧
    (after (.cancelWait 1) (ask queueing 1 .cancelWait (b2 32800))).waitGeneration 0 = 2 ∧
    ((after (.cancelWait 1) (ask queueing 1 .cancelWait (b2 32800))).ports.get 1).notices = [] := by decide +kernel

theorem test_queryWait :
    reply (.queryWait 0) (ask queueing 0 .queryWait (b2 32801)) 0 =
      okay (b2 32801 ++ [3#8] ++ b4 9 ++ b2 0 ++ [0#8] ++ ([12#8] ++ b2 410 ++ [1#8, 0#8] ++ b2 50 ++ [1#8]) ++
        b3 50 ++ b3 0 ++ b3 0 ++ b3 0 ++ [0#8, 1#8] ++ [9#8, 0#8, 9#8, 0#8] ++ [1#8]) := by decide +kernel

/-! ### Queries (chapters 1 and 2) -/

/-- Chapter 1's walk: FROM_SLOT 21 finds slot 40, which is locked; FROM_SLOT 41 finds none; FROM_SLOT 64 is malformed. -/
theorem test_queryFeature_walk :
    ((reply (.queryFeature 0) (ask serving 0 .queryFeature [1#8, 21#8]) 0).map fun x => (x.payload.head?, x.payload.getLast?)) =
      some (some 40#8, some 1#8) ∧
    reply (.queryFeature 0) (ask serving 0 .queryFeature [1#8, 41#8]) 0 = bare .notFound ∧
    reply (.queryFeature 0) (ask serving 0 .queryFeature [1#8, 64#8]) 0 = bare .badRequest := by decide +kernel

/-- Chapter 2, before P2 is granted: U for P1 on pool 0 is 180, and the room 2,000 − 1,700 − 180 = 120. -/
theorem test_queryPool_room :
    ((reply (.queryPool 1) (ask busy 1 .queryPool [0#8]) 1).map fun x => x.payload.drop 60) =
      some (b3 180 ++ b3 120 ++ b3 120) := by decide +kernel

/-! ### Time (chapter 5) -/

/-- Chapter 5's clamp: an assertion beyond 1,440 minutes moves the clock by 1,440, with clamped set. -/
theorem test_timeAssert_clamped :
    reply (.timeAssert 0) (ask serving 0 .timeAssert (b4 9000)) 0 = okay (b4 2440 ++ b4 9000 ++ [1#8]) ∧
    (after (.timeAssert 0) (ask serving 0 .timeAssert (b4 9000))).time.clock = 2440 := by decide +kernel

theorem test_timeAssert_held :
    reply (.timeAssert 0) (ask serving 0 .timeAssert (b4 999)) 0 =
      some { status := .timeHeld, overrun := false, payload := b4 1000 } := by decide +kernel

theorem test_windowClose_ends_window :
    reply (.windowClose 0) (ask { serving with time := { serving.time with windowTimer := 17 } } 0 .windowClose []) 0 =
      okay ([0#8] ++ b2 60 ++ b2 17 ++ b4 1000) ∧
    (after (.windowClose 0) (ask serving 0 .windowClose [])).due =
      { sweep := 1, grant := 1, demand := ⟨1, 1, 1, 1⟩, port := ⟨1, 1, 1, 1⟩ } := by decide +kernel

theorem test_secondTick_counts :
    (after .secondTick serving).time.windowTimer = 1 ∧ (after .secondTick serving).time.minuteCount = 1 := by
  decide +kernel

/-- Chapter 5: the minute advance that takes a feature into GRACE raises its TERM notice; here 410 and 411 end at 5,000. -/
theorem test_minuteAdvance_term_notice :
    ((after .minuteAdvance { serving with
      time := { serving.time with clock := 4999, minuteCount := 59 }
      cat := serving.cat.atClock 4999 }).ports.get 3).notices = [.term 410 .grace, .term 411 .grace] := by decide +kernel

theorem test_minuteAdvance_only_at_wrap : after .minuteAdvance serving = serving := by decide +kernel

theorem test_windowTimerExpiry :
    (after .windowTimerExpiry { serving with time := { serving.time with windowTimer := 59 } }).due.sweep = 1 ∧
    (after .windowTimerExpiry { serving with time := { serving.time with windowTimer := 59 } }).time.windowTimer = 0 := by
  decide +kernel

theorem test_stagingTimeout :
    (after .stagingTimeout { staged with stager := { staged.stager with timer := 599 } }).stager = Stager.initial := by
  decide +kernel

/-- R94: one strobe counts once, and only after WCLK has been seen low. -/
theorem test_wclk_strobe :
    (after .wclkRisingEdge (after .wclkLowSeen { serving with time := { serving.time with mode := .strobe } })).due.grant = 1 ∧
    (after .wclkRisingEdge { serving with time := { serving.time with mode := .strobe } }).due.grant = 0 := by
  decide +kernel

/-! ### Window ends (chapters 4, 6, 7, 11) -/

/-- R111: the limit is the highest HELD slot, the threshold the header's. -/
theorem test_sweepWindowEnd_starts_walk :
    (after .sweepWindowEnd (ended holding)).sweep =
      { state := .sweeping, position := 0, limit := some 3, threshold := some 3, pendingEnd := false } ∧
    (after .sweepWindowEnd (ended serving)).sweep.state = .idle := by decide +kernel

/-- A walk with the limit 3 and threshold 3, its position past slot 0. -/
def walking : State :=
  { holding with
    sweep := { state := .sweeping, position := 1, limit := some 3, threshold := some 3, pendingEnd := false } }

/-- The same with slot 3's checkout at a missed count of 2, as chapter 6 has it at end W3. -/
def lastMiss : State :=
  { walking with grant := { walking.grant with
      table := tableOf [⟨1, some (checkout 0 7 true)⟩, ⟨1, none⟩, ⟨1, none⟩,
        ⟨2, some { checkout 2 4410 true with missed := 2 }⟩] } }

theorem test_sweepVisit_counts :
    (after (.sweepVisit 3) walking).checkoutAt 3 = some { checkout 2 4410 true with missed := 1 } ∧
    (after (.sweepVisit 3) walking).sweep = Sweep.initial := by decide +kernel

/-- Chapter 6: the third miss reclaims handle 515, its slot is FREE under generation 3, its owner is told, its reservation
becomes a RECLAIM record. -/
theorem test_reclaim_515 :
    (after (.reclaim 3) lastMiss).checkoutAt 3 = none ∧ (after (.reclaim 3) lastMiss).generationAt 3 = 3 ∧
    ((after (.reclaim 3) lastMiss).ports.get 2).notices = [.reclaimed 515 4410] ∧
    (after (.reclaim 3) lastMiss).journal.rv = 1 ∧
    ((after (.reclaim 3) lastMiss).journal.fifo.map (·.kind)) = [.reclaim] := by decide +kernel

/-- R78: the entry with one remaining window expires, the other counts down. -/
theorem test_grantEngineWindowEnd_expires :
    ((after .grantEngineWindowEnd (ended queueing)).grant.queue.map fun e => (e.slot, e.remaining)) = [(0, 4)] ∧
    ((after .grantEngineWindowEnd (ended queueing)).ports.get 3).notices = [.waitEnded 32801 .expired] ∧
    (after (.waitExpiry 1) (ended queueing)).grant.queue.length = 1 ∧
    (after (.waitExpiry 0) (ended queueing)).grant.queue.length = 2 := by decide +kernel

/-- Chapter 7 at end W4: history C H C with a tally of 900 and a quorum of 2 opens the overdraft and raises POOL_SHORT. -/
theorem test_demandWatch_opens :
    ((after (.demandWatchWindowEnd 0) { ended busy with
      watches := { busy.watches with q0 := { busy.watches.q0 with
        tally := 900, history := [false, true, false, false, false, false, false, false], meter := 3000 } } }).watches.get 0) =
      { tally := 0, history := [true, false, true, false, false, false, false, false], watch := .short
        overdraft := .opened, meter := 3000 } := by decide +kernel

/-- Chapter 7 at end W8: in_use 2,105 adds 105 to the meter, and the last hot verdict leaving the taps closes the
overdraft. -/
theorem test_demandWatch_closes :
    ((after (.demandWatchWindowEnd 0) { ended serving with
      grant := { serving.grant with pools := { serving.grant.pools with q0 := { serving.grant.pools.q0 with inUse := 2105 } } }
      watches := { serving.watches with q0 := { serving.watches.q0 with
        history := [false, false, false, true, false, true, false, false], watch := .short
        overdraft := .opened, meter := 3315 } } }).watches.get 0) =
      { tally := 0, history := [false, false, false, false, true, false, true, false], watch := .clear
        overdraft := .closed, meter := 3420 } := by decide +kernel

theorem test_portWindowEnd_refreshes :
    ((after (.portWindowEnd 2 []) { ended serving with
      ports := serving.ports.modify 2 fun q => { q with settings := { q.settings with senses := Quad.fill .level } }
      watches := { serving.watches with q1 := { serving.watches.q1 with watch := .short } } }).ports.get 2).notices =
      [.poolShort 1] := by decide +kernel

/-! ### Staging and the store (chapter 8) -/

theorem test_stageBegin_held :
    reply (.stageBegin 0) (ask staged 0 .stageBegin []) 0 =
      some { status := .stageHeld, overrun := false, payload := [1#8, 1#8, 15#8] } ∧
    reply (.stageBegin 0) (ask State.reset 0 .stageBegin []) 0 = okay [0#8, 0#8] := by decide +kernel

/-- Chapter 8's step 6: slot 20 again is refused, naming the 13 records held, the kinds next and the last indices. -/
theorem test_stageRecord_out_of_order :
    reply (.stageRecord 1) (ask { staged with stager := { staged.stager with area := records.take 12 } } 1 .stageRecord
      (4#8 :: (b1 20 ++ List.replicate 20 0#8))) 1 =
      some { status := .badRequest, overrun := false, payload := [12#8, 0x38#8, 20#8, 255#8] } := by decide +kernel

/-- R147: the nine records of the smallest image and the whole image, each with its trailer, are verified. -/
theorem test_stageFinish_verifies :
    verifyFault (records.take 9 ++ [⟨6#8, b1 (records.take 9).length ++ b4 (recordsCrc (records.take 9))⟩]) none = none ∧
    verifyFault staged.stager.area (some 40) = none :=
  ⟨verifyFault_none _ _ (by decide) (by simp) (by decide +kernel),
   verifyFault_none _ _ (by decide) (by intro i h; cases h; decide) (by decide +kernel)⟩

/-- R147, step 1: without a TRAILER the code is NO_TRAILER and the record 0, and the staging is gone. -/
theorem test_stageFinish_no_trailer :
    reply (.stageFinish 1) (ask { staged with stager := { staged.stager with area := records } } 1 .stageFinish []) 1 =
      some { status := .badRequest, overrun := false, payload := [1#8, 0#8] } := by decide +kernel

theorem test_activate_writes :
    reply (.activate 1) (ask complete 1 .activate (b4 41)) 1 = okay (b4 41 ++ [0#8]) ∧
    (after (.activate 1) (ask complete 1 .activate (b4 41))).store.write = .imageWrite ∧
    reply (.activate 1) (ask complete 1 .activate (b4 42)) 1 = bare .badRequest := by decide +kernel

theorem test_stageAbort_counts :
    reply (.stageAbort 1) (ask staged 1 .stageAbort []) 1 = okay [15#8] ∧
    reply (.stageAbort 1) (ask writing 1 .stageAbort []) 1 = bare .storeBusy := by decide +kernel

/-- R138: a waiting image write goes before a waiting save. -/
theorem test_saveComplete_next_write :
    (after .saveComplete { complete with store := { Store.factory with
      write := .saving { clock := 7, meters := Quad.fill 0, sequence := 3 }, saveWaiting := true, imageWaiting := true } }).store =
      { image := none, saved := some { clock := 7, meters := Quad.fill 0, sequence := 3 }, write := .imageWrite
        saveWaiting := true, imageWaiting := false } := by decide +kernel

/-- R152 from NO_IMAGE: the part serves the image, its clock takes the floor of 900, and every port is told. -/
theorem test_imageWriteComplete_activates :
    (after (.imageWriteComplete ⟨0, 0, 0, 0⟩) writing).serving = true ∧
    (after (.imageWriteComplete ⟨0, 0, 0, 0⟩) writing).time.clock = 900 ∧
    ((after (.imageWriteComplete ⟨0, 0, 0, 0⟩) writing).ports.get 3).notices = [.image 41] ∧
    ((after (.imageWriteComplete ⟨0, 0, 0, 0⟩) writing).pool 0).ceiling = some 2000 := by decide +kernel

/-- R90: a window end produced during the write is taken before the completion: a walk starts, the second entry expires
before the rest of the queue is emptied, and no window end is left. -/
theorem test_imageWriteComplete_takes_due :
    (after (.imageWriteComplete ⟨0, 0, 0, 0⟩) (ended replacing)).due = WindowEnds.zero ∧
    (after (.imageWriteComplete ⟨0, 0, 0, 0⟩) (ended replacing)).sweep.limit = some 3 ∧
    ((after (.imageWriteComplete ⟨0, 0, 0, 0⟩) (ended replacing)).ports.get 3).notices =
      [.waitEnded 32801 .expired, .image 41] := by decide +kernel

/-- The part of `replacing` when the image being written is the later one, with reserves of 1,000 for P1 and P2. -/
def shrinking : State :=
  { replacing with
    stager := { replacing.stager with area := laterRecords ++ [⟨6#8, b1 0 ++ b4 0⟩] }
    grant := { replacing.grant with pools := { replacing.grant.pools with
      q0 := { replacing.grant.pools.q0 with reserve := ⟨0, 1000, 1000, 0⟩ } } } }

/-- The completion that finds a request of P0 passed on. -/
def finished (c : Command) (payload : List Byte) : State := after (.imageWriteComplete ⟨0, 0, 0, 0⟩) (ask shrinking 0 c payload)

/-- R165, R168, R169: P0's reserve of 500 finds no room in the old 2,000, and the cut to 1,000 takes P2's 1,000; both orders
of the SET SHARE and the completion leave 0 and 1,000. -/
theorem test_imageWriteComplete_finishes_setShare :
    ((finished .setShare ([0#8, 0#8] ++ b3 0 ++ b3 500)).pool 0).reserve = ⟨0, 1000, 0, 0⟩ ∧
    (((finished .setShare ([0#8, 0#8] ++ b3 0 ++ b3 500)).ports.get 0).response.map fun x => x.payload.take 14) =
      some ([0#8, 0#8] ++ b3 0 ++ b3 500 ++ b3 0 ++ b3 0) := by decide +kernel

/-- R160, R167, R169: slot 12 is selected in the old catalogue, and the change follows its code 410 to slot 10. -/
theorem test_imageWriteComplete_finishes_policyApply :
    ((finished .policyApply (b8 (2 ^ 12 + 2 ^ 40) ++ [0#8])).cat.slot 10).site = SiteFlags.clear ∧
    ((finished .policyApply (b8 (2 ^ 12 + 2 ^ 40) ++ [0#8])).ports.get 0).response =
      okay (b8 (2 ^ 12) ++ b8 (2 ^ 40) ++ [0#8]) := by decide +kernel

/-- R90, R93: the window end of a WINDOW CLOSE taken before the completion is taken before it too. -/
theorem test_imageWriteComplete_finishes_windowClose :
    (finished .windowClose []).due = WindowEnds.zero ∧ (finished .windowClose []).sweep.limit = some 3 ∧
    ((finished .windowClose []).ports.get 0).response = okay ([0#8] ++ b2 60 ++ b2 0 ++ b4 1000) := by decide +kernel

/-- R1, R57: a CHECKOUT outlasts the completion with its catalogue and class; a QUERY POOL reports the old capacity. -/
theorem test_imageWriteComplete_outlasting :
    ((finished .checkout []).requests.map fun r => r.under.map fun b => b.catalogue.capacity 0) = [some 2000] ∧
    (((finished .queryPool [0#8]).ports.get 0).response.map fun x => x.payload.take 4) = some ([0#8] ++ b3 2000) := by
  decide +kernel

/-- Chapter 9's cut: reserves 400, 300, 650, 200 brought to a capacity of 1,200 become 400, 300, 500, 0. -/
theorem test_reserves_cut : cutReserves 1200 ⟨400, 300, 650, 200⟩ = ⟨400, 300, 500, 0⟩ := by decide

/-! ### Site policy (chapter 9) -/

theorem test_policyStage_flags :
    (after (.policyStage 0) (ask serving 0 .policyStage [6#8])).policy.get 0 =
      { enabled := false, queue := true, watchMask := true, termNotice := false } ∧
    reply (.policyStage 0) (ask serving 0 .policyStage [16#8]) 0 = bare .badRequest := by decide +kernel

/-- Chapter 9's MERGE: slots 12, 14 and 40 selected; 12 changes, 14 is empty and 40 locked. -/
theorem test_policyApply_merge :
    reply (.policyApply 0) (ask { serving with policy := Quad.fill ⟨false, true, true, false⟩ } 0 .policyApply
      (b8 (2 ^ 12 + 2 ^ 14 + 2 ^ 40) ++ [1#8])) 0 =
      okay (b8 (2 ^ 12) ++ b8 (2 ^ 14 + 2 ^ 40) ++ [6#8]) := by decide +kernel

/-- R77, R162: with no FREE slot the oldest entry, on feature 410, waits for TABLE_FULL and the pass ends; an apply that
disables slot 13 removes the younger entry on feature 411 in the same judgement, and the youngest is not visited. -/
theorem test_policyApply_removes_behind_full_table :
    let s := { serving with grant := { serving.grant with
      table := List.replicate 256 ⟨1, some (checkout 0 7 false)⟩
      queue := [waiter 0 1 false 5, { waiter 1 3 false 1 with
        lines := [{ index := some 13, code := 411, quantity := 1, pool := 0, cost := 9, orphan := false }]
        charges := ⟨9, 0, 0, 0⟩ }, waiter 2 2 true 1] } }
    let t := after (.policyApply 0) (ask { s with policy := Quad.fill ⟨true, false, false, false⟩ } 0 .policyApply
      (b8 (2 ^ 13) ++ [2#8]))
    t.grant.queue = [{ waiter 0 1 false 5 with last := { reason := .tableFull, pool := none } }, waiter 2 2 true 1] ∧
      (t.ports.get 3).notices = [.waitEnded 32801 .failed] := by decide +kernel

theorem test_setCeiling_clamped :
    reply (.setCeiling 0) (ask busy 0 .setCeiling ([0#8] ++ b3 2500 ++ [0#8])) 0 =
      okay ([0#8] ++ b3 2500 ++ b3 2000 ++ [1#8] ++ b3 2000 ++ b3 1700 ++ [0#8] ++ b3 0) := by decide +kernel

/-- Chapter 9's clamp: reserves 0, 500, 300, 0; P3 asks for cap 900 and reserve 1,500 and gets 900 and 900. -/
theorem test_setShare_clamped :
    reply (.setShare 0) (ask { serving with grant := { serving.grant with pools := { serving.grant.pools with
      q0 := { serving.grant.pools.q0 with reserve := ⟨0, 500, 300, 0⟩ } } } } 0 .setShare
      ([3#8, 0#8] ++ b3 900 ++ b3 1500)) 0 =
      okay ([3#8, 0#8] ++ b3 900 ++ b3 1500 ++ b3 900 ++ b3 900 ++ [0#8, 1#8] ++ b3 0) := by decide +kernel

/-! ### Ports' own requests and the journal (chapters 10 and 11) -/

/-- R180 for chapter 10's journal of six records. -/
theorem test_journalStatus :
    reply (.journalStatus 3) (ask logged 3 .journalStatus []) 3 =
      okay (b2 6 ++ b2 3 ++ b2 503 ++ b2 0 ++ [0#8, 0#8, 0#8, 1#8, 4#8, 0#8] ++ b4 994 ++ b4 1000) := by decide +kernel

theorem test_readNotice_oldest_first :
    reply (.readNotice 1) (ask { serving with
      ports := serving.ports.modify 1 fun q => { q with notices := [.granted 32800 516 true false, .poolClear 2] } } 1
      .readNotice []) 1 = okay ([1#8] ++ b2 32800 ++ b2 516 ++ [1#8, 0#8, 1#8]) := by decide +kernel

theorem test_setNotice_settings :
    reply (.setNotice 1) (ask serving 1 .setNotice [0xFE#8, 4#8, 0#8, 1#8, 2#8, 1#8]) 1 =
      okay [0xFE#8, 4#8, 0#8, 1#8, 2#8, 1#8] ∧
    reply (.setNotice 1) (ask serving 1 .setNotice [0xFE#8, 5#8, 0#8, 1#8, 2#8, 1#8]) 1 = bare .badRequest := by
  decide +kernel

/-- R192: part code 0x54470464, SERVING, issue 41, P3, class 2, strap class 0, no privilege. -/
theorem test_identify :
    reply (.identify 3) (ask serving 3 .identify []) 3 =
      okay ([0x54#8, 0x47#8, 0x04#8, 0x64#8, 1#8] ++ b4 41 ++ [3#8, 2#8, 0#8, 0#8]) := by decide +kernel

/-- Chapter 10, step 1: a batch of min(6, 4) records begins. -/
theorem test_batchBegin : (after (.batchBegin false) logged).journal.remaining = 4 ∧
    (after (.batchBegin true) logged).journal.batch = .idle := by decide +kernel

/-- Chapter 10, steps 2 and 5: an acknowledgement removes record 994; with JEND asserted it ends the batch. -/
theorem test_recordAcknowledge :
    ((after (.recordAcknowledge false) draining).journal.fifo.map (·.sequence)) = [995, 996, 997, 998, 999] ∧
    (after (.recordAcknowledge false) draining).journal.remaining = 3 ∧
    (after (.recordAcknowledge true) draining).journal.batch = .idle := by decide +kernel

theorem test_jclk_walks_bytes :
    (after .jclkRisingEdge { draining with journal := { draining.journal with bytePos := 6 } }).journal.bytePos = 7 ∧
    (after .jclkRisingEdge draining).journal.bytePos = 32 := by decide +kernel

/-! ### Concrete states and operands that meet the hypotheses of each statement -/

theorem witness_StepRunsFrontCommand :
    ({ serving with pending := [.identify 0, .secondTick] } : State).pending = .identify 0 :: [.secondTick] := rfl

theorem witness_HeldPartTakesNothing :
    (after .powerLoss serving).running = false ∧ (after .powerLoss serving).store.write = .idle ∧
    ({ serving with resetPin := .asserted } : State).running = false ∧
    (∀ x, Instr.prstAssert 0 ≠ .powerOn x) ∧ Instr.prstAssert 0 ≠ .powerLoss ∧ Instr.prstAssert 0 ≠ .resetAssert ∧
    (∀ x, Instr.prstAssert 0 ≠ .resetRelease x) :=
  ⟨by decide +kernel, by decide +kernel, by decide +kernel, fun _ => nofun, nofun, nofun, fun _ => nofun⟩

/-- Saved values to restore. -/
def saved : SavedValues := { clock := 4294967295, meters := Quad.fill 3, sequence := 9 }

theorem witness_PowerOnRestoresStore :
    State.reset.store.saved = none ∧ ({ serving.store with saved := some saved } : Store).saved = some saved ∧
    serving.store.image = some records ∧ serving.powered = true ∧ writing.powered = true ∧
    writing.store.write = .imageWrite ∧ serving.store.write ≠ .imageWrite ∧
    ({ Store.factory with write := .saving saved } : Store).write ≠ .imageWrite := by decide +kernel

theorem witness_ResetKeepsLiveValues :
    serving.powered = true ∧
    (after .resetAssert holding).powered = true ∧ (after .resetAssert holding).resetPin = .asserted ∧
    (after .resetAssert holding).store.write = .idle ∧
    (after .resetAssert writing).powered = true ∧ (after .resetAssert writing).resetPin = .asserted ∧
    (after .resetAssert writing).store.write ≠ .idle := by decide +kernel

/-- R140 (log 35): a second assertion cancels the release that waits for the write. -/
theorem test_resetAssert_cancels_release :
    (after (.resetRelease (Quad.fill low)) (after .resetAssert writing)).resetPin = .releasing ∧
    (after .resetAssert (after (.resetRelease (Quad.fill low)) (after .resetAssert writing))).resetPin = .asserted := by
  decide +kernel

theorem witness_PortResetClearsPort :
    queueing.running = true ∧ (queueing.ports.get 1).prst = false ∧ (queueing.ports.get 3).prst = false ∧
    queueing.QueueBounded ∧ queueing.requests = [] ∧
    queueing.grant.queue.any (fun e => e.port == 1 && e.blocking) = true ∧
    queueing.grant.queue.any (fun e => e.port == 3 && e.blocking) = false ∧
    (complete.stager.port = some 1 ∧ complete.stager.state = .complete ∧ complete.QueueBounded ∧
      (complete.ports.get 1).prst = false) ∧
    (after (.prstAssert 2) serving).running = true ∧ ((after (.prstAssert 2) serving).ports.get 2).prst = true := by
  decide +kernel

/-- A port with an IDENTIFY, an ACTIVATE and a STAGE ABORT passed on: the ACTIVATE is its oldest staging command. -/
theorem witness_PortResetClearsPort_staging :
    (ask (ask (ask complete 1 .identify []) 1 .activate (b4 41)) 1 .stageAbort []).running = true ∧
    ((ask (ask (ask complete 1 .identify []) 1 .activate (b4 41)) 1 .stageAbort []).ports.get 1).prst = false ∧
    (ask (ask (ask complete 1 .identify []) 1 .activate (b4 41)) 1 .stageAbort []).requests =
      [req 1 .identify []] ++ req 1 .activate (b4 41) :: [req 1 .stageAbort []] ∧
    Command.activate ∈ stagingCommands ∧ (∀ x ∈ [req 1 .identify []], x.port = 1 → x.command ∉ stagingCommands) ∧
    exec (commandRow .activate 1) (ask (ask (ask complete 1 .identify []) 1 .activate (b4 41)) 1 .stageAbort []) =
      .next (after (.activate 1) (ask (ask (ask complete 1 .identify []) 1 .activate (b4 41)) 1 .stageAbort [])) :=
  ⟨by decide +kernel, by decide +kernel, rfl, by decide, by decide, rfl⟩

theorem witness_PinEventsActAlone :
    serving.running = true ∧ serving.time.wclk = .spent ∧
    (after .wclkLowSeen serving).running = true ∧ (after .wclkLowSeen serving).time.wclk = .armed ∧
    (after .wclkLowSeen serving).time.mode = .auto ∧
    ({ (after .wclkLowSeen serving).time with mode := .strobe } : Timebase).mode = .strobe := by decide +kernel

theorem witness_FramesJudgedByPort :
    serving.running = true ∧ (serving.ports.get 0).prst = false ∧ (List.replicate 60 (0#8 : Byte)).length ≤ 60 ∧
    (serving.ports.get 0).state ≠ .working ∧
    (ask serving 0 .identify []).running = true ∧ ((ask serving 0 .identify []).ports.get 0).prst = false ∧
    ((ask serving 0 .identify []).ports.get 0).state = .working := by decide +kernel

/-- A port held in PRST. -/
def held : State := { serving with ports := serving.ports.modify 2 fun q => { q with prst := true } }

theorem witness_FramesJudgedByPort_noEffect :
    (held.ports.get 2).prst = true ∧ (0x03#8 : Byte) ≠ 0x01#8 ∧ (0x03#8 : Byte) ≠ 0x02#8 := by decide +kernel

theorem witness_FramesJudgedByPort_bad :
    ([0x53#8] : List Byte).length < 2 ∧ ([0#8] : List Byte).length < (1#8 : Byte).toNat + 1 ∧ 60 < (61#8 : Byte).toNat ∧
    (([] : List Byte).length = (0#8 : Byte).toNat ∧ (0#8 : Byte) ≠ crc8 [0x53#8, 0#8]) ∧
    ((List.replicate 60 (0#8 : Byte)).length = (60#8 : Byte).toNat ∧ (60#8 : Byte).toNat ≤ 60 ∧
      commandOfCode (0xFF#8 : Byte).toNat = none) ∧
    (serving.running = true ∧ (serving.ports.get 0).prst = false ∧ parseFrame [] = .error ∧
      parseFrame [0xFF#8, 0#8, crc8 [0xFF#8, 0#8]] = .unknown) ∧
    (serving.ports.get 0).state ≠ .working ∧ ((ask serving 0 .identify []).ports.get 0).state = .working := by
  decide +kernel

/-- A port that has answered a frame error. -/
def answered : State := after (.requestFrame 2 [0x01#8]) serving

theorem witness_ReadDeliversResponse :
    answered.running = true ∧ (answered.ports.get 2).prst = false ∧ (answered.ports.get 2).state = .answered ∧
    (answered.ports.get 2).response = some { status := .frameError, overrun := false, payload := [] } ∧
    (answered.ports.get 1).state ≠ .answered ∧ (held.ports.get 2).prst = true := by decide +kernel

/-- A port with settings changed and notices in its list. -/
def port (senses : Quad Sense) (enabled : Bool) (notices : List Notice) : PortIf :=
  { PortIf.initial false low 0 0 with
    notices := notices
    settings := { NoticeSettings.initial with
      senses := senses, enables := { NoticeSettings.initial.enables with poolShort := enabled } } }

theorem witness_NoticesAndResponsesPlaced :
    (port (Quad.fill .off) true []).sensePasses (.poolShort 0) = false ∧
    (port (Quad.fill .both) false []).settings.allows (.poolShort 0) = false ∧
    ((port (Quad.fill .both) true (List.replicate 16 (.image 1))).sensePasses (.poolShort 0) = true ∧
      (port (Quad.fill .both) true (List.replicate 16 (.image 1))).settings.allows (.poolShort 0) = true ∧
      16 ≤ (port (Quad.fill .both) true (List.replicate 16 (.image 1))).notices.length) ∧
    ((port (Quad.fill .level) true (List.replicate 15 (.image 1))).sensePasses (.poolShort 0) = true ∧
      (port (Quad.fill .level) true (List.replicate 15 (.image 1))).settings.allows (.poolShort 0) = true ∧
      (port (Quad.fill .level) true (List.replicate 15 (.image 1))).notices.length < 16) := by decide

theorem witness_NoticesAndResponsesPlaced_other : ∀ k, Notice.image 3 ≠ .poolShort k ∧ Notice.image 3 ≠ .poolClear k :=
  fun _ => ⟨nofun, nofun⟩

theorem witness_NoticesAndResponsesPlaced_response :
    ({ req 1 .identify [] with current := false } : Request).current = false ∧ (req 1 .identify []).current = true ∧
    (serving.ports.get 1).settings.attn = .level ∧
    (({ serving with ports := serving.ports.modify 1 fun q => { q with
      settings := { q.settings with attn := .pulse }, pulse := true } } : State).ports.get 1).settings.attn = .pulse := by
  decide +kernel

theorem witness_NoticeCommandsActOnOwnPort :
    (ask serving 1 .readNotice [1#8]).Ready (req 1 .readNotice [1#8]) ∧
    (ask serving 1 .readNotice []).Ready (req 1 .readNotice []) ∧
    ((ask serving 1 .readNotice []).ports.get 1).notices = [] ∧
    (ask (serving.notify 1 (.image 7)) 1 .readNotice []).Ready (req 1 .readNotice []) ∧
    ((ask (serving.notify 1 (.image 7)) 1 .readNotice []).ports.get 1).notices = .image 7 :: [] ∧
    (ask serving 1 .setNotice []).Ready (req 1 .setNotice []) ∧ parseSettings [] = none ∧
    (ask serving 1 .setNotice NoticeSettings.initial.bytes).Ready (req 1 .setNotice NoticeSettings.initial.bytes) ∧
    parseSettings NoticeSettings.initial.bytes = some NoticeSettings.initial := by decide +kernel

theorem witness_StatusCommandsReport :
    (ask serving 3 .identify [0#8]).Ready (req 3 .identify [0#8]) ∧
    (ask State.reset 3 .identify []).Ready (req 3 .identify []) ∧
    ((ask State.reset 3 .identify []).basis (req 3 .identify [])).catalogue.head = none ∧
    (ask serving 3 .identify []).Ready (req 3 .identify []) ∧
    ((ask serving 3 .identify []).basis (req 3 .identify [])).catalogue.head = some (headOf records) := by decide +kernel

/-- JOURNAL STATUS with and without records, in both device states. -/
theorem witness_StatusCommandsReport_journal :
    (ask logged 0 .journalStatus [0#8]).Ready (req 0 .journalStatus [0#8]) ∧
    (∀ s ∈ [logged, serving, { logged with cat := Catalogue.absent }, State.reset],
      (ask s 0 .journalStatus []).Ready (req 0 .journalStatus [])) ∧
    logged.cat.head = some (headOf records) ∧ logged.journal.fifo.head? = some (logRecord 994) ∧
    serving.cat.head = some (headOf records) ∧ serving.journal.fifo = [] ∧ State.reset.cat.head = none := by
  decide +kernel

/-- Whether a request is ready and its catalogue one of SERVING. -/
def readyServing (s : State) (r : Request) : Bool := decide (s.Ready r) && (s.basis r).serving

theorem witness_QueriesReportEntries :
    (readyServing (ask queueing 3 .queryCheckout []) (req 3 .queryCheckout []) = true ∧ parseHandle [] = none) ∧
    (readyServing (ask queueing 3 .queryCheckout (b2 259)) (req 3 .queryCheckout (b2 259)) = true ∧
      parseHandle (b2 259) = some 259 ∧ queueing.findHandle 259 = none) ∧
    (readyServing (ask queueing 3 .queryCheckout (b2 515)) (req 3 .queryCheckout (b2 515)) = true ∧
      parseHandle (b2 515) = some 515 ∧ queueing.findHandle 515 = some (3, checkout 2 4410 true)) ∧
    (readyServing (ask queueing 3 .queryWait []) (req 3 .queryWait []) = true ∧ parseTicket [] = none) ∧
    (readyServing (ask queueing 3 .queryWait (b2 32802)) (req 3 .queryWait (b2 32802)) = true ∧
      parseTicket (b2 32802) = some 32802 ∧ queueing.findTicket 32802 = none) ∧
    (readyServing (ask queueing 3 .queryWait (b2 32801)) (req 3 .queryWait (b2 32801)) = true ∧
      parseTicket (b2 32801) = some 32801 ∧ queueing.findTicket 32801 = some (waiter 1 3 false 1)) ∧
    (queueing.SlotsNumbered ∧ queueing.QueueBounded ∧ waiter 1 3 false 1 ∈ queueing.grant.queue ∧
      32801 = 32768 + queueing.waitGeneration (waiter 1 3 false 1).slot * 32 + (waiter 1 3 false 1).slot) := by
  decide +kernel

/-- A bound on a list of slots, read back as a bound on each present feature. -/
theorem features_bounded (c : Catalogue) (n : Nat) (f : Nat → Feature → Bool)
    (h : (List.range n).all (fun i => (c.feature i).all (f i)) = true) :
    ∀ i, i < n → ∀ x, c.feature i = some x → f i x = true := by
  intro i hi x hx
  have := List.all_eq_true.mp h i (List.mem_range.mpr hi)
  simpa [hx] using this

theorem witness_QueryFeatureReports :
    (readyServing (ask serving 0 .queryFeature []) (req 0 .queryFeature []) = true ∧ parseFeatureQuery [] = none) ∧
    (readyServing (ask serving 0 .queryFeature [1#8, 41#8]) (req 0 .queryFeature [1#8, 41#8]) = true ∧
      parseFeatureQuery [1#8, 41#8] = some (.fromSlot 41) ∧
      (∀ i, i < 64 → ∀ f, catalogue.feature i = some f → i < 41) ∧ catalogue.slots.length = 64) ∧
    (parseFeatureQuery ([0#8] ++ b2 999) = some (.byCode 999) ∧
      ∀ i, i < 64 → ∀ f, catalogue.feature i = some f → f.code ≠ 999) ∧
    (parseFeatureQuery [1#8, 40#8] = some (.fromSlot 40) ∧ (catalogue.feature 40).isSome = true ∧
      ∀ i, i < 40 → ∀ f, catalogue.feature i = some f → i < 40) ∧
    (parseFeatureQuery ([0#8] ++ b2 700) = some (.byCode 700) ∧ (catalogue.feature 40).map (·.code) = some 700 ∧
      ∀ i, i < 40 → ∀ f, catalogue.feature i = some f → f.code ≠ 700) := by
  refine ⟨by decide +kernel, ⟨by decide +kernel, by decide, ?_, by decide +kernel⟩, ⟨by decide, ?_⟩,
    ⟨by decide, by decide +kernel, ?_⟩, ⟨by decide, by decide +kernel, ?_⟩⟩
  · intro i hi f hf
    simpa using features_bounded catalogue 64 (fun i _ => decide (i < 41)) (by decide +kernel) i hi f hf
  · intro i hi f hf
    simpa using features_bounded catalogue 64 (fun _ f => f.code != 999) (by decide +kernel) i hi f hf
  · intro i hi f _
    exact hi
  · intro i hi f hf
    simpa using features_bounded catalogue 40 (fun _ f => f.code != 700) (by decide +kernel) i hi f hf

theorem witness_QueryPoolReports :
    (ask busy 1 .queryPool [4#8]).Ready (req 1 .queryPool [4#8]) ∧ parsePool [4#8] = none ∧
    (ask busy 1 .queryPool [3#8]).Ready (req 1 .queryPool [3#8]) ∧ parsePool [3#8] = some 3 ∧
    (busy.serving = true ∧ busy.cat.poolRec 3 = some ((headOf records).pools.get 3)) := by decide +kernel

theorem witness_ChargesAsGiven :
    (1 ≤ 255 ∧ 255 ≤ 255 ∧ 1 ≤ 64 ∧ 64 ≤ 64) ∧
    (1 ≤ lines.length ∧ lines.length ≤ 8 ∧ 32 ≤ 32 ∧ ∀ l ∈ lines, 1 ≤ l.cost ∧ l.cost ≤ 65280) ∧
    (∀ l ∈ lines, l.pool ≠ 2) ∧ ∃ l ∈ lines, l.pool = 1 := by decide

/-- What P1's bundle request of chapter 2 comes to. -/
def order (p : Port) : GrantOrder :=
  orderFor catalogue 1 p 77 (some { code := 2101, multiplier := 3 }) 8 [(12, 3), (13, 3), (20, 12)]

theorem witness_FitTestAsGiven :
    serving.poolFailure catalogue 1 (order 1).charges (fun _ => true) (fun _ => false) = none ∧
    1 ≤ (order 1).charges.get 0 ∧ catalogue.poolRec 0 = some ((headOf records).pools.get 0) ∧
    Catalogue.absent.poolRec 0 = none := by decide +kernel

/-- Whether some blocking entry of the queue needs a pool. -/
def blockedBy (s : State) (k : Pool) : Bool := s.grant.queue.any fun e => e.blocking && decide (1 ≤ e.charges.get k)

theorem blockedBy_iff (s : State) (k : Pool) :
    blockedBy s k = true ↔ ∃ e ∈ s.grant.queue, e.blocking = true ∧ 1 ≤ e.charges.get k := by
  simp [blockedBy]

/-- A full table, and a journal with one place left beyond the reservations. -/
def crowded : State :=
  { serving with
    grant := { serving.grant with table := List.replicate 256 ⟨1, some (checkout 0 7 false)⟩ }
    journal := { serving.journal with rv := 511 } }

theorem witness_PoolsTestedInOrder :
    ((busy.pool 0).cap.get 1 = 0 ∧ ({ busy.pool 0 with cap := ⟨0, 380, 0, 0⟩ } : PoolState).cap.get 1 ≠ 0 ∧
      ({ busy.pool 0 with cap := ⟨0, 380, 0, 0⟩ } : PoolState).cap.get 1 < (busy.pool 0).held.get 1 + 1) ∧
    ((∀ k, blockedBy queueing k = true ↔ ∃ e ∈ queueing.grant.queue, e.blocking = true ∧ 1 ≤ e.charges.get k) ∧
      queueing.poolFailure catalogue 1 (order 1).charges (fun k => overdraftOk catalogue (order 1).lines k)
        (blockedBy queueing) = some { reason := .held, pool := some 0 }) ∧
    (crowded.poolFailure catalogue 1 (order 1).charges (fun k => overdraftOk catalogue (order 1).lines k)
        (blockedBy crowded) = none ∧ ∀ n, n < crowded.grant.table.length → (crowded.checkoutAt n).isSome = true) ∧
    (serving.poolFailure catalogue 1 (order 1).charges (fun k => overdraftOk catalogue (order 1).lines k)
        (blockedBy serving) = none ∧ 0 < serving.grant.table.length ∧ serving.checkoutAt 0 = none ∧
      (order 1).metered = false) ∧
    ((orderFor catalogue 1 1 5 none 0 [(40, 1)]).metered = true ∧
      512 < crowded.journal.fifo.length + crowded.journal.rv + 2) :=
  ⟨by decide +kernel, ⟨blockedBy_iff queueing, by decide +kernel⟩, by decide +kernel, by decide +kernel, by decide +kernel⟩

/-- Feature 410 disabled, 411 past its grace, 520 as given and 700 of scale 0 for class 0. -/
def faulty : Catalogue :=
  { catalogue with slots := catalogue.slots.mapIdx fun i sl =>
      if i = 12 then { sl with site := SiteFlags.clear }
      else if i = 13 then { sl with term := some .lapsed }
      else if i = 40 then { sl with feature := sl.feature.map fun f => { f with scales := ⟨0, 16, 16, 16⟩ } }
      else sl }

theorem witness_CheckoutLinesTested :
    (catalogue.findBundle 999 = none ∧ ∃ b, catalogue.findBundle 2101 = some b ∧
      ∀ l ∈ b.lines, (catalogue.feature l.feature).isSome = true) ∧
    (catalogue.findCode 999 = none ∧ (catalogue.findCode 410).isSome = true ∧ catalogue.findCode 700 = some 40) ∧
    ((faulty.slot 12).site.enabled = false ∧ (faulty.slot 13).term = some .lapsed ∧
      (faulty.feature 40).map (fun f => f.scales.get 0) = some 0 ∧
      (faulty.feature 20).map (fun f => f.maxQuantity) = some 32) ∧
    (lineFault faulty 0 (12, 65) = some .featureDisabled ∧ lineFault faulty 0 (13, 65) = some .featureInactive ∧
      lineFault faulty 0 (40, 65) = some .classExcluded ∧ lineFault faulty 0 (20, 33) = some .quantityLimit ∧
      lineFault faulty 0 (20, 32) = none) ∧
    (firstFault faulty 0 1 [(20, 32), (40, 1), (12, 1)] = some (.classExcluded, 2)) ∧
    (∀ x ∈ [(12, 3), (13, 3), (20, 12)], (catalogue.feature x.1).isSome = true) :=
  ⟨⟨by decide +kernel, { code := 2101, rebate := 8, lines := [⟨12, 1⟩, ⟨13, 1⟩, ⟨20, 4⟩] }, by decide +kernel,
    by decide +kernel⟩, by decide +kernel, by decide +kernel, by decide +kernel, by decide +kernel, by decide +kernel⟩

theorem witness_CheckoutTurnedAwayEarly :
    (readyServing (ask busy 1 .checkout []) (req 1 .checkout []) = true ∧ parseCheckout [] = none) ∧
    (readyServing (ask busy 1 .checkout ([1#8] ++ b4 5 ++ [0#8, 1#8] ++ b2 999 ++ [1#8]))
        (req 1 .checkout ([1#8] ++ b4 5 ++ [0#8, 1#8] ++ b2 999 ++ [1#8])) = true ∧
      parseCheckout ([1#8] ++ b4 5 ++ [0#8, 1#8] ++ b2 999 ++ [1#8]) =
        some { tag := 5, timeout := 0, want := .lines [(999, 1)] } ∧
      resolve catalogue (.lines [(999, 1)]) = .absent 1) ∧
    (readyServing (ask busy 1 .checkout ([1#8] ++ b4 5 ++ [0#8, 1#8] ++ b2 520 ++ [33#8]))
        (req 1 .checkout ([1#8] ++ b4 5 ++ [0#8, 1#8] ++ b2 520 ++ [33#8])) = true ∧
      parseCheckout ([1#8] ++ b4 5 ++ [0#8, 1#8] ++ b2 520 ++ [33#8]) =
        some { tag := 5, timeout := 0, want := .lines [(520, 33)] } ∧
      resolve catalogue (.lines [(520, 33)]) = .found none 0 [(20, 33)] ∧
      firstFault catalogue 1 1 [(20, 33)] = some (.quantityLimit, 1)) := by decide +kernel

/-- The bundle request read, with a wait timeout. -/
def want (timeout : Nat) : CheckoutRequest := { tag := 77, timeout := timeout, want := .bundle 2101 3 }

theorem witness_CheckoutGrants :
    (ask serving 1 .checkout bundleAsk).Ready (req 1 .checkout bundleAsk) ∧ (req 1 .checkout bundleAsk).under = none ∧
    catalogue.serving = true ∧ parseCheckout bundleAsk = some (want 0) ∧
    resolve catalogue (.bundle 2101 3) =
      .found (some { code := 2101, multiplier := 3 }) 8 [(12, 3), (13, 3), (20, 12)] ∧
    ((ask serving 1 .checkout bundleAsk).ports.get 1).effClass = 1 ∧
    firstFault catalogue 1 1 [(12, 3), (13, 3), (20, 12)] = none ∧
    (ask serving 1 .checkout bundleAsk).orderFailure catalogue (order 1) = none ∧
    (∀ k, catalogue.capacity k < (serving.pool k).inUse + (order 1).charges.get k → (order 1).charges.get k < 1) := by
  decide +kernel

/-- R49: a CHECKOUT at the ends of its ranges, and one beyond each. -/
theorem test_checkout_payloads :
    parseCheckout (b1 0 ++ b4 4294967295 ++ b1 255 ++ b2 65534 ++ b1 16) =
      some { tag := 4294967295, timeout := 255, want := .bundle 65534 16 } ∧
    parseCheckout (b1 1 ++ b4 0 ++ b1 0 ++ b1 1 ++ b2 1 ++ b1 255) = some { tag := 0, timeout := 0, want := .lines [(1, 255)] } ∧
    (∀ x ∈ [b2 65535 ++ b1 1, b2 0 ++ b1 1, b2 1 ++ b1 0, b2 1 ++ b1 17, b2 1, b2 1 ++ b2 1],
      parseCheckout (b1 0 ++ b4 7 ++ b1 0 ++ x) = none) ∧
    (∀ x ∈ [b1 0, b1 1 ++ b2 65535 ++ b1 1, b1 1 ++ b2 5 ++ b1 0, b1 2 ++ b2 5 ++ b1 1, b1 2 ++ b2 5 ++ b1 1 ++ b2 5 ++ b1 2],
      parseCheckout (b1 1 ++ b4 7 ++ b1 0 ++ x) = none) ∧
    parseCheckout (b1 2 ++ b4 7 ++ b1 0 ++ b2 1 ++ b1 1) = none := by decide +kernel

/-- R43, R70, R105: handles and tickets at the ends of their ranges, and beyond. -/
theorem test_number_payloads :
    (parseHandle (b2 255), parseHandle (b2 256), parseHandle (b2 32767), parseHandle (b2 32768)) =
      (none, some 256, some 32767, none) ∧
    (parseTicket (b2 32799), parseTicket (b2 32800), parseTicket (b2 40959), parseTicket (b2 40960)) =
      (none, some 32800, some 40959, none) ∧
    parseHandles (b1 0) = none ∧ parseHandles (b1 1 ++ b2 256) = some [256] ∧ parseHandles (b1 1 ++ b2 255) = none ∧
    parseHandles (b1 16 ++ (List.replicate 16 (b2 256)).flatten) = none := by decide +kernel

/-- The same request taken under the first catalogue and carried out under the second: 155 tokens of pool 0, of whose 1,000
none are in use, are granted, and the line of 411 is an ORPHAN. -/
theorem witness_CheckoutGrants_straddling :
    (askOld replaced 1 .checkout bundleAsk).Ready (reqOld 1 .checkout bundleAsk) ∧
    (reqOld 1 .checkout bundleAsk).under ≠ none ∧
    ((askOld replaced 1 .checkout bundleAsk).basis (reqOld 1 .checkout bundleAsk)).catalogue = catalogue ∧
    (askOld replaced 1 .checkout bundleAsk).orderFailure catalogue (order 1) = none ∧
    (((after (.checkout 1) (askOld replaced 1 .checkout bundleAsk)).checkoutAt 0).map fun e =>
      e.lines.map fun l => (l.index, l.orphan)) = some [(some 10, false), (none, true), (some 20, false)] :=
  ⟨by decide +kernel, nofun, rfl, by decide +kernel, by decide +kernel⟩

/-- A metered request: one unit of feature 700. -/
def meteredAsk : List Byte := [1#8] ++ b4 5 ++ [0#8, 1#8] ++ b2 700 ++ [1#8]

theorem witness_CheckoutGrants_metered :
    (ask serving 1 .checkout meteredAsk).Ready (req 1 .checkout meteredAsk) ∧
    parseCheckout meteredAsk = some { tag := 5, timeout := 0, want := .lines [(700, 1)] } ∧
    resolve catalogue (.lines [(700, 1)]) = .found none 0 [(40, 1)] ∧ firstFault catalogue 1 1 [(40, 1)] = none ∧
    (orderFor catalogue 1 1 5 none 0 [(40, 1)]).metered = true ∧
    (ask serving 1 .checkout meteredAsk).orderFailure catalogue (orderFor catalogue 1 1 5 none 0 [(40, 1)]) = none := by
  decide +kernel

/-- The bundle request with a wait timeout of 10. -/
def waitAsk : List Byte := [0#8] ++ b4 77 ++ [10#8] ++ b2 2101 ++ [3#8]

theorem witness_CheckoutQueuesOrDenies :
    (ask busy 1 .checkout waitAsk).Ready (req 1 .checkout waitAsk) ∧ (req 1 .checkout waitAsk).under = none ∧
    busy.serving = true ∧ parseCheckout waitAsk = some (want 10) ∧
    (ask busy 1 .checkout waitAsk).orderFailure catalogue (order 1) =
      some { reason := .reservedElsewhere, pool := some 0 } ∧
    (1 ≤ (want 10).timeout ∧ (∀ i ∈ [12, 13, 20], (catalogue.slot i).site.queue = true ∧
        (catalogue.feature i).map (fun f => f.queueable) = some true) ∧
      busy.grant.queue.length < 32 ∧ (busy.grant.queue.filter fun e => e.port == 1).length < 8 ∧ busy.QueueBounded) ∧
    (ask busy 1 .checkout bundleAsk).Ready (req 1 .checkout bundleAsk) ∧ ¬ 1 ≤ (want 0).timeout := by decide +kernel

/-- One that could wait, taken under a catalogue since replaced: it is denied, with QUEUE_FULL clear. -/
theorem witness_CheckoutQueuesOrDenies_straddling :
    (askOld { replaced with grant := busy.grant } 1 .checkout waitAsk).Ready (reqOld 1 .checkout waitAsk) ∧
    (askOld { replaced with grant := busy.grant } 1 .checkout waitAsk).orderFailure catalogue (order 1) =
      some { reason := .reservedElsewhere, pool := some 0 } ∧
    reply (.checkout 1) (askOld { replaced with grant := busy.grant } 1 .checkout waitAsk) 1 =
      some { status := .denied, overrun := false
             payload := [8#8, 0#8, 0#8] ++ b3 155 ++ b3 40 ++ b3 0 ++ b3 0 } := by decide +kernel

theorem witness_ReturnReleasesCheckout :
    (readyServing (ask holding 2 .returnCheckout []) (req 2 .returnCheckout []) = true ∧ parseHandle [] = none) ∧
    (readyServing (ask holding 2 .returnCheckout (b2 259)) (req 2 .returnCheckout (b2 259)) = true ∧
      parseHandle (b2 259) = some 259 ∧ holding.findHandle 259 = none) ∧
    (parseHandle (b2 515) = some 515 ∧ holding.findHandle 515 = some (3, checkout 2 4410 true) ∧
      (checkout 2 4410 true).owner = 2) ∧
    readyServing (ask holding 2 .returnCheckout (b2 515)) (req 2 .returnCheckout (b2 515)) = true ∧
    (readyServing (ask holding 3 .returnCheckout (b2 515)) (req 3 .returnCheckout (b2 515)) = true ∧
      ((ask holding 3 .returnCheckout (b2 515)).basis (req 3 .returnCheckout (b2 515))).privileges.admin = false) ∧
    (readyServing (ask holding 0 .returnCheckout (b2 515)) (req 0 .returnCheckout (b2 515)) = true ∧
      ((ask holding 0 .returnCheckout (b2 515)).basis (req 0 .returnCheckout (b2 515))).privileges.admin = true) := by
  decide +kernel

theorem witness_TagAndPortReleases :
    (readyServing (ask queueing 2 .returnTag []) (req 2 .returnTag []) = true ∧ parseNumber 4 [] = none) ∧
    (readyServing (ask queueing 1 .releasePort [0#8]) (req 1 .releasePort [0#8]) = true ∧
      (req 1 .releasePort [0#8]).payload ≠ []) ∧
    (readyServing (ask queueing 2 .returnTag (b4 4410)) (req 2 .returnTag (b4 4410)) = true ∧
      parseNumber 4 (b4 4410) = some 4410) ∧
    (readyServing (ask queueing 1 .releasePort []) (req 1 .releasePort []) = true ∧
      (req 1 .releasePort []).payload = []) ∧
    queueing.QueueBounded := by decide +kernel

/-- The same part with slot 3 under the last generation. -/
def lastGeneration : State :=
  { holding with grant := { holding.grant with table := tableOf [⟨127, some (checkout 0 7 true)⟩] } }

theorem witness_ReleasedHandleIsStale :
    holding.SlotsNumbered ∧ holding.checkoutAt 3 = some (checkout 2 4410 true) ∧ holding.generationAt 3 < 127 ∧
    lastGeneration.SlotsNumbered ∧ lastGeneration.checkoutAt 0 = some (checkout 0 7 true) ∧
    lastGeneration.generationAt 0 = 127 ∧ 515 % 256 ≠ 0 := by decide +kernel

theorem witness_HeartbeatRenews :
    ((ask holding 2 .heartbeat []).Ready (req 2 .heartbeat []) ∧ parseHandles [] = none) ∧
    ((ask holding 2 .heartbeat ([2#8] ++ b2 515 ++ b2 256)).Ready (req 2 .heartbeat ([2#8] ++ b2 515 ++ b2 256)) ∧
      parseHandles ([2#8] ++ b2 515 ++ b2 256) = some [515, 256]) ∧
    (req 2 .heartbeat []).under = none ∧ catalogue.serving = true := by decide +kernel

/-- A HEARTBEAT taken under a catalogue since replaced, in which feature 411 was LAPSED: its line refuses renewal (3),
orphan though it is now. -/
theorem witness_HeartbeatRenews_straddling :
    (({ req 2 .heartbeat ([1#8] ++ b2 515) with under := some { catalogue := faulty, effClass := 1 } } : Request).under ≠ none
      ∧ faulty.serving = true ∧ faulty.findCode 411 = some 13 ∧ (faulty.slot 13).term = some .lapsed) ∧
    reply (.heartbeat 2)
      { replaced with
        grant := holding.grant
        requests := [{ req 2 .heartbeat ([1#8] ++ b2 515) with under := some { catalogue := faulty, effClass := 1 } }] } 2 =
      okay ([1#8, 3#8, 0#8, 0#8] ++ b2 60 ++ b2 0) := ⟨⟨nofun, by decide +kernel⟩, by decide +kernel⟩

theorem witness_CancelWaitRemovesEntry :
    (readyServing (ask queueing 1 .cancelWait []) (req 1 .cancelWait []) = true ∧ parseTicket [] = none) ∧
    (readyServing (ask queueing 1 .cancelWait (b2 40959)) (req 1 .cancelWait (b2 40959)) = true ∧
      parseTicket (b2 40959) = some 40959 ∧ queueing.findTicket 40959 = none) ∧
    (parseTicket (b2 32800) = some 32800 ∧ queueing.findTicket 32800 = some (waiter 0 1 true 5)) ∧
    (readyServing (ask queueing 3 .cancelWait (b2 32800)) (req 3 .cancelWait (b2 32800)) = true ∧
      ((ask queueing 3 .cancelWait (b2 32800)).basis (req 3 .cancelWait (b2 32800))).privileges.admin = false) ∧
    readyServing (ask queueing 1 .cancelWait (b2 32800)) (req 1 .cancelWait (b2 32800)) = true ∧
    (readyServing (ask queueing 0 .cancelWait (b2 32800)) (req 0 .cancelWait (b2 32800)) = true ∧
      ((ask queueing 0 .cancelWait (b2 32800)).basis (req 0 .cancelWait (b2 32800))).privileges.admin = true) := by
  decide +kernel

/-- The queue with room under the ceiling. -/
def roomy : State := { queueing with grant := { queueing.grant with pools := holding.grant.pools } }

/-- The queue with an entry whose line a reconciliation found no feature for. -/
def orphaned : State :=
  { queueing with grant := { queueing.grant with
      queue := [{ waiter 0 1 true 5 with
        lines := [{ index := none, code := 410, quantity := 1, pool := 0, cost := 50, orphan := true }] }] } }

/-- The queue with room for its oldest entry and no FREE slot. -/
def noSlot : State := { roomy with grant := { roomy.grant with table := crowded.grant.table } }

theorem witness_QueuePassServesOldestFirst :
    (queueing.checkoutAt 0 = some (checkout 0 7 true)) ∧
    (roomy.grant.queue = waiter 0 1 true 5 :: [waiter 1 3 false 1] ∧ (roomy.grant.queue.map fun x => x.slot).Nodup ∧
      roomy.recheckFails (waiter 0 1 true 5) = false ∧ roomy.entryFailure (waiter 0 1 true 5) = none ∧
      roomy.freeSlot = some 1 ∧ (roomy.orderOf (waiter 0 1 true 5)).metered = false) ∧
    (queueing.grant.queue = waiter 0 1 true 5 :: [waiter 1 3 false 1] ∧
      queueing.recheckFails (waiter 0 1 true 5) = false ∧
      queueing.entryFailure (waiter 0 1 true 5) = some { reason := .noTokens, pool := some 0 } ∧
      1 ≤ (waiter 0 1 true 5).charges.get 0 ∧ 1 ≤ (waiter 1 3 false 1).charges.get 0) ∧
    (noSlot.grant.queue = roomy.grant.queue ∧ noSlot.recheckFails (waiter 0 1 true 5) = false ∧
      noSlot.entryFailure (waiter 0 1 true 5) = none ∧ noSlot.freeSlot = none) := by
  decide +kernel

/-- An entry for a unit of the metered feature 700. -/
def meteredWaiter : WaitEntry :=
  { waiter 0 1 true 5 with
    lines := [{ index := some 40, code := 700, quantity := 1, pool := 2, cost := 5, orphan := false }]
    charges := ⟨0, 0, 5, 0⟩ }

theorem witness_QueuePassJudgesEachEntry :
    ((Quad.set (Quad.fill false) 0 true).get 0 = true ∧ 1 ≤ (waiter 0 1 true 5).charges.get 0) ∧
    (∀ k, (Quad.fill false).get k = true → (waiter 0 1 true 5).charges.get k = 0) ∧
    (∀ e ∈ orphaned.grant.queue, orphaned.recheckFails e = true) ∧
    (queueing.recheckFails (waiter 0 1 true 5) = false ∧
      queueing.entryFailure (waiter 0 1 true 5) = some { reason := .noTokens, pool := some 0 }) ∧
    (noSlot.entryFailure (waiter 0 1 true 5) = none ∧
      ∀ n, n < noSlot.grant.table.length → (noSlot.checkoutAt n).isSome = true) ∧
    (roomy.recheckFails meteredWaiter = false ∧ roomy.entryFailure meteredWaiter = none ∧
      1 < roomy.grant.table.length ∧ roomy.checkoutAt 1 = none ∧ (∀ m, m < 1 → (roomy.checkoutAt m).isSome = true) ∧
      (roomy.cat.feature 40).map (fun f => f.metered) = some true) ∧
    512 < crowded.journal.fifo.length + crowded.journal.rv + 2 := by decide +kernel

/-- A cap of 49, one less than what P1 asks for: SHARE_CAP in a pass. -/
theorem witness_QueuePassJudgesEachEntry_shareCap :
    ({ roomy with grant := { roomy.grant with pools := { roomy.grant.pools with
        q0 := { roomy.grant.pools.q0 with cap := ⟨0, 49, 0, 0⟩ } } } } : State).entryFailure (waiter 0 1 true 5) =
      some { reason := .shareCap, pool := some 0 } := by decide +kernel

theorem witness_CommandsTurnedAway :
    (∀ c ∈ [Command.windowClose, .stageBegin, .stageRecord, .stageFinish, .activate, .stageAbort, .policyStage,
      .policyApply, .setCeiling, .setShare],
      (ask serving 3 c []).Ready (req 3 c []) ∧
        ((ask serving 3 c []).basis (req 3 c [])).privileges.admin = false) ∧
    (ask serving 3 .timeAssert []).Ready (req 3 .timeAssert []) ∧
    ((ask serving 3 .timeAssert []).basis (req 3 .timeAssert [])).privileges.time = false := by decide +kernel

theorem witness_CommandsTurnedAway_notReady :
    ∀ c ∈ [Command.checkout, .returnCheckout, .returnTag, .releasePort, .queryCheckout, .heartbeat, .cancelWait,
      .queryWait, .queryFeature, .queryPool, .policyStage, .policyApply, .setCeiling, .setShare],
      (ask State.reset 2 c []).Ready (req 2 c []) ∧ ((ask State.reset 2 c []).basis (req 2 c [])).serving = false := by
  decide +kernel

theorem witness_TimeAssertMovesClock :
    (∀ v ∈ [999, 1000, 1001, 1019, 1020, 2440, 2441, 4294967295],
      (ask serving 0 .timeAssert (b4 v)).Ready (req 0 .timeAssert (b4 v)) ∧
        ((ask serving 0 .timeAssert (b4 v)).basis (req 0 .timeAssert (b4 v))).privileges.time = true ∧
        parseNumber 4 (b4 v) = some v) ∧
    serving.time.clock = 1000 ∧ parseNumber 4 [] = none ∧ (ask serving 0 .timeAssert []).Ready (req 0 .timeAssert []) ∧
    (2440 = min 4294967295 (min 4294967295 (1000 + 1440)) ∧ 1019 / 60 = 1000 / 60 ∧ 1020 / 60 ≠ 1000 / 60) ∧
    serving.store.write = .idle ∧ ({ serving.store with write := .saving saved } : Store).write ≠ .idle := by
  decide +kernel

theorem witness_WindowCloseEndsWindow :
    (ask serving 0 .windowClose [1#8]).Ready (req 0 .windowClose [1#8]) ∧
    (ask serving 0 .windowClose []).Ready (req 0 .windowClose []) ∧
    ((ask serving 0 .windowClose []).basis (req 0 .windowClose [])).privileges.admin = true := by decide +kernel

theorem witness_SecondTickCounts :
    serving.running = true ∧ serving.time.minuteCount ≤ 59 ∧ serving.time.mode = .auto ∧
    min 65535 (serving.time.windowTimer + 1) ≠ serving.time.length ∧
    min 65535 (59 + 1) = serving.time.length ∧
    (staged.stager.state = .opened ∧ ({ staged.stager with timer := 599 } : Stager).timer = 599) ∧
    ({ serving.time with minuteCount := 59, clock := 4294967295 } : Timebase).minuteCount = 59 ∧
    serving.pending = [] ∧ 32766 + 1 < 32768 ∧ 32767 + 1 = 32768 ∧ (after .powerLoss serving).pending = [] ∧
    (after .powerLoss serving).running = false := by decide +kernel

theorem witness_ClockAndMetersNeverFall :
    exec (.imageWriteComplete ⟨0, 0, 0, 0⟩) replacing = .next (after (.imageWriteComplete ⟨0, 0, 0, 0⟩) replacing) ∧
    (∀ x, Instr.imageWriteComplete ⟨0, 0, 0, 0⟩ ≠ .powerOn x) ∧ Instr.imageWriteComplete ⟨0, 0, 0, 0⟩ ≠ .powerLoss ∧
    replacing.time.clock ≤ 4294967295 ∧ ∀ k, (replacing.watches.get k).meter ≤ 4294967295 :=
  ⟨rfl, fun _ => nofun, nofun, by decide +kernel, by decide +kernel⟩

/-- Every slot from a bound on is FREE, when those of the table are. -/
theorem free_above (s : State) (l : Nat) (hl : s.grant.table.length = 256)
    (h : (List.range 256).all (fun n => decide (n ≤ l) || (s.checkoutAt n).isNone) = true) :
    ∀ n, l < n → s.checkoutAt n = none := by
  intro n hn
  by_cases hb : n < 256
  · have := List.all_eq_true.mp h n (List.mem_range.mpr hb)
    simpa [show ¬ n ≤ l by omega] using this
  · simp [State.checkoutAt, List.getElem?_eq_none (show s.grant.table.length ≤ n by omega)]

theorem witness_SweepWindowEndStartsWalk :
    serving.running = true ∧ serving.due.sweep = 0 ∧ 0 < (ended serving).due.sweep ∧
    (ended serving).sweep.state = .idle ∧ (∀ n, (ended serving).checkoutAt n = none) ∧
    ((ended holding).checkoutAt 3).isSome = true ∧ (∀ n, 3 < n → (ended holding).checkoutAt n = none) ∧
    (ended walking).running = true ∧ 0 < (ended walking).due.sweep ∧ (ended walking).sweep.state = .sweeping := by
  refine ⟨by decide +kernel, by decide +kernel, by decide +kernel, by decide +kernel, ?_, by decide +kernel, ?_,
    by decide +kernel, by decide +kernel, by decide +kernel⟩
  · intro n
    cases n with
    | zero => decide +kernel
    | succ n => exact free_above (ended serving) 0 (by decide +kernel) (by decide +kernel) _ (Nat.succ_pos n)
  · exact free_above (ended holding) 3 (by decide +kernel) (by decide +kernel)

theorem witness_SweepVisitCountsMissedWindows :
    walking.running = true ∧ walking.sweep.state = .sweeping ∧ walking.sweep.limit = some 3 ∧
    (walking.sweep.position ≤ 3 ∧ (∀ m, m < 3 → walking.sweep.position ≤ m → walking.checkoutAt m = none) ∧
      walking.checkoutAt 3 = some (checkout 2 4410 true) ∧ walking.sweep.threshold = some 3 ∧ 0 + 1 < 3) ∧
    (walking.sweep.position ≤ 1 ∧ walking.checkoutAt 1 = none) ∧
    (lastMiss.running = true ∧ lastMiss.sweep.limit = some 3 ∧
      lastMiss.checkoutAt 3 = some { checkout 2 4410 true with missed := 2 } ∧ 3 ≤ 2 + 1) := by decide +kernel

/-- One pending window end behind a walk that passes its limit. -/
theorem witness_SweepVisitCountsMissedWindows_restart :
    ({ walking with sweep := { walking.sweep with pendingEnd := true } } : State).sweep.pendingEnd = true ∧
    ((after (.sweepVisit 3) walking).checkoutAt 3).isSome = true ∧
    (∀ i, 3 < i → (after (.sweepVisit 3) walking).checkoutAt i = none) :=
  ⟨rfl, by decide +kernel, free_above (after (.sweepVisit 3) walking) 3 (by decide +kernel) (by decide +kernel)⟩

theorem witness_GrantEngineWindowEndExpiresWaits :
    queueing.running = true ∧ queueing.QueueBounded ∧ queueing.due.grant = 0 ∧ 0 < (ended queueing).due.grant ∧
    (waiter 1 3 false 1 ∈ (ended queueing).grant.queue ∧ (waiter 1 3 false 1).remaining ≤ 1) ∧
    (queueing.pool 0).pendingCeiling = none ∧
    ({ queueing.pool 0 with pendingCeiling := some 2500 } : PoolState).pendingCeiling = some 2500 := by decide +kernel

theorem witness_DemandWatchJudgesWindow :
    busy.running = true ∧ busy.due.demand.get 0 = 0 ∧
    (0 < (ended State.reset).due.demand.get 3 ∧ State.reset.cat.head = none) ∧
    (0 < (ended busy).due.demand.get 0 ∧ busy.cat.head = some (headOf records)) ∧
    ((headOf records).pools.get 0 =
      { capacity := 2000, allowance := 100, watchEnable := true, threshold := 500, taps := 4, quorum := 2 } ∧
      (headOf records).pools.get 2 =
        { capacity := 50, allowance := 0, watchEnable := true, threshold := 1, taps := 1, quorum := 1 }) ∧
    (([true, false, false, false].filter fun v => v).length < 2 ∧
      ([true, false, true, false].filter fun v => v).length = 2 ∧
      ([false, false, false, false].filter fun v => v).length = 0) ∧
    (busy.watches.get 0).watch = .clear ∧ ({ Watch.initial 0 with watch := .short } : Watch).watch = .short := by
  decide +kernel

theorem witness_PortWindowEndRefreshesShortPools :
    serving.running = true ∧ serving.due.port.get 2 = 0 ∧ 0 < (ended serving).due.port.get 2 ∧
    (port (Quad.fill .level) false []).settings.enables.poolShort = false ∧
    (∀ n ∈ [12, 13, 14, 15, 16],
      (port (Quad.fill .level) true (List.replicate n (.image 1))).settings.enables.poolShort = true ∧
      Notice.poolShort 0 ∉ (port (Quad.fill .level) true (List.replicate n (.image 1))).notices) ∧
    ((([2, 3] ++ [0, 1, 2, 3]) : List Pool).filter fun k => k != 1).eraseDups = [2, 3, 0] := by decide +kernel

/-- Whether a request is ready and its port holds ADMIN. -/
def readyAdmin (s : State) (r : Request) : Bool := decide (s.Ready r) && (s.basis r).privileges.admin

theorem witness_StagingBuildsInSequence :
    (∀ c ∈ stagingCommands,
      readyAdmin (ask writing 1 c []) (req 1 c []) = true ∧ readyAdmin (ask staged 0 c []) (req 0 c []) = true) ∧
    (writing.stager.state = .writing ∧ staged.stager.state = .opened ∧ staged.stager.port ≠ some 0) ∧
    (readyAdmin (ask State.reset 0 .stageBegin []) (req 0 .stageBegin []) = true ∧ State.reset.stager.state = .idle) ∧
    readyAdmin (ask staged 1 .stageBegin [0#8]) (req 1 .stageBegin [0#8]) = true ∧
    (readyAdmin (ask complete 1 .stageRecord []) (req 1 .stageRecord []) = true ∧ complete.stager.state = .complete ∧
      complete.stager.port = some 1) ∧
    (acceptsRecord [] ⟨1#8, List.replicate 17 0#8⟩ = true ∧ acceptsRecord staged.stager.area ⟨6#8, b1 0 ++ b4 0⟩ = false) ∧
    readyAdmin (ask staged 1 .stageAbort [0#8]) (req 1 .stageAbort [0#8]) = true := by decide +kernel

theorem witness_StagingBuildsInSequence_order :
    (records.take 1).getLast?.map (·.kind) = some 1#8 ∧ (records.take 4).getLast?.map (·.kind) = some 2#8 ∧
    (records.take 5).getLast?.map (·.kind) = some 2#8 ∧ (records.take 8).getLast?.map (·.kind) = some 3#8 ∧
    (records.take 9).getLast?.map (·.kind) = some 3#8 ∧ records.getLast?.map (·.kind) = some 5#8 ∧
    (records ++ [trailer]).getLast?.map (·.kind) = some 6#8 := by decide +kernel

theorem witness_FinishVerifiesAndActivateWrites :
    (readyAdmin (ask staged 1 .stageFinish []) (req 1 .stageFinish []) = true ∧ staged.stager.port = some 1 ∧
      staged.stager.state ≠ .writing ∧ staged.stager.summary = none) ∧
    readyAdmin (ask staged 1 .stageFinish [0#8]) (req 1 .stageFinish [0#8]) = true ∧
    verifyFault records none = some (.noTrailer, 0) ∧
    (readyAdmin (ask complete 1 .stageFinish []) (req 1 .stageFinish []) = true ∧
      complete.stager.summary = some (summaryOf staged.stager.area)) ∧
    (readyAdmin (ask complete 1 .activate (b4 41)) (req 1 .activate (b4 41)) = true ∧
      parseNumber 4 (b4 41) = some (summaryOf staged.stager.area).issue ∧ complete.store.write = .idle) ∧
    (parseNumber 4 [] = none ∧ parseNumber 4 (b4 42) = some 42 ∧ 42 ≠ (summaryOf staged.stager.area).issue) ∧
    ({ complete.store with write := .saving saved } : Store).write = .saving saved :=
  ⟨by decide +kernel, by decide +kernel, by decide +kernel, ⟨by decide +kernel, rfl⟩,
    ⟨by decide +kernel, by decide +kernel, by decide +kernel⟩, ⟨by decide, by decide, by decide +kernel⟩, rfl⟩

/-- A CLASS record with a privilege bit R149 does not allow. -/
def badClass : ImageRecord := ⟨2#8, [0#8, 4#8]⟩

theorem witness_FinishVerifiesAndActivateWrites_order :
    (records.getLast?.map (·.kind) ≠ some 6#8) ∧
    (field (b1 1 ++ b4 0) 0 1 ≠ ([] : List ImageRecord).length) ∧
    (field (b1 0 ++ b4 1) 0 1 = ([] : List ImageRecord).length ∧ field (b1 0 ++ b4 1) 1 4 ≠ recordsCrc []) ∧
    (field (b1 0 ++ b4 0) 1 4 = recordsCrc [] ∧ (headOf []).header.issue ≤ 0) ∧
    (field (b1 1 ++ b4 (recordsCrc [badClass])) 0 1 = [badClass].length ∧
      field (b1 1 ++ b4 (recordsCrc [badClass])) 1 4 = recordsCrc [badClass] ∧
      recordFault [] badClass = some .fieldRange ∧ recordFault [] ⟨2#8, [0#8, 3#8]⟩ = none) := by decide +kernel

/-- A FEATURE body with a code, a pool and a term. -/
def featureBody (code pool start stop : Nat) : List Byte :=
  b1 5 ++ b2 code ++ b1 pool ++ b1 1 ++ [0#8, 0#8, 0#8, 64#8] ++ b1 8 ++ b4 start ++ b4 stop ++ b2 0 ++ b1 7

/-- A BUNDLE body with a code, a rebate and line positions. -/
def bundleBody (code rebate : Nat) (positions : List Byte) : List Byte :=
  b1 0 ++ b2 code ++ b1 rebate ++ positions ++ (List.replicate (8 - positions.length / 2) [255#8, 0#8]).flatten

/-- One record for each test of R149 that fails it alone, and one for each kind that passes. -/
theorem witness_ImageRecordsTested :
    recordFault records ⟨1#8, b4 1 ++ b4 0 ++ [6#8, 0#8, 1#8, 64#8, 0#8, 3#8, 0x80#8, 0#8, 64#8]⟩ = some .fieldRange ∧
    recordFault [] ⟨1#8, b4 1 ++ b4 0 ++ [5#8, 3#8, 8#8, 64#8, 0#8, 3#8, 0x80#8, 0#8, 64#8]⟩ = none ∧
    recordFault [] ⟨2#8, [0#8, 4#8]⟩ = some .fieldRange ∧ recordFault [] ⟨2#8, [0#8, 3#8]⟩ = none ∧
    recordFault [] ⟨3#8, b1 0 ++ b3 1048575 ++ b3 262143 ++ b1 1 ++ b3 1048575 ++ b1 8 ++ b1 9⟩ = some .fieldRange ∧
    recordFault [] ⟨3#8, b1 0 ++ b3 1048575 ++ b3 262143 ++ b1 1 ++ b3 1048575 ++ b1 8 ++ b1 8⟩ = none ∧
    recordFault records ⟨4#8, featureBody 65535 0 0 1⟩ = some .codeInvalid ∧
    recordFault records ⟨4#8, featureBody 410 4 0 1⟩ = some .codeRepeated ∧
    recordFault records ⟨4#8, featureBody 2101 4 1 1⟩ = some .fieldRange ∧
    recordFault records ⟨4#8, featureBody 2101 3 1 1⟩ = some .termOrder ∧
    recordFault records ⟨4#8, featureBody 2101 3 0 1⟩ = none := by decide +kernel

theorem witness_ImageRecordsTested_bundle :
    recordFault records ⟨5#8, bundleBody 0 0 [12#8, 1#8]⟩ = some .codeInvalid ∧
    recordFault records ⟨5#8, bundleBody 2101 0 [12#8, 1#8]⟩ = some .codeRepeated ∧
    recordFault records ⟨5#8, bundleBody 410 33 [12#8, 1#8]⟩ = some .fieldRange ∧
    recordFault records ⟨5#8, bundleBody 410 32 []⟩ = some .lineShape ∧
    recordFault records ⟨5#8, bundleBody 410 32 [255#8, 0#8, 12#8, 1#8]⟩ = some .lineShape ∧
    recordFault records ⟨5#8, bundleBody 410 32 [12#8, 1#8, 14#8, 1#8]⟩ = some .lineAbsent ∧
    recordFault records ⟨5#8, bundleBody 410 32 [12#8, 1#8, 12#8, 65#8]⟩ = some .lineRepeated ∧
    recordFault records ⟨5#8, bundleBody 410 32 [12#8, 0#8, 14#8, 1#8]⟩ = some .fieldRange ∧
    recordFault records ⟨5#8, bundleBody 410 32 [12#8, 9#8]⟩ = some .lineQuantity ∧
    recordFault records ⟨5#8, bundleBody 410 32 [12#8, 8#8, 40#8, 64#8]⟩ = none := by decide +kernel

theorem witness_CatalogueReadsImage :
    records.head?.map (fun r => r.kind) = some 1#8 ∧ (bodyAt records 2 3).isSome = true ∧ (bodyAt records 3 3).isSome = true ∧
    bodyAt records 4 14 = none ∧ (bodyAt records 4 40).map (fun b => field b 3 1) = some 2 ∧ bodyAt records 5 4 = none ∧
    (bodyAt records 5 3).map (fun b => (field b 8 1, field b 10 1)) = some (20, 255) ∧
    (headOf records).header =
      { issue := 41, issueMinute := 900, windowLength := 60, windowMode := .auto, threshold := 3, boundary := 40
        classMap := ⟨some 1, some 1, some 1, some 2⟩, batchLimit := 4, requestMode := .level } ∧
    ((catalogue.feature 12).all fun f => decide (f.termStart < f.termEnd) && f.termAt 4999 == .active &&
      f.termAt 5000 == .grace && f.termAt 5059 == .grace && f.termAt 5060 == .lapsed) = true := by decide +kernel

theorem witness_SaveCompletesInOrder :
    (({ serving with store := { serving.store with write := .saving saved } } : State).powered = true ∧
      ({ serving.store with write := .saving saved } : Store).write = .saving saved ∧ serving.resetPin ≠ .releasing) ∧
    (writing.powered = true ∧ writing.store.write = .imageWrite) ∧
    (after .resetAssert writing).resetPin = .asserted ∧
    (after (.resetRelease (Quad.fill low)) (after .resetAssert writing)).resetPin = .releasing ∧
    (after (.resetRelease (Quad.fill low)) (after .resetAssert
      { serving with store := { serving.store with write := .saving saved } })).resetPin = .releasing := by decide +kernel

theorem witness_ActivationActsInEveryBlock :
    replacing.running = true ∧ replacing.store.write = .imageWrite ∧ replacing.stager.port = some 1 ∧
    replacing.stager.area.dropLast = records ∧ replacing.QueueBounded ∧ replacing.due = WindowEnds.zero ∧
    replacing.requests = [] ∧ (ask replacing 0 .checkout []).requests = [req 0 .checkout []] ∧
    ((headOf records).header.windowMode = .auto ∧ (headOf records).header.windowLength = 60) ∧
    (({ replacing with time := { replacing.time with windowTimer := 60 } } : State).time.windowTimer = 60 ∧
      (after (.imageWriteComplete ⟨0, 0, 0, 0⟩)
        { replacing with time := { replacing.time with windowTimer := 60 } }).due = (ended replacing).due) ∧
    (replacing.store.saveWaiting = false ∧ (max 1000 900) / 60 = replacing.time.clock / 60) := by decide +kernel

/-- A CHECKOUT, a SET SHARE and an IDENTIFY passed on: the SET SHARE is the oldest that does not outlast the completion. -/
theorem witness_ActivationActsInEveryBlock_taken :
    (ask (ask (ask replacing 0 .checkout []) 1 .setShare []) 2 .identify []).running = true ∧
    (ask (ask (ask replacing 0 .checkout []) 1 .setShare []) 2 .identify []).store.write = .imageWrite ∧
    (ask (ask (ask replacing 0 .checkout []) 1 .setShare []) 2 .identify []).requests =
      [req 0 .checkout []] ++ req 1 .setShare [] :: [req 2 .identify []] ∧
    Command.setShare ∉ outlastingCommands ∧ (∀ x ∈ [req 0 .checkout []], x.command ∈ outlastingCommands) ∧
    exec (commandRow .setShare 1) (ask (ask (ask replacing 0 .checkout []) 1 .setShare []) 2 .identify []) =
      .next (after (.setShare 1) (ask (ask (ask replacing 0 .checkout []) 1 .setShare []) 2 .identify [])) :=
  ⟨by decide +kernel, by decide +kernel, rfl, by decide, by decide, rfl⟩

/-- Window ends still to be taken, first by the Sweep Unit, then by each of the others alone. -/
theorem witness_ActivationActsInEveryBlock_due :
    (ended replacing).running = true ∧ (ended replacing).store.write = .imageWrite ∧ 0 < (ended replacing).due.sweep ∧
    (ended replacing).requests = [] ∧
    exec .sweepWindowEnd (ended replacing) = .next (after .sweepWindowEnd (ended replacing)) ∧
    (after .sweepWindowEnd (ended replacing)).due.sweep = 0 ∧
    0 < (after .sweepWindowEnd (ended replacing)).due.demand.get 0 ∧
    ({ WindowEnds.zero with grant := 1 } : WindowEnds).demand = ⟨0, 0, 0, 0⟩ ∧
    ({ WindowEnds.zero with port := ⟨0, 0, 0, 1⟩ } : WindowEnds).port.get 3 = 1 :=
  ⟨by decide +kernel, by decide +kernel, by decide +kernel, rfl, rfl, by decide +kernel, by decide +kernel, rfl, rfl⟩

theorem witness_ActivationCutsPolicy :
    replacing.running = true ∧ replacing.serving = true ∧ writing.running = true ∧ writing.serving = false ∧
    replacing.store.write = .imageWrite ∧ writing.store.write = .imageWrite ∧
    (replacing.due = WindowEnds.zero ∧ writing.due = WindowEnds.zero ∧ replacing.requests = [] ∧ writing.requests = []) ∧
    exec (.imageWriteComplete ⟨0, 0, 0, 0⟩) replacing = .next (after (.imageWriteComplete ⟨0, 0, 0, 0⟩) replacing) ∧
    exec (.imageWriteComplete ⟨0, 0, 0, 0⟩) writing = .next (after (.imageWriteComplete ⟨0, 0, 0, 0⟩) writing) :=
  ⟨by decide +kernel, by decide +kernel, by decide +kernel, by decide +kernel, by decide +kernel, by decide +kernel,
    ⟨rfl, rfl, rfl, rfl⟩, rfl, rfl⟩

theorem witness_PolicyAppliesByMode :
    (readyAdmin (ask serving 0 .policyStage [15#8]) (req 0 .policyStage [15#8]) = true ∧ (15#8 : Byte).toNat < 16) ∧
    (readyAdmin (ask serving 0 .policyStage [16#8]) (req 0 .policyStage [16#8]) = true ∧ 16 ≤ (16#8 : Byte).toNat) ∧
    (readyAdmin (ask serving 0 .policyApply []) (req 0 .policyApply []) = true ∧ parseApply [] = none) ∧
    (∀ m ∈ [0#8, 1#8, 2#8], readyAdmin (ask serving 0 .policyApply (b8 (2 ^ 64 - 1) ++ [m]))
      (req 0 .policyApply (b8 (2 ^ 64 - 1) ++ [m])) = true) ∧
    parseApply (b8 (2 ^ 64 - 1) ++ [2#8]) = some (2 ^ 64 - 1, .strip) ∧
    serving.cat.head = some (headOf records) := by decide +kernel

/-- An entry on a feature that no reconciliation finds, behind a blocking one of the same pool, stays. -/
theorem witness_PolicyAppliesByMode_pass :
    let e := { waiter 1 3 false 1 with
      lines := [{ index := none, code := 410, quantity := 1, pool := 0, cost := 50, orphan := true }] }
    let s := { queueing with grant := { queueing.grant with queue := [waiter 0 1 true 5, e] } }
    s.QueueBounded ∧ (s.grant.queue.map fun x => x.slot).Nodup ∧ s.applyPass.grant.queue = [waiter 0 1 true 5] ++ e :: [] ∧
      s.recheckFails e = true := by decide +kernel

theorem witness_PolicyValuesAreClamped :
    (readyAdmin (ask serving 0 .setCeiling []) (req 0 .setCeiling []) = true ∧ parseCeiling [] = none) ∧
    (readyAdmin (ask serving 0 .setCeiling ([0#8] ++ b3 2001 ++ [0#8])) (req 0 .setCeiling ([0#8] ++ b3 2001 ++ [0#8])) = true ∧
      parseCeiling ([0#8] ++ b3 2001 ++ [0#8]) = some { pool := 0, value := 2001, deferred := false }) ∧
    parseCeiling ([3#8] ++ b3 0 ++ [1#8]) = some { pool := 3, value := 0, deferred := true } ∧
    (readyAdmin (ask serving 0 .setShare []) (req 0 .setShare []) = true ∧ parseShare [] = none) ∧
    (readyAdmin (ask serving 0 .setShare ([3#8, 0#8] ++ b3 900 ++ b3 1500))
        (req 0 .setShare ([3#8, 0#8] ++ b3 900 ++ b3 1500)) = true ∧
      parseShare ([3#8, 0#8] ++ b3 900 ++ b3 1500) = some { port := 3, pool := 0, cap := 900, reserve := 1500 }) ∧
    serving.serving = true := by decide +kernel

theorem witness_DroppableRecordsKeepPlaces :
    ((List.replicate 508 (logRecord 1)).length + 3 + 1 ≤ 512 ∧ 4294967295 ≤ 4294967295) ∧
    512 < (List.replicate 509 (logRecord 1)).length + 3 + 1 ∧ 65535 ≤ 65535 := by decide +kernel

theorem witness_BatchDeliversRecords :
    (logged.running = true ∧ logged.cat.head = some (headOf records) ∧ logged.journal.batch = .idle ∧
      logged.journal.fifo ≠ []) ∧
    (State.reset.running = true ∧ State.reset.cat.head = none) ∧
    (draining.running = true ∧ draining.journal.batch = .running ∧ draining.journal.bytePos = 32 ∧
      2 ≤ draining.journal.remaining ∧ ({ draining.journal with bytePos := 31 } : Journal).bytePos < 32 ∧
      ({ draining.journal with remaining := 1 } : Journal).remaining ≤ 1) ∧
    draining.journal.fifo.head? = some (logRecord 994) := by decide +kernel

/-! ### States that meet the invariants -/

theorem sequenced_records : Sequenced (records ++ [⟨6#8, b1 0 ++ b4 0⟩]) := by decide +kernel

theorem verified_records : Verified records := ⟨by decide +kernel, ⟨6#8, b1 0 ++ b4 0⟩, rfl, sequenced_records⟩

theorem images_serving (s : State) (hc : s.cat = catalogue) (hs : s.stager = Stager.initial)
    (ht : s.store = { Store.factory with image := some records }) : s.ImagesVerified := by
  have hh : catalogue.Holds records := ⟨rfl, by decide +kernel, by decide +kernel⟩
  refine ⟨?_, ?_, ?_, ?_, ?_, ?_⟩
  · rw [hs]; decide
  · rw [hs]; rintro (h | h) <;> cases h
  · rw [ht]; intro h; cases h
  · rw [ht]; intro h; cases h
  · rw [ht]; intro rs h; cases h; exact verified_records
  · intro _; rw [hc]; exact ⟨records, verified_records, hh⟩

/-- A part that holds checkouts, waits and a running batch, with a command to carry out. -/
def lively : State :=
  { queueing with
    journal := { draining.journal with rv := 2 }
    watches := { queueing.watches with q0 := { queueing.watches.q0 with
      watch := .short, overdraft := .opened, history := [false, true, false, false, false, false, false, false] } }
    sweep := walking.sweep
    pending := [.secondTick] }

/-- Its next state. -/
theorem lively_step : step lively = .next (after .secondTick { lively with pending := [] }) := rfl

theorem witness_TokensAndReservationsBalance : lively.TokensBalance ∧ lively.JournalFits := by decide +kernel

theorem witness_SlotsAndQueueStayBounded : lively.SlotsNumbered ∧ lively.QueueBounded := by decide +kernel

theorem witness_OnlyVerifiedImagesServe : lively.ImagesVerified ∧ lively.stager.Shaped :=
  ⟨images_serving lively rfl rfl rfl, rfl, rfl, rfl, rfl⟩

theorem witness_JournalStaysInOrder :
    lively.ImagesVerified ∧ lively.journal.Numbered ∧ lively.journal.BatchShaped :=
  ⟨images_serving lively rfl rfl rfl, by decide +kernel, by
    show 1 ≤ lively.journal.remaining ∧ lively.journal.remaining ≤ lively.journal.fifo.length ∧
      lively.journal.bytePos ≤ Config.recordBytes
    decide +kernel⟩

theorem witness_PolicyAndWatchesStayBounded :
    lively.ImagesVerified ∧ lively.PolicyBounded ∧ lively.OverdraftJustified ∧ lively.ShortIsHot := by
  refine ⟨images_serving lively rfl rfl rfl, ?_, by decide +kernel, ?_⟩
  · intro k
    refine ⟨?_, by revert k; decide +kernel, by revert k; decide +kernel⟩
    intro v hv
    have : ∀ k, ((lively.pool k).ceiling.all fun v => decide (v ≤ lively.cat.capacity k)) = true := by decide +kernel
    simpa [hv] using this k
  · intro k
    refine ⟨by revert k; decide +kernel, ?_⟩
    intro h
    refine ⟨(headOf records).pools.get k, rfl, ?_⟩
    have : ∀ k : Pool, (lively.watches.get k).watch = .short →
        0 < (lively.watches.get k).hotCount ((headOf records).pools.get k).taps := by decide +kernel
    exact this k h

theorem witness_PortsStayShaped : (ask lively 2 .identify []).PortsShaped ∧ lively.NoticesBounded := by
  decide +kernel

theorem witness_UnitsStayShaped :
    (lively.resetPin = .released → lively.TermsCurrent) ∧ lively.CountersBounded ∧ lively.stager.Shaped ∧
    lively.sweep.Shaped :=
  ⟨fun _ => by decide +kernel, by decide +kernel, ⟨rfl, rfl, rfl, rfl⟩, ⟨3, rfl, by decide +kernel⟩⟩

theorem witness_ImageCrcAsGiven :
    (⟨6#8, b1 0 ++ b4 0⟩ : ImageRecord).kind = 6#8 ∧ field (b1 0 ++ b4 0) 0 1 = ([] : List ImageRecord).length ∧
    (0 = (crc32 (([] : List ImageRecord).flatMap fun x => x.kind :: x.body)).toNat ∧ field (b1 0 ++ b4 0) 1 4 = 0) ∧
    field (b1 0 ++ b4 1) 1 4 ≠ 0 := by decide +kernel

end Sys2Proof.Tests
end

section
/-! SUPPORT. What the commands are made of: a property of the state that every elementary change of the Grant Engine, the
Journal, the Demand Watch units and the catalogue keeps is kept by every command, but for the two events that put new
values into every block (reset and the completion of an activation), which are left to each invariant. -/

namespace Sys2Proof.Machine.Charges

/-! ### Elementary changes -/

/-- A pool's policy fields lie within a capacity (R22, R165). -/
def PoolBounded (capacity : Nat) (q : PoolState) : Prop :=
  (∀ v, q.ceiling = some v → v ≤ capacity) ∧ q.reserve.sum ≤ capacity ∧
  ∀ p : Port, q.cap.get p ≤ capacity ∧ (q.cap.get p ≠ 0 → q.reserve.get p ≤ q.cap.get p)

/-- A change of a pool that leaves its tokens where they are and its policy fields within the capacity (R163 to R166). -/
structure PolicyChange (capacity : Nat) (q q' : PoolState) : Prop where
  inUse : q'.inUse = q.inUse
  held : q'.held = q.held
  bounded : PoolBounded capacity q → PoolBounded capacity q'

theorem PolicyChange.refl (capacity : Nat) (q : PoolState) : PolicyChange capacity q q := ⟨rfl, rfl, id⟩

/-- An entry with the owner, charges and flags of another: what a visit or a heartbeat leaves of a checkout (R106, R112). -/
structure SameCharge (e x : Checkout) : Prop where
  owner : x.owner = e.owner
  charges : x.charges = e.charges
  flags : x.flags = e.flags

theorem SameCharge.refl (e : Checkout) : SameCharge e e := ⟨rfl, rfl, rfl⟩

/-- The watch of a pool after steps 1 and 2 of its window-end work, under its pool record (R122). -/
def judged (s : State) (k : Pool) (q : PoolRec) : Watch := (s.watches.get k).judge q (s.pool k).inUse

/-- What a Demand Watch can become at a window end of its pool (R122 to R127, R135). -/
inductive WatchOutcome (s : State) (k : Pool) : Watch → Prop where
  | cold : s.cat.poolRec k = none → WatchOutcome s k ((s.watches.get k).shift false)
  | stays (q : PoolRec) : s.cat.poolRec k = some q → (judged s k q).moved q = (judged s k q).watch →
      WatchOutcome s k (judged s k q)
  | short (q : PoolRec) : s.cat.poolRec k = some q → (judged s k q).watch = .clear →
      (judged s k q).moved q = .short → WatchOutcome s k { judged s k q with watch := .short }
  | opens (q : PoolRec) : s.cat.poolRec k = some q → (judged s k q).watch = .clear →
      (judged s k q).moved q = .short → 0 < q.allowance →
      WatchOutcome s k { judged s k q with watch := .short, overdraft := .opened }
  | clears (q : PoolRec) : s.cat.poolRec k = some q →
      WatchOutcome s k { judged s k q with watch := .clear, overdraft := .closed }

/-- `t` has the catalogue, the Grant Engine, the Demand Watch units, the Journal and the queue of commands of `s`. -/
structure SameCore (s t : State) : Prop where
  cat : t.cat = s.cat
  grant : t.grant = s.grant
  watches : t.watches = s.watches
  journal : t.journal = s.journal
  pending : t.pending = s.pending

/-- A property that each elementary change keeps. -/
structure Kept (P : State → Prop) : Prop where
  /-- A change outside those five. -/
  frame : ∀ {s t : State}, P s → SameCore s t → P t
  /-- A change of slots' flags or term states (R15, R161). -/
  slots : ∀ (s : State) (xs : List FeatureSlot), P s → P { s with cat := { s.cat with slots := xs } }
  /-- A change of the wait queue (R56, R70, R77, R78). -/
  queue : ∀ (s : State) (q : List WaitEntry) (w : List Nat), P s →
    P { s with grant := { s.grant with queue := q, waitGens := w } }
  /-- A change of site policy (R163 to R166). -/
  policy : ∀ (s : State) (q : Quad PoolState), (∀ k, PolicyChange (s.cat.capacity k) (s.pool k) (q.get k)) → P s →
    P (s.withPools q)
  /-- A release (R58). -/
  release : ∀ (s : State) (n : Nat) (e x : Checkout) (kind : RecordKind), s.checkoutAt n = some e → SameCharge e x →
    P s → P (s.release n x kind)
  /-- A heartbeat or a visit that leaves the checkout held (R106, R112). -/
  touch : ∀ (s : State) (n : Nat) (e x : Checkout), s.checkoutAt n = some e → SameCharge e x → P s →
    P (s.setSlot n { generation := s.generationAt n, entry := some x })
  /-- A grant into a FREE slot, with room in the journal where it is metered (R51, R52). -/
  grant : ∀ (s : State) (n : Nat) (g : GrantOrder), s.freeSlot = some n →
    (g.metered = true → s.journal.room 2 = true) → P s → P (s.grantInto n g)
  /-- A droppable record (R173). -/
  droppable : ∀ (s : State) (b : RecordBody), P s → P (s.recordDroppable b)
  /-- A change of the batch, which may remove the oldest record (R176 to R179). -/
  batch : ∀ (s : State) (j : Journal), j.fifo <:+ s.journal.fifo → j.rv = s.journal.rv → P s → P (s.withJournal j)
  /-- Shortfalls handed to the Demand Watch units (R120). -/
  shortfalls : ∀ (s : State) (c : Catalogue) (g : GrantOrder), P s → P (s.handShortfalls c g)
  /-- A Demand Watch at a window end (R122 to R135). -/
  watch : ∀ (s : State) (k : Pool) (w : Watch), WatchOutcome s k w → P s → P (s.withWatch k w)

variable {P : State → Prop}

/-! ### Operations shared by several commands -/

theorem dropRequest_keeps (hP : Kept P) {s : State} (c : Command) (p : Port) (h : P s) : P (s.dropRequest c p) :=
  hP.frame h ⟨rfl, rfl, rfl, rfl, rfl⟩

theorem respond_keeps (hP : Kept P) {s : State} (r : Request) (x : Reply) (h : P s) : P (s.respond r x) := by
  rcases s.respond_cases r x with ⟨-, e⟩ | ⟨-, e⟩ <;> rw [e]
  · exact hP.frame h ⟨rfl, rfl, rfl, rfl, rfl⟩
  · exact h

theorem notify_keeps (hP : Kept P) {s : State} (p : Port) (x : Notice) (h : P s) : P (s.notify p x) :=
  hP.frame h ⟨rfl, rfl, rfl, rfl, rfl⟩

theorem updateEntry_keeps (hP : Kept P) {s : State} (n : Nat) (f : WaitEntry → WaitEntry) (h : P s) :
    P (s.updateEntry n f) :=
  hP.queue s _ s.grant.waitGens h

theorem endWait_keeps (hP : Kept P) {s : State} (c : Option WaitCause) (e : WaitEntry) (h : P s) :
    P (s.endWait c e) := by
  have hl : P (s.leaveQueue e) := hP.queue s _ _ h
  cases c with
  | none => exact hP.droppable _ _ hl
  | some x => exact hP.droppable _ _ (notify_keeps hP _ _ hl)

theorem endWaits_keeps (hP : Kept P) {s : State} (c : Option WaitCause) (es : List WaitEntry) (h : P s) :
    P (s.endWaits c es) :=
  State.endWaits_induct c (fun _ e hs => endWait_keeps hP c e hs) es s h

theorem grantWaiting_keeps (hP : Kept P) {s : State} (n : Nat) (e : WaitEntry) (hn : s.freeSlot = some n)
    (hr : (s.orderOf e).metered = true → s.journal.room 2 = true) (h : P s) : P (s.grantWaiting n e) :=
  notify_keeps hP _ _ (hP.queue _ _ _ (hP.grant s n (s.orderOf e) hn hr h))

theorem queuePass_keeps (hP : Kept P) {s : State} (h : P s) : P s.queuePass :=
  State.queuePass_induct (fun _ e _ hs => endWait_keeps hP _ e hs) (fun _ n f _ hs => updateEntry_keeps hP n f hs)
    (fun _ n e _ _ hn hr hs => grantWaiting_keeps hP n e hn hr hs) s h

theorem applyPass_keeps (hP : Kept P) {s : State} (h : P s) : P s.applyPass :=
  State.applyPass_induct (fun _ e hs => endWait_keeps hP _ e hs) (fun _ n f _ hs => updateEntry_keeps hP n f hs)
    (fun _ n e _ _ hn hr hs => grantWaiting_keeps hP n e hn hr hs) s h

theorem releaseSlot_keeps (hP : Kept P) {s : State} (kind : RecordKind) (n : Nat) (h : P s) :
    P (s.releaseSlot kind n) := by
  unfold State.releaseSlot
  split
  · exact hP.release _ _ _ _ _ (by assumption) (.refl _) h
  · exact h

theorem releaseMany_keeps (hP : Kept P) {s : State} (slots : List Nat) (es : List WaitEntry) (h : P s) :
    P (s.releaseMany slots es) := by
  have hslots : ∀ (l : List Nat) (t : State), P t → P (l.foldl (State.releaseSlot · .returned) t) := by
    intro l
    induction l with
    | nil => exact fun t ht => ht
    | cons n l ih => exact fun t ht => ih _ (releaseSlot_keeps hP _ n ht)
  have hends := endWaits_keeps hP none es (hslots slots s h)
  unfold State.releaseMany
  dsimp only
  split
  · exact hends
  · exact queuePass_keeps hP hends

theorem discardStaging_keeps (hP : Kept P) {s : State} (h : P s) : P s.discardStaging :=
  hP.frame h ⟨rfl, rfl, rfl, rfl, rfl⟩

theorem abandonStaging_keeps (hP : Kept P) {s : State} (p : Port) (h : P s) : P (s.abandonStaging p) := by
  unfold State.abandonStaging
  split
  · exact discardStaging_keeps hP h
  · exact h

theorem withStager_keeps (hP : Kept P) {s : State} (t : Stager) (h : P s) : P (s.withStager t) :=
  hP.frame h ⟨rfl, rfl, rfl, rfl, rfl⟩

theorem noteStaging_keeps (hP : Kept P) {s : State} (p : Port) (h : P s) : P (s.noteStaging p) := by
  unfold State.noteStaging
  split
  · exact withStager_keeps hP _ h
  · exact h

theorem askSave_keeps (hP : Kept P) {s : State} (h : P s) : P s.askSave := by
  rcases s.askSave_cases with ⟨-, e⟩ | ⟨-, e⟩ <;> rw [e] <;> exact hP.frame h ⟨rfl, rfl, rfl, rfl, rfl⟩

theorem askImageWrite_keeps (hP : Kept P) {s : State} (h : P s) : P s.askImageWrite := by
  rcases s.askImageWrite_cases with ⟨-, e⟩ | ⟨-, e⟩ | ⟨-, e⟩ <;> rw [e]
  · exact hP.frame h ⟨rfl, rfl, rfl, rfl, rfl⟩
  · exact hP.frame h ⟨rfl, rfl, rfl, rfl, rfl⟩
  · exact h

theorem nextWrite_keeps (hP : Kept P) {s : State} (h : P s) : P s.nextWrite := by
  rcases s.nextWrite_cases with ⟨-, e⟩ | ⟨-, -, e⟩ | ⟨-, -, e⟩ <;> rw [e] <;>
    exact hP.frame h ⟨rfl, rfl, rfl, rfl, rfl⟩

theorem changeClock_keeps (hP : Kept P) {s : State} (clock : Nat) (h : P s) : P (s.changeClock clock) := by
  rcases s.changeClock_cases clock with ⟨-, e⟩ | ⟨-, u, hu, e, e'⟩
  · rw [e]; exact h
  · have hPu : P u := by
      rw [hu]
      exact hP.frame (hP.slots s (s.cat.atClock clock).slots h) ⟨rfl, rfl, rfl, rfl, rfl⟩
    by_cases hd : clock / 60 = s.time.clock / 60
    · rw [e hd]; exact hPu
    · rw [e' hd]; exact askSave_keeps hP hPu

/-! ### The works of the commands -/

theorem needsCatalogue_keeps {s : State} {b : Basis} {work : State × Reply} (h : P s) (hw : P work.1) :
    P (needsCatalogue b s work).1 := by
  unfold needsCatalogue; split <;> assumption

theorem needsAdmin_keeps {s : State} {b : Basis} {work : State × Reply} (h : P s) (hw : P work.1) :
    P (needsAdmin b s work).1 := by
  unfold needsAdmin; split <;> assumption

theorem needsTime_keeps {s : State} {b : Basis} {work : State × Reply} (h : P s) (hw : P work.1) :
    P (needsTime b s work).1 := by
  unfold needsTime; split <;> assumption

theorem policyCommand_keeps {s : State} {r : Request} {own : State × Reply} (h : P s) (hw : P own.1) :
    P (policyCommand r s own).1 :=
  needsCatalogue_keeps h (needsAdmin_keeps h hw)

theorem staging_keeps (hP : Kept P) {s : State} {stagerOnly : Bool} {r : Request} {own : State → State × Reply}
    (h : P s) (hw : ∀ t, P t → P (own t).1) : P (staging stagerOnly r s own).1 := by
  refine needsAdmin_keeps h ?_
  have hn := noteStaging_keeps hP r.port h
  dsimp only
  split
  · exact hn
  · split
    · exact hn
    · exact hw _ hn

theorem refuse_keeps (hP : Kept P) {s : State} (c : Catalogue) (kept : Bool) (g : GrantOrder) (timeout : Nat)
    (q : QueueReason) (h : P s) : P (s.refuse c kept g timeout q).1 := by
  have hs := hP.shortfalls s c g h
  unfold State.refuse
  dsimp only
  split
  · split
    · split
      · exact hP.queue _ _ (s.handShortfalls c g).grant.waitGens hs
      · exact hP.droppable _ _ hs
    · exact hP.droppable _ _ hs
  · exact hP.droppable _ _ hs

/-- A request that fails no test finds a FREE slot, and room in the journal where it is metered (R51). -/
theorem orderFailure_none {s : State} {c : Catalogue} {g : GrantOrder} (h : s.orderFailure c g = none) :
    (∃ n, s.freeSlot = some n) ∧ (g.metered = true → s.journal.room 2 = true) := by
  unfold State.orderFailure at h
  cases hf : s.freeSlot with
  | none => simp [hf] at h; split at h <;> simp at h
  | some n =>
    refine ⟨⟨n, rfl⟩, fun hm => ?_⟩
    cases hr : s.journal.room 2 with
    | true => rfl
    | false => simp [hf, hm, hr] at h; split at h <;> simp at h

theorem judgeOrder_keeps (hP : Kept P) {s : State} (c : Catalogue) (kept : Bool) (g : GrantOrder) (timeout : Nat)
    (h : P s) : P (s.judgeOrder c kept g timeout).1 := by
  unfold State.judgeOrder
  split
  · exact refuse_keeps hP _ _ _ _ _ h
  · rename_i hn
    obtain ⟨⟨n, hn⟩, hr⟩ := orderFailure_none hn
    have hm : (if kept then g else g.reconcile s.cat).metered = g.metered := by cases kept <;> rfl
    exact hP.grant s _ _ (by simp [hn]) (by rwa [hm]) h

theorem checkoutWork_keeps (hP : Kept P) {s : State} (r : Request) (h : P s) : P (checkoutWork r s).1 := by
  refine needsCatalogue_keeps h ?_
  split
  · exact h
  · split
    · exact h
    · split
      · exact hP.droppable _ _ h
      · exact judgeOrder_keeps hP _ _ _ _ h

/-- A handle names the checkout that its slot holds (R43). -/
theorem checkoutAt_of_findHandle {s : State} {h n : Nat} {e : Checkout} (hf : s.findHandle h = some (n, e)) :
    s.checkoutAt n = some e := by
  unfold State.findHandle at hf
  split at hf
  · rename_i x hx
    split at hf
    · obtain ⟨rfl, rfl⟩ := Prod.mk.inj (Option.some.inj hf); exact hx
    · cases hf
  · cases hf

theorem returnWork_keeps (hP : Kept P) {s : State} (r : Request) (h : P s) : P (returnWork r s).1 := by
  refine needsCatalogue_keeps h ?_
  split
  · exact h
  · split
    · exact h
    · rename_i hf
      have hc := checkoutAt_of_findHandle hf
      split
      · exact queuePass_keeps hP (hP.release _ _ _ _ _ hc (.refl _) h)
      · split
        · exact queuePass_keeps hP (notify_keeps hP _ _ (hP.release _ _ _ _ _ hc (.refl _) h))
        · exact h

theorem returnTagWork_keeps (hP : Kept P) {s : State} (r : Request) (h : P s) : P (returnTagWork r s).1 := by
  refine needsCatalogue_keeps h ?_
  split
  · exact h
  · exact releaseMany_keeps hP _ _ h

theorem releasePortWork_keeps (hP : Kept P) {s : State} (r : Request) (h : P s) : P (releasePortWork r s).1 := by
  refine needsCatalogue_keeps h ?_
  split
  · exact h
  · exact abandonStaging_keeps hP _ (releaseMany_keeps hP _ _ h)

theorem queryCheckoutWork_keeps {s : State} (r : Request) (h : P s) : P (queryCheckoutWork r s).1 := by
  refine needsCatalogue_keeps h ?_
  split
  · exact h
  · split <;> exact h

theorem beat_keeps (hP : Kept P) {s : State} (b : Basis) (kept : Bool) (p : Port) (n : Nat) (h : P s) :
    P (s.beat b kept p n).1 := by
  unfold State.beat
  split
  · exact h
  · rename_i hf
    split
    · exact h
    · split
      · exact h
      · exact hP.touch _ _ _ _ (checkoutAt_of_findHandle hf) ⟨rfl, rfl, rfl⟩ h

theorem beatAll_keeps (hP : Kept P) (b : Basis) (kept : Bool) (p : Port) (ns : List Nat) :
    ∀ s, P s → P (s.beatAll b kept p ns).1 := by
  induction ns with
  | nil => exact fun s h => h
  | cons n ns ih => exact fun s h => ih _ (beat_keeps hP b kept p n h)

theorem heartbeatWork_keeps (hP : Kept P) {s : State} (r : Request) (h : P s) : P (heartbeatWork r s).1 := by
  refine needsCatalogue_keeps h ?_
  split
  · exact h
  · exact beatAll_keeps hP _ _ _ _ _ h

theorem cancel_keeps (hP : Kept P) {s : State} (c : Option WaitCause) (e : WaitEntry) (h : P s) :
    P (s.cancel c e).1 := by
  have he := endWait_keeps hP c e h
  unfold State.cancel
  dsimp only
  split
  · exact queuePass_keeps hP he
  · exact he

theorem cancelWaitWork_keeps (hP : Kept P) {s : State} (r : Request) (h : P s) : P (cancelWaitWork r s).1 := by
  refine needsCatalogue_keeps h ?_
  split
  · exact h
  · split
    · exact h
    · split
      · exact cancel_keeps hP _ _ h
      · split
        · exact cancel_keeps hP _ _ h
        · exact h

theorem queryWaitWork_keeps {s : State} (r : Request) (h : P s) : P (queryWaitWork r s).1 := by
  refine needsCatalogue_keeps h ?_
  split
  · exact h
  · split <;> exact h

theorem queryFeatureWork_keeps {s : State} (r : Request) (h : P s) : P (queryFeatureWork r s).1 := by
  refine needsCatalogue_keeps h ?_
  split
  · exact h
  · split
    · exact h
    · split <;> exact h

theorem queryPoolWork_keeps {s : State} (r : Request) (h : P s) : P (queryPoolWork r s).1 := by
  refine needsCatalogue_keeps h ?_
  split <;> exact h

theorem timeAssertWork_keeps (hP : Kept P) {s : State} (r : Request) (h : P s) : P (timeAssertWork r s).1 := by
  refine needsTime_keeps h ?_
  split
  · exact h
  · split
    · exact h
    · unfold State.assertTime
      dsimp only
      split
      · exact h
      · exact hP.droppable _ _ (changeClock_keeps hP _ h)

theorem produceWindowEnd_keeps (hP : Kept P) {s : State} (h : P s) : P s.produceWindowEnd :=
  hP.frame h ⟨rfl, rfl, rfl, rfl, rfl⟩

theorem windowCloseWork_keeps (hP : Kept P) {s : State} (r : Request) (h : P s) : P (windowCloseWork r s).1 := by
  refine needsAdmin_keeps h ?_
  split
  · exact h
  · exact produceWindowEnd_keeps hP h

theorem stageBeginWork_keeps (hP : Kept P) {s : State} (r : Request) (h : P s) : P (stageBeginWork r s).1 := by
  refine staging_keeps hP h fun t ht => ?_
  split
  · exact ht
  · split
    · exact withStager_keeps hP _ ht
    · exact ht

theorem stageRecordWork_keeps (hP : Kept P) {s : State} (r : Request) (h : P s) : P (stageRecordWork r s).1 := by
  refine staging_keeps hP h fun t ht => ?_
  split
  · unfold State.offerRecord
    split
    · exact withStager_keeps hP _ ht
    · exact ht
  · exact ht

theorem stageFinishWork_keeps (hP : Kept P) {s : State} (r : Request) (h : P s) : P (stageFinishWork r s).1 := by
  refine staging_keeps hP h fun t ht => ?_
  split
  · exact ht
  · split
    · exact ht
    · unfold State.verifyStaging
      split
      · exact discardStaging_keeps hP ht
      · exact withStager_keeps hP _ ht

theorem activateWork_keeps (hP : Kept P) {s : State} (r : Request) (h : P s) : P (activateWork r s).1 := by
  refine staging_keeps hP h fun t ht => ?_
  split
  · exact ht
  · split
    · exact ht
    · split
      · exact ht
      · exact askImageWrite_keeps hP (withStager_keeps hP _ ht)

theorem stageAbortWork_keeps (hP : Kept P) {s : State} (r : Request) (h : P s) : P (stageAbortWork r s).1 := by
  refine staging_keeps hP h fun t ht => ?_
  split
  · exact ht
  · exact discardStaging_keeps hP ht

theorem policyStageWork_keeps (hP : Kept P) {s : State} (r : Request) (h : P s) : P (policyStageWork r s).1 := by
  refine policyCommand_keeps h ?_
  split
  · exact h
  · exact hP.frame h ⟨rfl, rfl, rfl, rfl, rfl⟩

theorem policyApplyWork_keeps (hP : Kept P) {s : State} (r : Request) (h : P s) : P (policyApplyWork r s).1 := by
  refine policyCommand_keeps h ?_
  split
  · exact h
  · exact applyPass_keeps hP (hP.slots s _ h)

/-! ### Site policy (R163 to R166) -/

/-- A table's sum with one place written is the sum with 0 there and the value written. -/
theorem sum_set (q : Quad Nat) (i : Fin 4) (a : Nat) : (q.set i a).sum = (q.set i 0).sum + a := by
  fin_cases i <;> simp [Quad.set, Quad.sum] <;> omega

theorem sum_set_zero_le (q : Quad Nat) (i : Fin 4) : (q.set i 0).sum ≤ q.sum := by
  fin_cases i <;> simp [Quad.set, Quad.sum]

/-- One pool changed within its capacity. -/
theorem withPool_keeps (hP : Kept P) {s : State} {k : Pool} {q : PoolState}
    (hq : PolicyChange (s.cat.capacity k) (s.pool k) q) (h : P s) : P (s.withPool k q) := by
  refine hP.policy s _ (fun j => ?_) h
  rw [Quad.get_set]
  split
  · rename_i e; subst e; exact hq
  · exact .refl _ _

/-- A ceiling of at most the capacity keeps a pool's policy within it. -/
theorem policyChange_ceiling (capacity v : Nat) (pendingCeiling : Option Nat) (q : PoolState) :
    PolicyChange capacity q { q with ceiling := some (min v capacity), pendingCeiling := pendingCeiling } :=
  ⟨rfl, rfl, fun ⟨_, hr, hp⟩ => ⟨fun w hw => by cases hw; exact Nat.min_le_right _ _, hr, hp⟩⟩

theorem policyChange_pending (capacity : Nat) (v : Option Nat) (q : PoolState) :
    PolicyChange capacity q { q with pendingCeiling := v } :=
  ⟨rfl, rfl, id⟩

theorem setCeiling_keeps (hP : Kept P) {s : State} (q : CeilingRequest) (h : P s) : P (s.setCeiling q) := by
  unfold State.setCeiling
  dsimp only
  split
  · exact withPool_keeps hP (policyChange_pending _ _ _) h
  · split
    · exact queuePass_keeps hP (withPool_keeps hP (policyChange_ceiling _ _ _ _) h)
    · exact withPool_keeps hP (policyChange_ceiling _ _ _ _) h

/-- A share as SET SHARE clamps it keeps a pool's policy within the capacity (R165). -/
theorem policyChange_share (s : State) (q : ShareRequest) :
    PolicyChange (s.cat.capacity q.pool) (s.pool q.pool) { s.pool q.pool with
      cap := (s.pool q.pool).cap.set q.port (s.appliedCap q)
      reserve := (s.pool q.pool).reserve.set q.port (s.appliedReserve q) } := by
  have hcap : s.appliedCap q ≤ s.cat.capacity q.pool := Nat.min_le_right _ _
  have hroom : s.appliedReserve q ≤ s.reserveRoom q := by
    unfold State.appliedReserve; dsimp only; split <;> omega
  have hshare : s.appliedCap q ≠ 0 → s.appliedReserve q ≤ s.appliedCap q := fun h => by
    unfold State.appliedReserve; simp only [h, if_false]; exact Nat.min_le_right _ _
  refine ⟨rfl, rfl, fun ⟨hc, hr, hp⟩ => ⟨hc, ?_, fun p => ?_⟩⟩
  · have := sum_set_zero_le (s.pool q.pool).reserve q.port
    unfold State.reserveRoom at hroom
    dsimp only
    rw [sum_set]
    omega
  · simp only [Quad.get_set]
    split
    · exact ⟨hcap, hshare⟩
    · exact hp p

theorem setShare_keeps (hP : Kept P) {s : State} (q : ShareRequest) (h : P s) : P (s.setShare q) :=
  queuePass_keeps hP (withPool_keeps hP (policyChange_share s q) h)

theorem setCeilingWork_keeps (hP : Kept P) {s : State} (r : Request) (h : P s) : P (setCeilingWork r s).1 := by
  refine policyCommand_keeps h ?_
  split
  · exact h
  · exact setCeiling_keeps hP _ h

theorem setShareWork_keeps (hP : Kept P) {s : State} (r : Request) (h : P s) : P (setShareWork r s).1 := by
  refine policyCommand_keeps h ?_
  split
  · exact h
  · exact setShare_keeps hP _ h

theorem applyPendings_keeps (hP : Kept P) {s : State} (h : P s) : P s.applyPendings := by
  refine hP.policy s _ (fun k => ?_) h
  rw [Quad.get_ofFn]
  unfold PoolState.applyPending
  split
  · exact .refl _ _
  · exact policyChange_ceiling _ _ _ _

/-! ### A port's own commands -/

theorem modifyPort_keeps (hP : Kept P) {s : State} (p : Port) (f : PortIf → PortIf) (h : P s) :
    P (s.modifyPort p f) :=
  hP.frame h ⟨rfl, rfl, rfl, rfl, rfl⟩

theorem journalStatusWork_keeps {s : State} (r : Request) (h : P s) : P (journalStatusWork r s).1 := by
  unfold journalStatusWork; split <;> exact h

theorem readNoticeWork_keeps (hP : Kept P) {s : State} (r : Request) (h : P s) : P (readNoticeWork r s).1 := by
  unfold readNoticeWork
  split
  · exact h
  · exact modifyPort_keeps hP _ _ h

theorem setNoticeWork_keeps (hP : Kept P) {s : State} (r : Request) (h : P s) : P (setNoticeWork r s).1 := by
  unfold setNoticeWork
  split
  · exact h
  · exact modifyPort_keeps hP _ _ h

theorem identifyWork_keeps {s : State} (r : Request) (h : P s) : P (identifyWork r s).1 := by
  unfold identifyWork; split <;> exact h

/-- Every command's work keeps what the elementary changes keep. -/
theorem workOf_keeps (hP : Kept P) (c : Command) {s : State} (r : Request) (h : P s) : P (workOf c r s).1 := by
  cases c with
  | checkout => exact checkoutWork_keeps hP r h
  | returnCheckout => exact returnWork_keeps hP r h
  | returnTag => exact returnTagWork_keeps hP r h
  | releasePort => exact releasePortWork_keeps hP r h
  | queryCheckout => exact queryCheckoutWork_keeps r h
  | heartbeat => exact heartbeatWork_keeps hP r h
  | cancelWait => exact cancelWaitWork_keeps hP r h
  | queryWait => exact queryWaitWork_keeps r h
  | queryFeature => exact queryFeatureWork_keeps r h
  | queryPool => exact queryPoolWork_keeps r h
  | timeAssert => exact timeAssertWork_keeps hP r h
  | windowClose => exact windowCloseWork_keeps hP r h
  | stageBegin => exact stageBeginWork_keeps hP r h
  | stageRecord => exact stageRecordWork_keeps hP r h
  | stageFinish => exact stageFinishWork_keeps hP r h
  | activate => exact activateWork_keeps hP r h
  | stageAbort => exact stageAbortWork_keeps hP r h
  | policyStage => exact policyStageWork_keeps hP r h
  | policyApply => exact policyApplyWork_keeps hP r h
  | setCeiling => exact setCeilingWork_keeps hP r h
  | setShare => exact setShareWork_keeps hP r h
  | journalStatus => exact journalStatusWork_keeps r h
  | readNotice => exact readNoticeWork_keeps hP r h
  | setNotice => exact setNoticeWork_keeps hP r h
  | identify => exact identifyWork_keeps r h

theorem carryOut_keeps (hP : Kept P) {s : State} (c : Command) (p : Port) (r : Request) (h : P s) :
    P (s.carryOut c p r (workOf c)) :=
  respond_keeps hP _ _ (workOf_keeps hP c r (dropRequest_keeps hP c p h))

theorem finish_keeps (hP : Kept P) {s : State} (due : Request → Bool) (h : P s) : P (s.finish due) :=
  State.finish_induct due (fun _ r _ hu => carryOut_keeps hP _ _ r hu) s h

/-! ### Port events and second ticks -/

theorem endTransaction_keeps (hP : Kept P) {s : State} (p : Port) (bytes : List Byte) (h : P s) :
    P (s.endTransaction p bytes) := by
  unfold State.endTransaction
  split
  · exact h
  · split
    · have hs := modifyPort_keeps hP p (fun q => { q with sdo := silentBytes (‹List Byte›.length + 1) }) h
      unfold State.writeTransaction
      dsimp only
      split
      · exact modifyPort_keeps hP _ _ hs
      · exact modifyPort_keeps hP _ _ hs
      · unfold State.takeFrame
        split
        · exact modifyPort_keeps hP _ _ hs
        all_goals exact hP.frame hs ⟨rfl, rfl, rfl, rfl, rfl⟩
    · split
      · exact modifyPort_keeps hP _ _ h
      · exact h

theorem resetPort_keeps (hP : Kept P) {s : State} (p : Port) (h : P s) : P (s.resetPort p) := by
  have hf : P ((s.clearPort p).finishStaging p) := finish_keeps hP _ (hP.frame h ⟨rfl, rfl, rfl, rfl, rfl⟩)
  refine abandonStaging_keeps hP _ ?_
  unfold State.dropEntries
  dsimp only
  split
  · exact queuePass_keeps hP (endWaits_keeps hP _ _ hf)
  · exact endWaits_keeps hP _ _ hf

theorem countWindow_keeps (hP : Kept P) {s : State} (h : P s) : P s.countWindow := by
  rcases s.countWindow_cases with ⟨-, -, e⟩ | ⟨-, e⟩ <;> rw [e] <;> exact hP.frame h ⟨rfl, rfl, rfl, rfl, rfl⟩

theorem countMinute_keeps (hP : Kept P) {s : State} (h : P s) : P s.countMinute := by
  unfold State.countMinute
  split
  · exact hP.frame h ⟨rfl, rfl, rfl, rfl, rfl⟩
  · exact changeClock_keeps hP _ (hP.frame h ⟨rfl, rfl, rfl, rfl, rfl⟩)

theorem countStaging_keeps (hP : Kept P) {s : State} (h : P s) : P s.countStaging := by
  rcases s.countStaging_cases with ⟨-, e⟩ | ⟨-, -, e⟩ | ⟨-, -, e⟩ <;> rw [e]
  · exact h
  all_goals exact hP.frame h ⟨rfl, rfl, rfl, rfl, rfl⟩

theorem tick_keeps (hP : Kept P) {s : State} (h : P s) : P s.tick :=
  countStaging_keeps hP (countMinute_keeps hP (countWindow_keeps hP (hP.frame h ⟨rfl, rfl, rfl, rfl, rfl⟩)))

theorem trefEdge_keeps (hP : Kept P) {s : State} (h : P s) : P s.trefEdge := by
  unfold State.trefEdge
  split
  · exact hP.frame h ⟨rfl, rfl, rfl, rfl, rfl⟩
  · exact tick_keeps hP h

theorem wclkRises_keeps (hP : Kept P) {s : State} (h : P s) : P s.wclkRises := by
  unfold State.wclkRises
  split
  · exact h
  · split <;> exact hP.frame h ⟨rfl, rfl, rfl, rfl, rfl⟩

/-! ### Window ends (R90) -/

theorem withDue_keeps (hP : Kept P) {s : State} (d : WindowEnds) (h : P s) : P (s.withDue d) :=
  hP.frame h ⟨rfl, rfl, rfl, rfl, rfl⟩

theorem withSweep_keeps (hP : Kept P) {s : State} (w : Sweep) (h : P s) : P (s.withSweep w) :=
  hP.frame h ⟨rfl, rfl, rfl, rfl, rfl⟩

theorem startWalk_keeps (hP : Kept P) {s : State} (h : P s) : P s.startWalk := by
  unfold State.startWalk; split <;> exact withSweep_keeps hP _ h

theorem sweepTakes_keeps (hP : Kept P) {s : State} (h : P s) : P s.sweepTakes := by
  have hd := withDue_keeps hP { s.due with sweep := s.due.sweep - 1 } h
  unfold State.sweepTakes
  dsimp only
  split
  · exact startWalk_keeps hP hd
  · exact withSweep_keeps hP _ hd

theorem visitSlot_keeps (hP : Kept P) {s : State} (n : Nat) (h : P s) : P (s.visitSlot n) := by
  unfold State.visitSlot
  split
  · exact h
  · rename_i e hc
    split
    · exact queuePass_keeps hP (notify_keeps hP _ _ (hP.release _ _ _ _ _ hc ⟨rfl, rfl, rfl⟩ h))
    · exact hP.touch _ _ _ _ hc ⟨rfl, rfl, rfl⟩ h

theorem passSlot_keeps (hP : Kept P) {s : State} (n : Nat) (h : P s) : P (s.passSlot n) := by
  have hs := withSweep_keeps hP { s.sweep with position := n + 1 } h
  unfold State.passSlot
  dsimp only
  split
  · unfold State.endWalk
    split
    · exact startWalk_keeps hP hs
    · exact withSweep_keeps hP _ hs
  · exact hs

theorem grantTakes_keeps (hP : Kept P) {s : State} (h : P s) : P s.grantTakes := by
  have hd := withDue_keeps hP { s.due with grant := s.due.grant - 1 } h
  have hc := hP.queue _ (s.grant.queue.map fun e => { e with remaining := e.remaining - 1 }) s.grant.waitGens hd
  exact queuePass_keeps hP (applyPendings_keeps hP (endWaits_keeps hP _ _ hc))

theorem set_set {α : Type} (q : Quad α) (i : Fin 4) (a b : α) : (q.set i a).set i b = q.set i b := by
  fin_cases i <;> rfl

theorem enterShort_keeps (hP : Kept P) {s : State} {k : Pool} {q : PoolRec} (hq : s.cat.poolRec k = some q)
    (hw : (judged s k q).watch = .clear) (hm : (judged s k q).moved q = .short) (h : P s) :
    P (s.enterShort k (judged s k q) q.allowance) := by
  unfold State.enterShort
  dsimp only
  split
  · rename_i ha
    have ho := hP.watch s k _ (.opens q hq hw hm ha) h
    exact queuePass_keeps hP (hP.droppable _ _ (hP.frame ho ⟨rfl, rfl, set_set _ _ _ _, rfl, rfl⟩))
  · exact hP.frame (hP.watch s k _ (.short q hq hw hm) h) ⟨rfl, rfl, rfl, rfl, rfl⟩

theorem enterClear_keeps (hP : Kept P) {s : State} {k : Pool} {q : PoolRec} (hq : s.cat.poolRec k = some q)
    (h : P s) : P (s.enterClear k (judged s k q)) := by
  have hc := hP.frame (hP.watch s k _ (.clears q hq) h)
    (t := (s.withWatch k { judged s k q with watch := .clear, overdraft := .closed }).notifyAll [.poolClear k])
    ⟨rfl, rfl, rfl, rfl, rfl⟩
  unfold State.enterClear
  dsimp only
  split
  · exact hP.droppable _ _ hc
  · exact hc

theorem watchWork_keeps (hP : Kept P) {s : State} {k : Pool} {q : PoolRec} (hq : s.cat.poolRec k = some q) (h : P s) :
    P (s.watchWork k q) := by
  show P (match (judged s k q).watch, (judged s k q).moved q with
    | .clear, .short => s.enterShort k (judged s k q) q.allowance
    | .short, .clear => s.enterClear k (judged s k q)
    | .clear, .clear => s.withWatch k (judged s k q)
    | .short, .short => s.withWatch k (judged s k q))
  split
  · exact enterShort_keeps hP hq ‹_› ‹_› h
  · exact enterClear_keeps hP hq h
  all_goals exact hP.watch s k _ (.stays q hq (by simp [*])) h

theorem watchTakes_keeps (hP : Kept P) {s : State} (k : Pool) (h : P s) : P (s.watchTakes k) := by
  have hd := withDue_keeps hP { s.due with demand := s.due.demand.modify k (· - 1) } h
  unfold State.watchTakes
  dsimp only
  split
  · exact hP.watch _ k _ (.cold ‹_›) hd
  · exact watchWork_keeps hP ‹_› hd

theorem portTakes_keeps (hP : Kept P) {s : State} (p : Port) (first : List Pool) (h : P s) :
    P (s.portTakes p first) :=
  hP.frame h ⟨rfl, rfl, rfl, rfl, rfl⟩

theorem takeDue_keeps (hP : Kept P) {s : State} (h : P s) : P s.takeDue :=
  State.takeDue_induct (P := P) (fun _ hu => sweepTakes_keeps hP hu) (fun _ k hu => watchTakes_keeps hP k hu)
    (fun _ hu => grantTakes_keeps hP hu) (fun _ p hu => portTakes_keeps hP p [] hu) s h

/-! ### The journal port -/

theorem jack_fifo (j : Journal) : j.jack.fifo <:+ j.fifo ∧ j.jack.rv = j.rv := by
  unfold Journal.jack
  split
  · exact ⟨List.suffix_rfl, rfl⟩
  · split
    · rcases j.acknowledge_cases with ⟨-, e⟩ | ⟨-, -, e⟩ <;> rw [e] <;> exact ⟨List.tail_suffix _, rfl⟩
    · exact ⟨List.suffix_rfl, rfl⟩

theorem jclk_fifo (j : Journal) : j.jclk.fifo <:+ j.fifo ∧ j.jclk.rv = j.rv := by
  unfold Journal.jclk
  split
  · exact ⟨List.suffix_rfl, rfl⟩
  · split <;> exact ⟨List.suffix_rfl, rfl⟩

theorem withJend_keeps (hP : Kept P) {s : State} (b : Bool) (h : P s) : P (s.withJend b) :=
  hP.batch s _ List.suffix_rfl rfl h

theorem batchBegins_keeps (hP : Kept P) {s : State} (h : P s) : P s.batchBegins := by
  unfold State.batchBegins
  split
  · exact h
  · split
    · exact hP.batch s _ List.suffix_rfl rfl h
    · exact h

/-! ### Every command -/

/-- `R` holds after any command of a state with `P`: it holds with `P` itself, which the elementary changes keep, and
where the events that put new values into every block leave a state with `P` (R18, R136, R152). -/
structure Lasts (P R : State → Prop) : Prop where
  kept : Kept P
  weaken : ∀ {s : State}, P s → R s
  frame : ∀ {s t : State}, R s → SameCore s t → R t
  droppable : ∀ (s : State) (b : RecordBody), R s → R (s.recordDroppable b)
  bringUp : ∀ (s : State) (store : Store) (v : SavedValues) (straps : Quad Straps), P s → R (s.bringUp store v straps)
  activate : ∀ (s : State) (ahead : Quad Nat), P s → R (s.activateBlocks ahead)

variable {R : State → Prop}

theorem releaseIfWaiting_lasts (h : Lasts P R) {s : State} (hs : P s) : R s.releaseIfWaiting := by
  unfold State.releaseIfWaiting
  split
  · exact h.bringUp _ _ _ _ hs
  all_goals exact h.weaken hs

theorem completeActivation_lasts (h : Lasts P R) {s : State} (ahead : Quad Nat) (hs : P s) :
    R (s.completeActivation ahead) := by
  have ht : P (s.finishTaken.takeDue) := takeDue_keeps h.kept (finish_keeps h.kept _ hs)
  unfold State.completeActivation
  generalize s.finishTaken.takeDue = t at ht
  have hi := h.frame (h.droppable _ (imageBody (t.stager.port.getD 0) (headOf t.stager.image).header.issue)
    (h.activate t ahead ht)) (t := ((t.activateBlocks ahead).recordDroppable
      (imageBody (t.stager.port.getD 0) (headOf t.stager.image).header.issue)).storeImage t.stager.image)
    ⟨rfl, rfl, rfl, rfl, rfl⟩
  unfold State.activateAll State.windowAfterImage State.saveAfterImage
  dsimp only
  split <;> split <;> exact h.frame hi ⟨rfl, rfl, rfl, rfl, rfl⟩

theorem completeInReset_lasts (h : Lasts P R) {s : State} (hs : P s) : R s.completeInReset :=
  releaseIfWaiting_lasts h (h.kept.frame hs ⟨rfl, rfl, rfl, rfl, rfl⟩)

/-- What an event leaves of a running part, or of one that does not run. -/
theorem whenRunning_lasts (h : Lasts P R) {s t : State} {f : State → State} (he : whenRunning s f = .next t) (hs : P s)
    (hf : P s → P (f s)) : R t := by
  rcases whenRunning_cases s f with ⟨-, e⟩ | ⟨-, e⟩ <;> rw [e] at he <;> cases he
  · exact h.weaken (hf hs)
  · exact h.weaken hs

theorem serve_lasts (h : Lasts P R) {c : Command} {p : Port} {s t : State} (he : serve c p s (workOf c) = .next t)
    (hs : P s) : R t := by
  rcases serve_cases c p s (workOf c) with e | ⟨r, -, -, e⟩ <;> rw [e] at he <;> cases he
  · exact h.weaken hs
  · exact h.weaken (respond_keeps h.kept _ _ (workOf_keeps h.kept c r (dropRequest_keeps h.kept c p hs)))

theorem goDark_lasts (h : Lasts P R) {s : State} (hs : P s) : R s.goDark :=
  h.frame (h.bringUp s { s.store.afterLoss with image := none } SavedValues.zero (s.ports.map (·.strapPins)) hs)
    ⟨rfl, rfl, rfl, rfl, rfl⟩

theorem execPowerLoss_lasts (h : Lasts P R) {s t : State} (he : execPowerLoss s = .next t) (hs : P s) : R t := by
  cases he
  split
  · exact goDark_lasts h hs
  · exact h.weaken hs

theorem execResetAssert_lasts (h : Lasts P R) {s t : State} (he : execResetAssert s = .next t) (hs : P s) : R t := by
  cases he
  split
  · exact h.frame (h.weaken hs) ⟨rfl, rfl, rfl, rfl, rfl⟩
  · exact h.weaken hs

theorem execResetRelease_lasts (h : Lasts P R) {s t : State} {straps : Quad Straps}
    (he : execResetRelease straps s = .next t) (hs : P s) : R t := by
  have hp : P (s.withStrapPins straps) := h.kept.frame hs ⟨rfl, rfl, rfl, rfl, rfl⟩
  cases he
  split
  · dsimp only
    split
    · exact h.frame (h.weaken hp) ⟨rfl, rfl, rfl, rfl, rfl⟩
    · exact h.bringUp _ _ _ _ hp
  · exact h.weaken hs

theorem execPrstAssert_lasts (h : Lasts P R) {s t : State} {p : Port} (he : execPrstAssert p s = .next t) (hs : P s) :
    R t := by
  cases he
  split
  · exact h.weaken (resetPort_keeps h.kept p hs)
  · exact h.weaken (modifyPort_keeps h.kept _ _ hs)

theorem execSaveComplete_lasts (h : Lasts P R) {s t : State} (he : execSaveComplete s = .next t) (hs : P s) : R t := by
  cases he
  split
  · exact releaseIfWaiting_lasts h (nextWrite_keeps h.kept (h.kept.frame hs ⟨rfl, rfl, rfl, rfl, rfl⟩))
  · exact h.weaken hs

theorem execImageWriteComplete_lasts (h : Lasts P R) {s t : State} {ahead : Quad Nat}
    (he : execImageWriteComplete ahead s = .next t) (hs : P s) : R t := by
  cases he
  split
  · split
    · exact completeActivation_lasts h ahead hs
    · exact completeInReset_lasts h hs
  · exact h.weaken hs

/-- A change that an event makes under a condition alone. -/
theorem ite_keeps {b : Prop} [Decidable b] {s u : State} (hu : P u) (hs : P s) : P (if b then u else s) := by
  split <;> assumption

theorem unlessPrst_keeps {p : Port} {s : State} {f : State → State} (hf : P (f s)) (hs : P s) :
    P (s.unlessPrst p f) := by
  unfold State.unlessPrst; split <;> assumption

/-- What every command leaves. -/
theorem exec_lasts (h : Lasts P R) {s t : State} (i : Instr) (he : exec i s = .next t) (hs : P s) : R t := by
  have hP := h.kept
  cases i with
  | powerOn straps => cases he; exact h.bringUp _ _ _ _ hs
  | powerLoss => exact execPowerLoss_lasts h he hs
  | resetAssert => exact execResetAssert_lasts h he hs
  | resetRelease straps => exact execResetRelease_lasts h he hs
  | prstAssert p => exact execPrstAssert_lasts h he hs
  | prstRelease p => cases he; exact h.weaken (modifyPort_keeps hP _ _ hs)
  | requestFrame p bytes =>
    dsimp only [exec, execRequestFrame] at he
    exact whenRunning_lasts h he hs (fun hs => unlessPrst_keeps (endTransaction_keeps hP p bytes hs) hs)
  | readTransaction p n answered =>
    dsimp only [exec, execReadTransaction] at he
    exact whenRunning_lasts h he hs (fun hs => unlessPrst_keeps (modifyPort_keeps hP p _ hs) hs)
  | attnPulseEnd p =>
    dsimp only [exec, execAttnPulseEnd] at he
    exact whenRunning_lasts h he hs (modifyPort_keeps hP p _)
  | checkout p => exact serve_lasts h (c := .checkout) he hs
  | returnCheckout p => exact serve_lasts h (c := .returnCheckout) he hs
  | returnTag p => exact serve_lasts h (c := .returnTag) he hs
  | releasePort p => exact serve_lasts h (c := .releasePort) he hs
  | queryCheckout p => exact serve_lasts h (c := .queryCheckout) he hs
  | heartbeat p => exact serve_lasts h (c := .heartbeat) he hs
  | cancelWait p => exact serve_lasts h (c := .cancelWait) he hs
  | queryWait p => exact serve_lasts h (c := .queryWait) he hs
  | queryFeature p => exact serve_lasts h (c := .queryFeature) he hs
  | queryPool p => exact serve_lasts h (c := .queryPool) he hs
  | timeAssert p => exact serve_lasts h (c := .timeAssert) he hs
  | windowClose p => exact serve_lasts h (c := .windowClose) he hs
  | stageBegin p => exact serve_lasts h (c := .stageBegin) he hs
  | stageRecord p => exact serve_lasts h (c := .stageRecord) he hs
  | stageFinish p => exact serve_lasts h (c := .stageFinish) he hs
  | activate p => exact serve_lasts h (c := .activate) he hs
  | stageAbort p => exact serve_lasts h (c := .stageAbort) he hs
  | policyStage p => exact serve_lasts h (c := .policyStage) he hs
  | policyApply p => exact serve_lasts h (c := .policyApply) he hs
  | setCeiling p => exact serve_lasts h (c := .setCeiling) he hs
  | setShare p => exact serve_lasts h (c := .setShare) he hs
  | journalStatus p => exact serve_lasts h (c := .journalStatus) he hs
  | readNotice p => exact serve_lasts h (c := .readNotice) he hs
  | setNotice p => exact serve_lasts h (c := .setNotice) he hs
  | identify p => exact serve_lasts h (c := .identify) he hs
  | secondTick => exact whenRunning_lasts h he hs (tick_keeps hP)
  | minuteAdvance => exact whenRunning_lasts h he hs (fun hs => ite_keeps (tick_keeps hP hs) hs)
  | windowTimerExpiry => exact whenRunning_lasts h he hs (fun hs => ite_keeps (tick_keeps hP hs) hs)
  | wclkRisingEdge => exact whenRunning_lasts h he hs (wclkRises_keeps hP)
  | wclkLowSeen =>
    dsimp only [exec, execWclkLowSeen] at he
    exact whenRunning_lasts h he hs (fun hs => hP.frame hs ⟨rfl, rfl, rfl, rfl, rfl⟩)
  | sweepWindowEnd => exact whenRunning_lasts h he hs (fun hs => ite_keeps (sweepTakes_keeps hP hs) hs)
  | sweepVisit n =>
    exact whenRunning_lasts h he hs (fun hs => ite_keeps (passSlot_keeps hP n (visitSlot_keeps hP n hs)) hs)
  | reclaim n =>
    exact whenRunning_lasts h he hs (fun hs => ite_keeps (passSlot_keeps hP n (visitSlot_keeps hP n hs)) hs)
  | grantEngineWindowEnd => exact whenRunning_lasts h he hs (fun hs => ite_keeps (grantTakes_keeps hP hs) hs)
  | waitExpiry n => exact whenRunning_lasts h he hs (fun hs => ite_keeps (grantTakes_keeps hP hs) hs)
  | demandWatchWindowEnd k => exact whenRunning_lasts h he hs (fun hs => ite_keeps (watchTakes_keeps hP k hs) hs)
  | portWindowEnd p first =>
    exact whenRunning_lasts h he hs (fun hs => ite_keeps (portTakes_keeps hP p first hs) hs)
  | stagingTimeout => exact whenRunning_lasts h he hs (fun hs => ite_keeps (tick_keeps hP hs) hs)
  | saveComplete => exact execSaveComplete_lasts h he hs
  | imageWriteComplete ahead => exact execImageWriteComplete_lasts h he hs
  | batchBegin jend => exact whenRunning_lasts h he (withJend_keeps hP jend hs) (batchBegins_keeps hP)
  | recordAcknowledge jend =>
    dsimp only [exec, execRecordAcknowledge] at he
    exact whenRunning_lasts h he (withJend_keeps hP jend hs) (fun hs => hP.batch _ _ (jack_fifo _).1 (jack_fifo _).2 hs)
  | jclkRisingEdge =>
    dsimp only [exec, execJclkRisingEdge] at he
    exact whenRunning_lasts h he hs (fun hs => hP.batch _ _ (jclk_fifo _).1 (jclk_fifo _).2 hs)

/-- What every step leaves, of an invariant that does not look at the queue of commands. -/
theorem step_lasts (h : Lasts P R) (hpending : ∀ (s : State) (q : List Instr), P s → P { s with pending := q })
    {s t : State} (he : step s = .next t) (hs : P s) : R t := by
  cases hp : s.pending with
  | nil =>
    unfold step at he
    rw [hp] at he
    cases he
    exact h.weaken (ite_keeps (trefEdge_keeps h.kept hs) hs)
  | cons c rest =>
    rw [step_front s c rest hp] at he
    exact exec_lasts h c he (hpending s rest hs)

end Sys2Proof.Machine.Charges
end

section
/-! SUPPORT. How commands run: the step takes the front command, and every command answers a next state and leaves the
queue of commands (O1, O2). -/

namespace Sys2Proof.Machine.Charges

/-- Settles O1, by the equation of a step with a command at the front of the queue. -/
theorem stepRunsFrontCommand : Obligations.StepRunsFrontCommand := fun s c rest h => step_front s c rest h

/-- The model has no fault and no refusal (R35, R185): every command answers a next state. -/
theorem exec_answers (i : Instr) (s : State) : Completed (exec i s) := by
  cases i <;> exact ⟨_, rfl⟩

/-- The queue of commands stands as it is through every elementary change, every reset and every activation. -/
theorem pending_lasts (q : List Instr) : Lasts (fun s => s.pending = q) (fun s => s.pending = q) where
  kept :=
    { frame := fun h hc => hc.pending.trans h
      slots := fun _ _ h => h
      queue := fun _ _ _ h => h
      policy := fun _ _ _ h => h
      release := fun s n _ x kind _ _ h => (s.release_pending n x kind).trans h
      touch := fun _ _ _ _ _ _ h => h
      grant := fun s n g _ _ h => (s.grantInto_pending n g).trans h
      droppable := fun _ _ h => h
      batch := fun _ _ _ _ h => h
      shortfalls := fun _ _ _ h => h
      watch := fun _ _ _ _ h => h }
  weaken := id
  frame := fun h hc => hc.pending.trans h
  droppable := fun _ _ h => h
  bringUp := fun _ _ _ _ h => h
  activate := fun _ _ h => h

/-- Settles O2: every arm of `exec` answers, and each leaves the queue of commands. -/
theorem everyCommandAnswersAndKeepsQueue : Obligations.EveryCommandAnswersAndKeepsQueue := by
  intro i s
  obtain ⟨t, ht⟩ := exec_answers i s
  exact ⟨t, ht, exec_lasts (pending_lasts s.pending) i ht rfl⟩

end Sys2Proof.Machine.Charges
end

section
/-! SUPPORT. The tokens and the journal's reservations in balance with the checkout table (R37, R170; O54). -/

namespace Sys2Proof.Machine.Charges

/-! ### One slot of the table replaced -/

/-- A sum over a list with one place replaced, set against the sum over the list. -/
theorem sum_map_set {α : Type} (f : α → Nat) {l : List α} {n : Nat} {x : α} (h : l[n]? = some x) (y : α) :
    ((l.set n y).map f).sum + f x = (l.map f).sum + f y := by
  induction l generalizing n with
  | nil => simp at h
  | cons a l ih =>
    cases n with
    | zero => simp at h; subst h; simp; omega
    | succ n => have := ih (n := n) (by simpa using h); simp only [List.set_cons_succ, List.map_cons, List.sum_cons]; omega

theorem countP_set_add {α : Type} (f : α → Bool) {l : List α} {n : Nat} {x : α} (h : l[n]? = some x) (y : α) :
    (l.set n y).countP f + (f x).toNat = l.countP f + (f y).toNat := by
  induction l generalizing n with
  | nil => simp at h
  | cons a l ih =>
    cases n with
    | zero => simp at h; subst h; cases ha : f a <;> cases hy : f y <;> simp [ha, hy]
    | succ n => have := ih (n := n) (by simpa using h); cases ha : f a <;> simp [ha] <;> omega

/-- A HELD slot stands in the table with its checkout. -/
theorem checkoutAt_iff {s : State} {n : Nat} {e : Checkout} :
    s.checkoutAt n = some e ↔ ∃ c, s.grant.table[n]? = some c ∧ c.entry = some e := by
  unfold State.checkoutAt
  exact Option.bind_eq_some_iff

/-- The slot a grant takes stands in the table and is FREE (R44). -/
theorem entry_of_freeSlot {s : State} {n : Nat} (h : s.freeSlot = some n) :
    ∃ c, s.grant.table[n]? = some c ∧ c.entry = none := by
  obtain ⟨hn, hf, -⟩ := List.findIdx?_eq_some_iff_getElem.mp h
  exact ⟨_, List.getElem?_eq_getElem hn, by simpa using hf⟩

/-- What a slot's content adds to a pool's charges of the checkouts that satisfy a condition. -/
def entryCharge (k : Pool) (f : Checkout → Bool) (x : Option Checkout) : Nat :=
  match x with
  | some e => if f e then e.charges.get k else 0
  | none => 0

/-- Whether a slot's content is a METERED checkout. -/
def entryMetered (x : Option Checkout) : Bool :=
  match x with
  | some e => e.flags.metered
  | none => false

theorem chargeSum_eq (table : List CheckoutSlot) (k : Pool) (f : Checkout → Bool) :
    chargeSum table k f = (table.map fun c => entryCharge k f c.entry).sum := rfl

theorem meteredCount_eq (table : List CheckoutSlot) : meteredCount table = table.countP fun c => entryMetered c.entry :=
  rfl

theorem chargeSum_set {table : List CheckoutSlot} {n : Nat} {c : CheckoutSlot} (h : table[n]? = some c)
    (c' : CheckoutSlot) (k : Pool) (f : Checkout → Bool) :
    chargeSum (table.set n c') k f + entryCharge k f c.entry = chargeSum table k f + entryCharge k f c'.entry :=
  sum_map_set (fun c : CheckoutSlot => entryCharge k f c.entry) h c'

theorem meteredCount_set {table : List CheckoutSlot} {n : Nat} {c : CheckoutSlot} (h : table[n]? = some c)
    (c' : CheckoutSlot) :
    meteredCount (table.set n c') + (entryMetered c.entry).toNat = meteredCount table + (entryMetered c'.entry).toNat :=
  countP_set_add (fun c : CheckoutSlot => entryMetered c.entry) h c'

/-! ### The balance -/

/-- The two invariants of O54 together. -/
def Balanced (s : State) : Prop := s.TokensBalance ∧ s.JournalFits

/-- What the balance looks at: a state that agrees on it is in balance too. -/
theorem balanced_congr {s t : State} (h : Balanced s) (htable : t.grant.table = s.grant.table)
    (hpool : ∀ k, (t.pool k).inUse = (s.pool k).inUse ∧ (t.pool k).held = (s.pool k).held)
    (hplaces : t.journal.fifo.length + t.journal.rv ≤ Config.journalPlaces) (hrv : t.journal.rv = s.journal.rv) :
    Balanced t := by
  refine ⟨fun k => ?_, hplaces, ?_⟩
  · rw [(hpool k).1, (hpool k).2, htable]; exact h.1 k
  · rw [hrv, htable]; exact h.2.2

theorem balanced_sameGrant {s t : State} (h : Balanced s) (hgrant : t.grant = s.grant)
    (hj : t.journal = s.journal) : Balanced t :=
  balanced_congr h (by rw [hgrant]) (fun k => by simp [State.pool, hgrant]) (by rw [hj]; exact h.2.1) (by rw [hj])

/-- The sum of a table with one place changed, set against the sum of the table. -/
theorem sum_modify (q : Quad Nat) (i : Fin 4) (f : Nat → Nat) : (q.modify i f).sum + q.get i = q.sum + f (q.get i) := by
  fin_cases i <;> simp [Quad.modify, Quad.set, Quad.sum, Quad.get] <;> omega

theorem get_le_sum (q : Quad Nat) (i : Fin 4) : q.get i ≤ q.sum := by
  fin_cases i <;> simp [Quad.sum, Quad.get] <;> omega

/-- The table after a release: the slot is FREE (R58). -/
theorem release_table (s : State) (n : Nat) (x : Checkout) (kind : RecordKind) :
    ∃ c : CheckoutSlot, c.entry = none ∧ (s.release n x kind).grant.table = s.grant.table.set n c :=
  ⟨{ generation := nextGeneration (s.generationAt n), entry := none }, rfl, by rw [State.release_grant]; rfl⟩

/-- The pools after a release: the charges are credited (R37). -/
theorem release_pool (s : State) (n : Nat) (x : Checkout) (kind : RecordKind) (k : Pool) :
    (s.release n x kind).pool k = (s.pool k).give x.owner (x.charges.get k) := by
  rw [← State.creditCharges_pool]
  show (s.release n x kind).grant.pools.get k = _
  rw [State.release_grant]
  rfl

/-- The table after a grant: the slot holds the entry (R52). -/
theorem grantInto_table (s : State) (n : Nat) (g : GrantOrder) :
    ∃ c : CheckoutSlot, c.entry = some (s.grantEntry g) ∧ (s.grantInto n g).grant.table = s.grant.table.set n c :=
  ⟨{ generation := s.generationAt n, entry := some (s.grantEntry g) }, rfl, by rw [State.grantInto_grant]; rfl⟩

/-- The pools after a grant: the charges are applied (R36). -/
theorem grantInto_pool (s : State) (n : Nat) (g : GrantOrder) (k : Pool) :
    (s.grantInto n g).pool k = (s.pool k).take g.owner (g.charges.get k) := by
  rw [← State.applyCharges_pool]
  show (s.grantInto n g).grant.pools.get k = _
  rw [State.grantInto_grant]
  rfl

/-- What a checkout adds to the charges of a port's checkouts. -/
theorem entryCharge_owner (k : Pool) (p : Port) (e : Checkout) :
    entryCharge k (fun e => e.owner == p) (some e) = if p = e.owner then e.charges.get k else 0 := by
  simp only [entryCharge, beq_iff_eq, eq_comm (a := p)]

theorem release_balanced {s : State} {n : Nat} {e x : Checkout} {kind : RecordKind} (he : s.checkoutAt n = some e)
    (hx : SameCharge e x) (h : Balanced s) : Balanced (s.release n x kind) := by
  obtain ⟨c, hc, hce⟩ := checkoutAt_iff.mp he
  obtain ⟨howner, hcharges, hflags⟩ := hx
  obtain ⟨free, hfree, htable⟩ := release_table s n x kind
  refine ⟨fun k => ?_, ?_⟩
  · obtain ⟨hheld, hin⟩ := h.1 k
    have hsum (p : Port) := chargeSum_set hc free k (fun e => e.owner == p)
    simp only [hce, hfree, entryCharge_owner] at hsum
    simp only [entryCharge] at hsum
    have hle : e.charges.get k ≤ (s.pool k).held.get e.owner := by
      have := hsum e.owner; rw [if_pos rfl] at this; rw [hheld]; omega
    rw [release_pool, htable, howner, hcharges]
    refine ⟨fun p => ?_, ?_⟩
    · have hp := hsum p
      rw [PoolState.give, Quad.get_modify, hheld]
      split_ifs at hp ⊢ <;> omega
    · have := sum_modify (s.pool k).held e.owner (· - e.charges.get k)
      have := get_le_sum (s.pool k).held e.owner
      simp only [PoolState.give] at *
      omega
  · obtain ⟨hplaces, hrv⟩ := h.2
    have hcount := meteredCount_set hc free
    simp only [hce, hfree, entryMetered, ← hflags] at hcount
    rw [State.JournalFits, htable, State.release_journal]
    cases hm : x.flags.metered <;> simp [hm] at * <;> omega

theorem touch_balanced {s : State} {n : Nat} {e x : Checkout} (he : s.checkoutAt n = some e) (hx : SameCharge e x)
    (h : Balanced s) : Balanced (s.setSlot n { generation := s.generationAt n, entry := some x }) := by
  obtain ⟨c, hc, hce⟩ := checkoutAt_iff.mp he
  obtain ⟨howner, hcharges, hflags⟩ := hx
  set held : CheckoutSlot := { generation := s.generationAt n, entry := some x }
  refine ⟨fun k => ?_, h.2.1, ?_⟩
  · obtain ⟨hheld, hin⟩ := h.1 k
    refine ⟨fun p => (hheld p).trans ?_, hin⟩
    have := chargeSum_set hc held k (fun e => e.owner == p)
    simp only [hce, held, entryCharge, howner, hcharges] at this
    exact (Nat.add_right_cancel this).symm
  · have := meteredCount_set hc held
    simp only [hce, held, entryMetered, hflags] at this
    exact h.2.2.trans (Nat.add_right_cancel this).symm

theorem grant_balanced {s : State} {n : Nat} {g : GrantOrder} (hn : s.freeSlot = some n)
    (hr : g.metered = true → s.journal.room 2 = true) (h : Balanced s) : Balanced (s.grantInto n g) := by
  obtain ⟨c, hc, hce⟩ := entry_of_freeSlot hn
  obtain ⟨held, hentry, htable⟩ := grantInto_table s n g
  refine ⟨fun k => ?_, ?_⟩
  · obtain ⟨hheld, hin⟩ := h.1 k
    have hsum (p : Port) : chargeSum (s.grant.table.set n held) k (fun e => e.owner == p) + 0 =
        chargeSum s.grant.table k (fun e => e.owner == p) + if p = g.owner then g.charges.get k else 0 := by
      have := chargeSum_set hc held k (fun e => e.owner == p)
      rw [hce, hentry, entryCharge_owner] at this
      exact this
    rw [grantInto_pool, htable]
    refine ⟨fun p => ?_, ?_⟩
    · have hp := hsum p
      rw [PoolState.take, Quad.get_modify, hheld]
      split_ifs at hp ⊢ <;> omega
    · have := sum_modify (s.pool k).held g.owner (· + g.charges.get k)
      simp only [PoolState.take] at *
      omega
  · obtain ⟨hplaces, hrv⟩ := h.2
    have hcount := meteredCount_set hc held
    simp only [hce, hentry, entryMetered, State.grantEntry] at hcount
    rw [State.JournalFits, htable, State.grantInto_journal]
    cases hm : g.metered
    · simp [hm] at *; omega
    · have := (s.journal.room_iff 2).mp (hr hm)
      simp [hm] at *; omega

theorem droppable_balanced {s : State} (b : RecordBody) (h : Balanced s) : Balanced (s.recordDroppable b) := by
  refine balanced_congr h rfl (fun k => ⟨rfl, rfl⟩) ?_ ?_ <;>
    rcases s.journal.writeDroppable_cases s.time.clock b with ⟨hl, e⟩ | ⟨-, e⟩ <;> rw [State.recordDroppable_journal, e]
  · simp; omega
  · exact h.2.1
  · rfl

theorem kept_balanced : Kept Balanced where
  frame := fun h hc => balanced_sameGrant h hc.grant hc.journal
  slots := fun _ _ h => h
  queue := fun _ _ _ h => h
  policy := fun _ _ hq h => balanced_congr h rfl (fun k => ⟨(hq k).inUse, (hq k).held⟩) h.2.1 rfl
  release := fun _ _ _ _ _ he hx h => release_balanced he hx h
  touch := fun _ _ _ _ he hx h => touch_balanced he hx h
  grant := fun _ _ _ hn hr h => grant_balanced hn hr h
  droppable := fun _ b h => droppable_balanced b h
  batch := fun _ j hj hrv h =>
    have hplaces : j.fifo.length + j.rv ≤ Config.journalPlaces :=
      hrv.symm ▸ le_trans (Nat.add_le_add_right hj.length_le _) h.2.1
    balanced_congr h rfl (fun _ => ⟨rfl, rfl⟩) hplaces hrv
  shortfalls := fun _ _ _ h => h
  watch := fun _ _ _ _ h => h

theorem bringUp_balanced (s : State) (store : Store) (v : SavedValues) (straps : Quad Straps) :
    Balanced (s.bringUp store v straps) := by
  have hp (k : Pool) : ((s.bringUp store v straps).pool k).held = Quad.fill 0 ∧
      ((s.bringUp store v straps).pool k).inUse = 0 := by
    simp [State.pool, State.bringUp, initialPools, PoolState.initial]
  refine ⟨fun k => ⟨fun p => ?_, ?_⟩, Nat.zero_le _, ?_⟩
  · rw [(hp k).1, Quad.get_fill, chargeSum_eq]
    simp [State.bringUp, GrantEngine.initial, entryCharge]
  · rw [(hp k).1, (hp k).2]; rfl
  · simp [State.bringUp, GrantEngine.initial, Journal.initial, meteredCount_eq, entryMetered,
      List.countP_replicate]

/-- Leaving the queue touches neither the table nor the pools (R70). -/
theorem leaveAll_frame (es : List WaitEntry) (s : State) :
    (es.foldl State.leaveQueue s).grant.table = s.grant.table ∧
      (es.foldl State.leaveQueue s).grant.pools = s.grant.pools := by
  induction es generalizing s with
  | nil => exact ⟨rfl, rfl⟩
  | cons e es ih => exact ih (s.leaveQueue e)

/-- A reconciled checkout has its owner, charges and METERED flag (R67). -/
theorem entryCharge_reconcile (c : Catalogue) (k : Pool) (p : Port) (x : Option Checkout) :
    entryCharge k (fun e => e.owner == p) (x.map (Checkout.reconcile c)) = entryCharge k (fun e => e.owner == p) x := by
  cases x <;> rfl

theorem entryMetered_reconcile (c : Catalogue) (x : Option Checkout) :
    entryMetered (x.map (Checkout.reconcile c)) = entryMetered x := by
  cases x <;> rfl

theorem activate_balanced {s : State} (ahead : Quad Nat) (h : Balanced s) : Balanced (s.activateBlocks ahead) := by
  set new := newCatalogue s.cat s.stager.image s.time.clock
  have htable : (s.activateBlocks ahead).grant.table = s.grant.table.map (CheckoutSlot.reconcile new) :=
    congrArg (List.map _) (leaveAll_frame _ _).1
  have hpool (k : Pool) : ((s.activateBlocks ahead).pool k).inUse = (s.pool k).inUse ∧
      ((s.activateBlocks ahead).pool k).held = (s.pool k).held := by
    simp only [State.pool, State.activateBlocks, State.newGrant, Quad.get_ofFn, PoolState.toCapacity]
    split <;> exact ⟨rfl, rfl⟩
  refine ⟨fun k => ?_, h.2.1, ?_⟩
  · rw [(hpool k).1, (hpool k).2, htable]
    refine ⟨fun p => ((h.1 k).1 p).trans ?_, (h.1 k).2⟩
    simp only [chargeSum_eq, List.map_map, Function.comp_def, CheckoutSlot.reconcile, entryCharge_reconcile]
  · rw [htable]
    refine h.2.2.trans ?_
    simp only [meteredCount_eq, List.countP_map, Function.comp_def, CheckoutSlot.reconcile, entryMetered_reconcile]

/-- Settles O54: each elementary change, each reset and each activation keeps the balance. -/
theorem tokensAndReservationsBalance : Obligations.TokensAndReservationsBalance := by
  intro s t htokens hjournal hstep
  have hlasts : Lasts Balanced Balanced :=
    { kept := kept_balanced, weaken := id, frame := kept_balanced.frame, droppable := kept_balanced.droppable
      bringUp := fun s store v straps _ => bringUp_balanced s store v straps
      activate := fun _ ahead h => activate_balanced ahead h }
  exact step_lasts hlasts (fun _ _ h => h) hstep ⟨htokens, hjournal⟩

end Sys2Proof.Machine.Charges
end

section
/-! SUPPORT. What a verified image says of its pool records (R145, R147, R149). -/

namespace Sys2Proof.Machine.Charges

/-- A record of an image that fails no test passes its own, after some earlier records. -/
theorem recordFault_of_mem {rs : List ImageRecord} {r : ImageRecord} (hr : r ∈ rs) :
    ∀ earlier, firstRecordFault earlier rs = none → ∃ before, recordFault before r = none := by
  induction rs with
  | nil => cases hr
  | cons x xs ih =>
    intro earlier h
    unfold firstRecordFault at h
    split at h
    · cases h
    · rcases List.mem_cons.mp hr with rfl | hm
      · exact ⟨earlier, by assumption⟩
      · exact ih hm _ h

/-- A POOL record that fails no test has its fields in their ranges (R149). -/
theorem poolInRange_of_recordFault {before : List ImageRecord} {r : ImageRecord} (hk : r.isKind kindPool = true)
    (h : recordFault before r = none) : poolInRange r.body = true := by
  have hkind : r.kind.toNat = 3 := by simpa [ImageRecord.isKind, kindPool] using hk
  unfold recordFault at h
  rw [hkind] at h
  by_contra hc
  simp [hc] at h

/-- A quorum in range is at least 1 (R7, R149). -/
theorem quorum_pos_of_poolInRange {body : List Byte} (h : poolInRange body = true) : 1 ≤ (poolRecOf body).quorum := by
  simp only [poolInRange, Bool.and_eq_true, within, decide_eq_true_eq] at h
  exact h.2.1

/-- The table of R145 gives the record at place 5 + k the kind POOL and the index k. -/
theorem place_pool {area : List ImageRecord} {kind index k : Nat} (hk : k < 4) (hlen : area.length = 5 + k)
    (h : placeAccepts area kind index = true) : kind = kindPool ∧ index = k := by
  unfold placeAccepts at h
  simp only [hlen] at h
  split at h
  · cases h
  · simp only [show ¬ 5 + k = 0 by omega, show ¬ 5 + k ≤ 4 by omega, show 5 + k ≤ 8 by omega, if_false, if_true,
      Bool.and_eq_true, beq_iff_eq] at h
    omega

/-- A TRAILER stands behind the HEADER, the four CLASS records and the four POOL records (R145). -/
theorem place_trailer {area : List ImageRecord} {index : Nat} (h : placeAccepts area kindTrailer index = true) :
    9 ≤ area.length := by
  unfold placeAccepts at h
  by_contra hc
  dsimp only at h
  split at h
  · cases h
  · split_ifs at h
    · simp [kindTrailer, kindHeader] at h
    · simp [kindTrailer, kindClass] at h
    · simp [kindTrailer, kindPool] at h
    all_goals omega

/-- A verified image holds a POOL record of every pool (R145). -/
theorem pool_mem_of_verified {records : List ImageRecord} (h : Verified records) (k : Pool) :
    ∃ r ∈ records, r.isKind kindPool = true ∧ r.index = k.val := by
  obtain ⟨-, t, ht, hseq⟩ := h
  have htrailer := hseq records.length (by simp)
  simp only [List.take_left', List.getElem_concat_length, acceptsRecord, Bool.and_eq_true] at htrailer
  have htk : t.kind.toNat = kindTrailer := by simpa [ImageRecord.isKind] using ht
  have hlen := place_trailer (htk ▸ htrailer.2)
  have hk : 5 + k.val < records.length := by omega
  have hpool := hseq (5 + k.val) (by simp; omega)
  simp only [List.getElem_append_left hk, acceptsRecord, Bool.and_eq_true] at hpool
  obtain ⟨hkind, hindex⟩ := place_pool k.isLt (by simp; omega) hpool.2
  exact ⟨records[5 + k.val], List.getElem_mem hk, by simp [ImageRecord.isKind, hkind], hindex⟩

/-- Every quorum of a verified image is at least 1 (R7, R149). -/
theorem quorum_pos_of_verified {records : List ImageRecord} (h : Verified records) (k : Pool) :
    1 ≤ ((headOf records).pools.get k).quorum := by
  obtain ⟨r, hr, hkind, hindex⟩ := pool_mem_of_verified h k
  simp only [headOf, Quad.get_ofFn, bodyAt]
  cases hf : records.find? fun r => r.isKind kindPool && r.index == k.val with
  | none => have := List.find?_eq_none.mp hf r hr; simp [hkind, hindex] at this
  | some x =>
    have hx := List.find?_some hf
    simp only [Bool.and_eq_true] at hx
    obtain ⟨before, hb⟩ := recordFault_of_mem (List.mem_of_find?_eq_some hf) [] h.1
    exact quorum_pos_of_poolInRange (poolInRange_of_recordFault hx.1 hb)

end Sys2Proof.Machine.Charges
end

section
/-! SUPPORT. A pool's policy fields brought to a new capacity (R25, R168). -/

namespace Sys2Proof.Machine.Charges

/-- The reserves cut to a capacity add up to it, or to what they were (R168, step 3). -/
theorem cutReserves_sum (capacity : Nat) (r : Quad Nat) : (cutReserves capacity r).sum = min r.sum capacity := by
  simp only [cutReserves, Quad.sum]; omega

theorem cutReserves_le (capacity : Nat) (r : Quad Nat) (p : Port) : (cutReserves capacity r).get p ≤ r.get p := by
  fin_cases p <;> exact Nat.sub_le _ _

/-- The cut goes from port 3 down: what is left of a port's reserve shields the ports below it (R168, step 3). -/
theorem cutReserves_downward (capacity : Nat) (r : Quad Nat) (p q : Port) (hpq : p < q)
    (h : (cutReserves capacity r).get q ≠ 0) : (cutReserves capacity r).get p = r.get p := by
  fin_cases p <;> fin_cases q <;> simp [cutReserves, Quad.get, Quad.sum] at hpq h ⊢ <;> omega

/-- A pool within its capacity is brought within a new one, from SERVING as from NO_IMAGE (R25, R168). -/
theorem toCapacity_bounded {old : Nat} (capacity : Nat) (serving : Bool) {q : PoolState} (h : PoolBounded old q) :
    PoolBounded capacity (q.toCapacity serving capacity) := by
  obtain ⟨-, -, hshare⟩ := h
  cases serving
  · exact ⟨fun v hv => by cases hv; exact le_rfl, Nat.zero_le _, fun p => by simp [PoolState.toCapacity]⟩
  · refine ⟨fun v hv => ?_, ?_, fun p => ?_⟩
    · obtain ⟨w, -, rfl⟩ := Option.map_eq_some_iff.mp hv
      exact Nat.min_le_left _ _
    · exact (cutReserves_sum _ _).trans_le (Nat.min_le_right _ _)
    · have hsum := get_le_sum (cutReserves capacity q.reserve) p
      have := cutReserves_sum capacity q.reserve
      have := cutReserves_le capacity q.reserve p
      have := (hshare p).2
      simp only [PoolState.toCapacity, if_true, Quad.get_map]
      omega

end Sys2Proof.Machine.Charges
end

section
/-! SUPPORT. Site policy within the capacities and the Demand Watch units in order (R22, R124, R126; O58). -/

namespace Sys2Proof.Machine.Charges

/-- A Demand Watch in order under a catalogue: its overdraft OPEN only in SHORT with an allowance (R126), its history of
8 verdicts (R118), and SHORT only with a hot verdict among its taps (R124). -/
structure WatchOrdered (c : Catalogue) (k : Pool) (w : Watch) : Prop where
  justified : w.overdraft = .opened → w.watch = .short ∧ 0 < c.allowance k
  eight : w.history.length = 8
  hot : w.watch = .short → ∃ q, c.poolRec k = some q ∧ 0 < w.hotCount q.taps

/-- The three invariants of O58 together. -/
structure Governed (s : State) : Prop where
  policy : ∀ k, PoolBounded (s.cat.capacity k) (s.pool k)
  watches : ∀ k, WatchOrdered s.cat k (s.watches.get k)

theorem governed_iff (s : State) : Governed s ↔ s.PolicyBounded ∧ s.OverdraftJustified ∧ s.ShortIsHot :=
  ⟨fun h => ⟨h.policy, fun k => (h.watches k).justified, fun k => ⟨(h.watches k).eight, (h.watches k).hot⟩⟩,
    fun ⟨hp, ho, hs⟩ => ⟨hp, fun k => ⟨ho k, (hs k).1, (hs k).2⟩⟩⟩

/-- Every quorum of the active catalogue is at least 1, so that no pool enters SHORT without a hot verdict. -/
def QuorumsPositive (c : Catalogue) : Prop := ∀ k q, c.poolRec k = some q → 1 ≤ q.quorum

theorem quorumsPositive_of_verified {s : State} (h : s.ImagesVerified) : QuorumsPositive s.cat := by
  obtain ⟨-, -, -, -, -, hcat⟩ := h
  intro k q hq
  have hserving : s.serving = true := by
    cases hh : s.cat.head with
    | none => simp [Catalogue.poolRec, hh] at hq
    | some x => simp [State.serving, Catalogue.serving, hh]
  obtain ⟨records, hv, hhead, -⟩ := hcat hserving
  have : (headOf records).pools.get k = q := by simpa [Catalogue.poolRec, hhead] using hq
  exact this ▸ quorum_pos_of_verified hv k

/-! ### Window ends -/

theorem judged_history_length (s : State) (k : Pool) (q : PoolRec) (h : (s.watches.get k).history.length = 8) :
    (judged s k q).history.length = 8 := by
  simp [judged, Watch.judge, Watch.shift, Watch.metered, h]

/-- A pool in SHORT that stays there has a hot verdict among its taps (R124). -/
theorem hot_of_moved_short {w : Watch} {q : PoolRec} (hq : 1 ≤ q.quorum) (h : w.moved q = .short) :
    0 < w.hotCount q.taps := by
  unfold Watch.moved at h
  split at h
  · split at h
    · omega
    · cases h
  · split at h
    · cases h
    · omega

/-- A Demand Watch in order is in order after any window end (R122 to R127, R135). -/
theorem watchOutcome_ordered {s : State} {k : Pool} {w : Watch} (hquorum : QuorumsPositive s.cat)
    (h : WatchOrdered s.cat k (s.watches.get k)) (hw : WatchOutcome s k w) : WatchOrdered s.cat k w := by
  obtain ⟨hjust, height, hhot⟩ := h
  cases hw with
  | cold hn =>
    have hclear : ¬ (s.watches.get k).watch = .short := fun hs => by
      obtain ⟨q, hq, -⟩ := hhot hs; rw [hn] at hq; cases hq
    exact ⟨fun ho => absurd (hjust ho).1 hclear, by simp [Watch.shift, height], fun hs => absurd hs hclear⟩
  | stays q hq hm =>
    exact ⟨hjust, judged_history_length s k q height,
      fun hs => ⟨q, hq, hot_of_moved_short (hquorum k q hq) (hm.trans hs)⟩⟩
  | short q hq hc hm =>
    exact ⟨fun ho => absurd ((hjust ho).1.symm.trans hc) (by decide), judged_history_length s k q height,
      fun _ => ⟨q, hq, hot_of_moved_short (w := judged s k q) (hquorum k q hq) hm⟩⟩
  | opens q hq hc hm ha =>
    exact ⟨fun _ => ⟨rfl, by simpa [Catalogue.allowance, hq] using ha⟩, judged_history_length s k q height,
      fun _ => ⟨q, hq, hot_of_moved_short (w := judged s k q) (hquorum k q hq) hm⟩⟩
  | clears q hq =>
    exact ⟨fun ho => (nomatch ho), judged_history_length s k q height, fun hs => (nomatch hs)⟩

/-- A Demand Watch at its values after a reset or an activation is in order (R133, R134). -/
theorem watchInitial_ordered (c : Catalogue) (k : Pool) (meter : Nat) : WatchOrdered c k (Watch.initial meter) :=
  ⟨fun h => (nomatch h), rfl, fun h => (nomatch h)⟩

/-! ### Every step -/

/-- What the elementary changes keep: site policy and the watches in order, under quorums of at least 1. -/
def WellGoverned (s : State) : Prop := QuorumsPositive s.cat ∧ Governed s

/-- The policy fields of a pool do not move with its tokens (R36, R37). -/
theorem governed_of_tokens {s t : State} (hcat : t.cat = s.cat) (hwatches : t.watches = s.watches)
    (hpool : ∀ k, (t.pool k).ceiling = (s.pool k).ceiling ∧ (t.pool k).cap = (s.pool k).cap ∧
      (t.pool k).reserve = (s.pool k).reserve) (h : Governed s) : Governed t := by
  refine ⟨fun k => ?_, fun k => by rw [hcat, hwatches]; exact h.watches k⟩
  obtain ⟨hc, hp, hr⟩ := hpool k
  rw [PoolBounded, hc, hp, hr, hcat]
  exact h.policy k

theorem wellGoverned_of_tokens {s t : State} (hcat : t.cat = s.cat) (hwatches : t.watches = s.watches)
    (hpool : ∀ k, (t.pool k).ceiling = (s.pool k).ceiling ∧ (t.pool k).cap = (s.pool k).cap ∧
      (t.pool k).reserve = (s.pool k).reserve) (h : WellGoverned s) : WellGoverned t :=
  ⟨by rw [hcat]; exact h.1, governed_of_tokens hcat hwatches hpool h.2⟩

theorem governed_sameCore {s t : State} (hc : SameCore s t) (h : Governed s) : Governed t :=
  governed_of_tokens hc.cat hc.watches (fun k => by simp [State.pool, hc.grant]) h

/-- Shortfalls handed to a Demand Watch change its tally alone (R120). -/
theorem handShortfalls_ordered (s : State) (c c' : Catalogue) (g : GrantOrder) (k : Pool)
    (h : WatchOrdered c' k (s.watches.get k)) : WatchOrdered c' k ((s.handShortfalls c g).watches.get k) := by
  simp only [State.handShortfalls, Quad.get_ofFn]
  split
  · exact ⟨h.justified, h.eight, h.hot⟩
  · exact h

theorem kept_wellGoverned : Kept WellGoverned where
  frame := fun h hc => ⟨by rw [hc.cat]; exact h.1, governed_sameCore hc h.2⟩
  slots := fun _ _ h => ⟨h.1, h.2.policy, fun k =>
    ⟨(h.2.watches k).justified, (h.2.watches k).eight, (h.2.watches k).hot⟩⟩
  queue := fun _ _ _ h => ⟨h.1, h.2.policy, h.2.watches⟩
  policy := fun _ _ hq h => ⟨h.1, fun k => (hq k).bounded (h.2.policy k), h.2.watches⟩
  release := fun s n _ x kind _ _ h => wellGoverned_of_tokens (State.release_cat s n x kind)
    (State.release_watches s n x kind) (fun k => by rw [release_pool]; exact ⟨rfl, rfl, rfl⟩) h
  touch := fun _ _ _ _ _ _ h => ⟨h.1, h.2.policy, h.2.watches⟩
  grant := fun s n g _ _ h => wellGoverned_of_tokens (State.grantInto_cat s n g) (State.grantInto_watches s n g)
    (fun k => by rw [grantInto_pool]; exact ⟨rfl, rfl, rfl⟩) h
  droppable := fun _ _ h => ⟨h.1, h.2.policy, h.2.watches⟩
  batch := fun _ _ _ _ h => ⟨h.1, h.2.policy, h.2.watches⟩
  shortfalls := fun s c g h => ⟨h.1, h.2.policy, fun k => handShortfalls_ordered s c s.cat g k (h.2.watches k)⟩
  watch := fun s k w hw h => ⟨h.1, h.2.policy, fun j => by
    rw [State.withWatch_watches, Quad.get_set]
    split
    · rename_i e; subst e; exact watchOutcome_ordered (s := s) h.1 (h.2.watches _) hw
    · exact h.2.watches j⟩

theorem bringUp_governed (s : State) (store : Store) (v : SavedValues) (straps : Quad Straps) :
    Governed (s.bringUp store v straps) := by
  refine ⟨fun k => ?_, fun k => ?_⟩
  · have hpool : (s.bringUp store v straps).pool k =
        { PoolState.initial with ceiling := ((s.bringUp store v straps).cat.poolRec k).map (·.capacity) } :=
      Quad.get_ofFn _ k
    rw [hpool]
    refine ⟨fun n hn => ?_, Nat.zero_le _, fun p => by simp [PoolState.initial]⟩
    simp only at hn
    simp [Catalogue.capacity, hn]
  · have : (s.bringUp store v straps).watches.get k = Watch.initial (v.meters.get k) := Quad.get_ofFn _ k
    rw [this]
    exact watchInitial_ordered _ _ _

theorem activate_governed {s : State} (ahead : Quad Nat) (h : WellGoverned s) : Governed (s.activateBlocks ahead) := by
  refine ⟨fun k => ?_, fun k => ?_⟩
  · have hpool : (s.activateBlocks ahead).pool k =
        (s.pool k).toCapacity s.serving ((s.activateBlocks ahead).cat.capacity k) := Quad.get_ofFn _ k
    rw [hpool]
    exact toCapacity_bounded _ _ (h.2.policy k)
  · have : (s.activateBlocks ahead).watches.get k = Watch.initial (s.watches.get k).meter := Quad.get_map _ _ k
    rw [this]
    exact watchInitial_ordered _ _ _

/-- Settles O58: each elementary change keeps policy and watches in order under quorums of at least 1, which a verified
image gives, and resets and activations set them in order. -/
theorem policyAndWatchesStayBounded : Obligations.PolicyAndWatchesStayBounded := by
  intro s t himages hpolicy hoverdraft hshort hstep
  have hlasts : Lasts WellGoverned Governed :=
    { kept := kept_wellGoverned, weaken := fun h => h.2, frame := fun h hc => governed_sameCore hc h
      droppable := fun _ _ h => ⟨h.policy, h.watches⟩
      bringUp := fun s store v straps _ => bringUp_governed s store v straps
      activate := fun _ ahead h => activate_governed ahead h }
  have hs : WellGoverned s := ⟨quorumsPositive_of_verified himages, (governed_iff s).mpr ⟨hpolicy, hoverdraft, hshort⟩⟩
  exact (governed_iff t).mp (step_lasts hlasts (fun _ _ h => ⟨h.1, h.2.policy, h.2.watches⟩) hstep hs)

end Sys2Proof.Machine.Charges
end

section
/-! SUPPORT. Charges (R29, R30) and the fit test (R31 to R34), and the order of the tests of a request (R48). -/

namespace Sys2Proof.Machine.Charges

/-! ### Charges (O18) -/

theorem lineCost_bounds (rate quantity scale : Nat) :
    rate * quantity * scale ≤ 16 * lineCost rate quantity scale ∧
    16 * lineCost rate quantity scale < rate * quantity * scale + 16 := by
  unfold lineCost; omega

/-- On the ranges of its factors a line cost lies in 1..65,280 (R29). -/
theorem lineCost_range {rate quantity scale : Nat} (hr : 1 ≤ rate) (hr' : rate ≤ 255) (hq : 1 ≤ quantity)
    (hq' : quantity ≤ 64) (hs : 1 ≤ scale) (hs' : scale ≤ 64) :
    1 ≤ lineCost rate quantity scale ∧ lineCost rate quantity scale ≤ 65280 := by
  have hlow : 1 ≤ rate * quantity * scale := Nat.mul_pos (Nat.mul_pos hr hq) hs
  have hhigh : rate * quantity * scale ≤ 255 * 64 * 64 := Nat.mul_le_mul (Nat.mul_le_mul hr' hq') hs'
  have := lineCost_bounds rate quantity scale
  omega

/-- A pool total is at most 65,280 for each line. -/
theorem poolTotal_le (lines : List Line) (k : Pool) (h : ∀ l ∈ lines, l.cost ≤ 65280) :
    poolTotal lines k ≤ lines.length * 65280 := by
  have hsum : poolTotal lines k ≤ (lines.filter fun l => l.pool = k).length * 65280 := by
    rw [← List.length_map (f := fun l : Line => l.cost)]
    refine List.sum_le_card_nsmul _ _ fun n hn => ?_
    obtain ⟨l, hl, rfl⟩ := List.mem_map.mp hn
    exact h l (List.mem_of_mem_filter hl)
  exact hsum.trans (Nat.mul_le_mul_right _ (List.length_filter_le _ _))

theorem poolTotal_unused {lines : List Line} {k : Pool} (h : ∀ l ∈ lines, l.pool ≠ k) : poolTotal lines k = 0 := by
  have : (lines.filter fun l => l.pool = k) = [] := by simpa using h
  simp [poolTotal, this]

/-- A pool total is at least the cost of each line on the pool. -/
theorem cost_le_poolTotal {lines : List Line} {l : Line} (h : l ∈ lines) : l.cost ≤ poolTotal lines l.pool :=
  List.le_sum_of_mem (List.mem_map.mpr ⟨l, by simpa using h, rfl⟩)

@[simp] theorem chargesOf_get (lines : List Line) (rebate : Nat) (k : Pool) :
    (chargesOf lines rebate).get k = chargeOf (poolTotal lines k) rebate := by
  simp [chargesOf]

/-- A rebate of at most 32 takes at most half of a total (R12, R30). -/
theorem half_le_chargeOf (total : Nat) {rebate : Nat} (h : rebate ≤ 32) : (total + 1) / 2 ≤ chargeOf total rebate := by
  have : total * rebate ≤ total * 32 := Nat.mul_le_mul_left _ h
  unfold chargeOf
  omega

theorem chargeOf_le (total rebate : Nat) : chargeOf total rebate ≤ total := Nat.sub_le _ _

/-- Settles O18. -/
theorem chargesAsGiven : Obligations.ChargesAsGiven := by
  refine ⟨lineCost_bounds, fun _ _ _ => lineCost_range, fun lines rebate hlen hlen' hrebate hcost => ?_⟩
  have hused (l : Line) (hl : l ∈ lines) : 1 ≤ chargeOf (poolTotal lines l.pool) rebate := by
    have := half_le_chargeOf (poolTotal lines l.pool) hrebate
    have := cost_le_poolTotal hl
    have := hcost l hl
    omega
  refine ⟨fun k => ?_, ?_⟩
  · have htotal : poolTotal lines k ≤ 522240 := (poolTotal_le lines k fun l hl => (hcost l hl).2).trans (by omega)
    rw [chargesOf_get]
    refine ⟨htotal, rfl, half_le_chargeOf _ hrebate, fun hno => ?_, fun ⟨l, hl, hk⟩ => ?_⟩
    · simp [poolTotal_unused hno, chargeOf]
    · exact ⟨hk ▸ hused l hl, (chargeOf_le _ _).trans htotal⟩
  · obtain ⟨l, hl⟩ := List.exists_mem_of_length_pos hlen
    exact ⟨l.pool, by simpa [needs] using hused l hl⟩

/-! ### The fit test (O19) -/

/-- The fit test's four outcomes exclude each other (R33). -/
theorem fitReason_cases (s : State) (c : Catalogue) (p : Port) (k : Pool) (charge : Nat) (ok : Bool) :
    ((s.pool k).inUse + charge + s.othersUnused k p ≤ s.effectiveLimit c k ok ∧
      s.fitReason c p k charge ok = none) ∨
    (s.effectiveLimit c k ok < (s.pool k).inUse ∧ s.fitReason c p k charge ok = some .overcommitted) ∨
    ((s.pool k).inUse + charge ≤ s.effectiveLimit c k ok ∧
      s.effectiveLimit c k ok < (s.pool k).inUse + charge + s.othersUnused k p ∧
      s.fitReason c p k charge ok = some .reservedElsewhere) ∨
    ((s.pool k).inUse ≤ s.effectiveLimit c k ok ∧ s.effectiveLimit c k ok < (s.pool k).inUse + charge ∧
      s.fitReason c p k charge ok = some .noTokens) := by
  unfold State.fitReason
  dsimp only
  split_ifs <;> simp <;> omega

/-- The effective limit is raised by the allowance when the overdraft is OPEN for a request that may use it (R31). -/
theorem effectiveLimit_eq (s : State) (c : Catalogue) (k : Pool) (ok : Bool) :
    s.effectiveLimit c k ok =
      if (s.watches.get k).overdraft = .opened ∧ ok = true then s.ceiling k + c.allowance k else s.ceiling k := by
  simp [State.effectiveLimit, State.overdraftOpen]

/-- The share cap test fails where a cap is set and the holding and the charge exceed it (R34). -/
theorem shareCapFails_iff (s : State) (p : Port) (k : Pool) (charge : Nat) :
    s.shareCapFails p k charge = true ↔
      (s.pool k).cap.get p ≠ 0 ∧ (s.pool k).cap.get p < (s.pool k).held.get p + charge := by
  simp [State.shareCapFails]

theorem othersUnused_eq (s : State) (k : Pool) (p : Port) :
    s.othersUnused k p = ((fours.filter fun q => q ≠ p).map fun q =>
      (s.pool k).reserve.get q - (s.pool k).held.get q).sum := by
  unfold State.othersUnused
  fin_cases p <;> simp [fours, Quad.sum, Quad.ofFn] <;> omega

/-- The order of the tests of a pool: share cap, HELD, fit test (R34, R48). -/
theorem poolReason_eq (s : State) (c : Catalogue) (p : Port) (k : Pool) (charge : Nat) (ok held : Bool) :
    s.poolReason c p k charge ok held =
      if (s.pool k).cap.get p ≠ 0 ∧ (s.pool k).cap.get p < (s.pool k).held.get p + charge then some .shareCap
      else if held then some .held else s.fitReason c p k charge ok := by
  simp only [State.poolReason, shareCapFails_iff]

theorem needs_iff (charges : Quad Nat) (k : Pool) : needs charges k = true ↔ 1 ≤ charges.get k := by
  simp [needs]

/-- No pool fails exactly when no needed pool does (R48). -/
theorem poolFailure_none_iff (s : State) (c : Catalogue) (p : Port) (charges : Quad Nat) (ok held : Pool → Bool) :
    s.poolFailure c p charges ok held = none ↔
      ∀ k, 1 ≤ charges.get k → s.poolReason c p k (charges.get k) (ok k) (held k) = none := by
  simp only [State.poolFailure, List.findSome?_eq_none_iff, mem_fours, true_imp_iff]
  refine forall_congr' fun k => ?_
  split
  · rename_i h; simp [(needs_iff charges k).mp h]
  · rename_i h; exact ⟨fun _ h' => absurd ((needs_iff charges k).mpr h') h, fun _ => rfl⟩

/-- The first value found over the four indices is that of the lowest index that has one. -/
theorem findSome_fours {α : Type} (f : Fin 4 → Option α) (x : α) :
    fours.findSome? f = some x ↔ ∃ k, f k = some x ∧ ∀ j, j < k → f j = none := by
  rw [List.findSome?_eq_some_iff]
  constructor
  · rintro ⟨before, k, rest, hl, hk, hno⟩
    refine ⟨k, hk, fun j hj => hno j ?_⟩
    have hsorted : (before ++ k :: rest).Pairwise (· < ·) := hl ▸ by decide
    rcases List.mem_append.mp (hl ▸ mem_fours j) with hb | hr
    · exact hb
    · rcases List.mem_cons.mp hr with rfl | hr
      · exact absurd hj (lt_irrefl _)
      · exact absurd hj (lt_asymm ((List.pairwise_cons.mp (List.pairwise_append.mp hsorted).2.1).1 j hr))
  · rintro ⟨k, hk, hno⟩
    obtain ⟨before, rest, hl⟩ := List.append_of_mem (mem_fours k)
    have hsorted : (before ++ k :: rest).Pairwise (· < ·) := hl ▸ by decide
    exact ⟨before, k, rest, hl, hk, fun j hj =>
      hno j ((List.pairwise_append.mp hsorted).2.2 j hj k List.mem_cons_self)⟩

/-- The failure of a request is that of its lowest-numbered pool that fails (R48, R50). -/
theorem poolFailure_some_iff (s : State) (c : Catalogue) (p : Port) (charges : Quad Nat) (ok held : Pool → Bool)
    (x : QueueReason) :
    s.poolFailure c p charges ok held = some x ↔
      ∃ k r, x = { reason := r, pool := some k } ∧ 1 ≤ charges.get k ∧
        s.poolReason c p k (charges.get k) (ok k) (held k) = some r ∧
        ∀ j, j < k → 1 ≤ charges.get j → s.poolReason c p j (charges.get j) (ok j) (held j) = none := by
  rw [State.poolFailure, findSome_fours]
  simp only [← needs_iff]
  constructor
  · rintro ⟨k, hk, hno⟩
    split at hk
    · obtain ⟨r, hr, rfl⟩ := Option.map_eq_some_iff.mp hk
      exact ⟨k, r, rfl, ‹_›, hr, fun j hj hn => by simpa [hn] using hno j hj⟩
    · cases hk
  · rintro ⟨k, r, rfl, hn, hr, hno⟩
    refine ⟨k, by simp [hn, hr], fun j hj => ?_⟩
    split
    · simp [hno j hj ‹_›]
    · rfl

/-- Settles O19. -/
theorem fitTestAsGiven : Obligations.FitTestAsGiven := by
  refine ⟨fun s c p k charge ok => ?_, fun s c k ok x hx => ?_, fun s c k ok hn => ?_, othersUnused_eq,
    fun s c p charges ok held h k hk => ?_⟩
  · rcases fitReason_cases s c p k charge ok with ⟨h, e⟩ | ⟨h, e⟩ | ⟨h, h', e⟩ | ⟨h, h', e⟩ <;>
      rw [e] <;> simp <;> omega
  · rw [effectiveLimit_eq]; simp [Catalogue.allowance, hx]
  · rw [effectiveLimit_eq]; simp [Catalogue.allowance, hn]
  · have hnone := (poolFailure_none_iff s c p charges ok held).mp h k hk
    rw [poolReason_eq] at hnone
    split_ifs at hnone with hcap hheld
    refine ⟨?_, by omega, by simpa using hheld⟩
    rcases fitReason_cases s c p k (charges.get k) (ok k) with ⟨h, -⟩ | ⟨-, e⟩ | ⟨-, -, e⟩ | ⟨-, -, e⟩
    · exact h
    all_goals rw [e] at hnone; cases hnone

/-! ### The order of the tests (O20) -/

theorem lineHas_iff (c : Catalogue) (l : Line) (f : Feature → Bool) :
    c.lineHas l f = true ↔ ∃ i x, l.index = some i ∧ c.feature i = some x ∧ f x = true := by
  unfold Catalogue.lineHas
  cases hi : l.index with
  | none => simp
  | some i => cases hf : c.feature i <;> simp [hf]

theorem overdraftOk_iff (c : Catalogue) (lines : List Line) (k : Pool) :
    overdraftOk c lines k = true ↔
      ∀ l ∈ lines, l.pool = k → ∃ i f, l.index = some i ∧ c.feature i = some f ∧ f.overdraftOk = true := by
  simp [overdraftOk, lineHas_iff, imp_iff_not_or]

theorem heldByQueue_iff (s : State) (k : Pool) :
    s.heldByQueue k = true ↔ ∃ e ∈ s.grant.queue, e.blocking = true ∧ 1 ≤ e.charges.get k := by
  simp [State.heldByQueue, needs_iff]

/-- No slot is FREE when each holds a checkout (R44). -/
theorem freeSlot_none_of_held {s : State} (h : ∀ n, n < s.grant.table.length → (s.checkoutAt n).isSome = true) :
    s.freeSlot = none := by
  refine List.findIdx?_eq_none_iff.mpr fun c hc => ?_
  obtain ⟨n, hn, rfl⟩ := List.getElem_of_mem hc
  have := h n hn
  rw [State.checkoutAt, List.getElem?_eq_getElem hn] at this
  simpa using this

/-- A slot of the table with no checkout is FREE, so that some slot is (R44). -/
theorem freeSlot_isSome_of_free {s : State} {n : Nat} (hn : n < s.grant.table.length) (h : s.checkoutAt n = none) :
    s.freeSlot.isSome = true := by
  rw [State.checkoutAt, List.getElem?_eq_getElem hn] at h
  exact List.findIdx?_isSome.trans (List.any_eq_true.mpr ⟨_, List.getElem_mem hn, by simpa using h⟩)

/-- The tests behind the pools' (R51): the table, and the journal for a metered request. -/
theorem orderFailure_eq (s : State) (c : Catalogue) (g : GrantOrder) :
    s.orderFailure c g =
      (s.poolFailure c g.owner g.charges (fun k => overdraftOk c g.lines k) s.heldByQueue).or
        (if s.freeSlot.isNone then some { reason := .tableFull, pool := none }
        else if g.metered = true ∧ 512 < s.journal.fifo.length + s.journal.rv + 2 then
          some { reason := .journalFull, pool := none }
        else none) := by
  have hroom : (g.metered && !s.journal.room 2) = true ↔
      g.metered = true ∧ 512 < s.journal.fifo.length + s.journal.rv + 2 := by
    simp [Journal.room, Config.journalPlaces]; omega
  unfold State.orderFailure
  simp only [hroom]
  split <;> simp [*]

/-- Settles O20. -/
theorem poolsTestedInOrder : Obligations.PoolsTestedInOrder := by
  refine ⟨overdraftOk_iff, fun s c p k charge ok held => ?_, fun s c p charges ok held reason hreason => ?_,
    fun s c g held failure hheld hfailure => ?_⟩
  · simp only [poolReason_eq]
    exact ⟨fun h => if_pos h, fun h => ⟨by simp [h], by simp [h]⟩⟩
  · obtain rfl : reason = _ := funext hreason
    exact ⟨poolFailure_none_iff s c p charges ok held, poolFailure_some_iff s c p charges ok held⟩
  · obtain rfl : held = s.heldByQueue :=
      funext fun k => Bool.eq_iff_iff.mpr ((hheld k).trans (heldByQueue_iff s k).symm)
    rw [orderFailure_eq, ← hfailure]
    refine ⟨fun x hx => by rw [hx]; rfl, fun hx hfull => ?_, fun n hx hn hfree => ?_⟩
    · rw [hx, freeSlot_none_of_held hfull]; rfl
    · have := freeSlot_isSome_of_free hn hfree
      have hsome : s.freeSlot.isNone = false := by rw [← Option.not_isSome, this]; rfl
      simp only [hx, hsome, Option.none_or, Bool.false_eq_true, if_false]
      exact ⟨fun h => if_pos h, fun h => if_neg h⟩

end Sys2Proof.Machine.Charges
end

section
/-! SUPPORT. Payloads as bytes (R193): a payload that reads as a value is that value's bytes, and no other. -/

namespace Sys2Proof.Machine.Charges

/-! ### Numbers -/

theorem beNat_lt (bs : List Byte) : beNat bs < 256 ^ bs.length := by
  induction bs with
  | nil => simp [beNat]
  | cons b bs ih =>
    have hb : b.toNat + 1 ≤ 256 := b.isLt
    calc beNat (b :: bs) < (b.toNat + 1) * 256 ^ bs.length := by rw [beNat_cons, Nat.add_mul]; omega
      _ ≤ 256 * 256 ^ bs.length := Nat.mul_le_mul_right _ hb
      _ = 256 ^ (b :: bs).length := by rw [List.length_cons, pow_succ, Nat.mul_comm]

/-- A number's bytes do not depend on what stands above them. -/
theorem beBytes_mod (w m n : Nat) : beBytes w (m * 256 ^ w + n) = beBytes w n := by
  induction w generalizing m with
  | zero => rfl
  | succ w ih =>
    have hm : m * 256 ^ (w + 1) + n = m * 256 * 256 ^ w + n := by ring
    have hd : (m * 256 * 256 ^ w + n) / 256 ^ w = m * 256 + n / 256 ^ w := by
      rw [Nat.add_comm, Nat.add_mul_div_right _ _ (by positivity), Nat.add_comm]
    rw [beBytes, beBytes, hm, ih, hd]
    congr 1
    apply BitVec.eq_of_toNat_eq
    simp

/-- Bytes are those of the number they carry (R193). -/
theorem beBytes_beNat (bs : List Byte) : beBytes bs.length (beNat bs) = bs := by
  induction bs with
  | nil => rfl
  | cons b bs ih =>
    have hd : (b.toNat * 256 ^ bs.length + beNat bs) / 256 ^ bs.length = b.toNat := by
      rw [Nat.add_comm, Nat.add_mul_div_right _ _ (by positivity), Nat.div_eq_of_lt (beNat_lt bs), Nat.zero_add]
    rw [List.length_cons, beBytes, beNat_cons, hd, beBytes_mod, ih]
    congr 1
    exact BitVec.eq_of_toNat_eq (by simp)

/-- Bytes carry a number that they can hold exactly when they are its bytes. -/
theorem eq_beBytes_iff {w n : Nat} {bs : List Byte} :
    bs.length = w ∧ beNat bs = n ↔ n < 256 ^ w ∧ bs = beBytes w n := by
  constructor
  · rintro ⟨rfl, rfl⟩; exact ⟨beNat_lt bs, (beBytes_beNat bs).symm⟩
  · rintro ⟨hn, rfl⟩; exact ⟨beBytes_length w n, by rw [beNat_beBytes, Nat.mod_eq_of_lt hn]⟩

theorem parseNumber_iff {w n : Nat} {payload : List Byte} :
    parseNumber w payload = some n ↔ n < 256 ^ w ∧ payload = beBytes w n := by
  rw [← eq_beBytes_iff]; simp [parseNumber]

theorem beNat_b1 {n : Nat} (h : n < 256) : beNat (b1 n) = n := by rw [b1, beNat_beBytes]; omega
theorem beNat_b2 {n : Nat} (h : n < 65536) : beNat (b2 n) = n := by rw [b2, beNat_beBytes]; omega
theorem beNat_b3 {n : Nat} (h : n < 16777216) : beNat (b3 n) = n := by rw [b3, beNat_beBytes]; omega
theorem beNat_b4 {n : Nat} (h : n < 4294967296) : beNat (b4 n) = n := by rw [b4, beNat_beBytes]; omega

theorem b1_toNat (b : Byte) : b1 b.toNat = [b] := by
  have := beBytes_beNat [b]; rwa [show beNat [b] = b.toNat by simp [beNat]] at this
theorem b2_beNat (a b : Byte) : b2 (beNat [a, b]) = [a, b] := beBytes_beNat [a, b]
theorem b3_beNat (a b c : Byte) : b3 (beNat [a, b, c]) = [a, b, c] := beBytes_beNat [a, b, c]
theorem b4_beNat (a b c d : Byte) : b4 (beNat [a, b, c, d]) = [a, b, c, d] := beBytes_beNat [a, b, c, d]

/-- The bytes of a number, for a parser that takes them one by one. -/
theorem b1_eq (n : Nat) : ∃ a, b1 n = [a] := ⟨_, rfl⟩
theorem b2_eq (n : Nat) : ∃ a b, b2 n = [a, b] := ⟨_, _, rfl⟩
theorem b3_eq (n : Nat) : ∃ a b c, b3 n = [a, b, c] := ⟨_, _, _, rfl⟩
theorem b4_eq (n : Nat) : ∃ a b c d, b4 n = [a, b, c, d] := ⟨_, _, _, _, rfl⟩

/-- One byte reads back as the number it was written from. -/
theorem toNat_of_b1 {n : Nat} {a : Byte} (h : n < 256) (e : b1 n = [a]) : a.toNat = n := by
  have := beNat_b1 h; rw [e] at this; simpa [beNat] using this

theorem beNat_three_lt (a b c : Byte) : beNat [a, b, c] < 2 ^ 24 := (beNat_lt _).trans_eq (by norm_num)
theorem beNat_four_lt (a b c d : Byte) : beNat [a, b, c, d] < 4294967296 := (beNat_lt _).trans_eq (by norm_num)

/-! ### Handles and tickets (R43, R70) -/

theorem parseHandle_iff (payload : List Byte) (h : Nat) :
    parseHandle payload = some h ↔ 256 ≤ h ∧ h ≤ 32767 ∧ payload = b2 h := by
  simp only [parseHandle, Option.filter_eq_some_iff, parseNumber_iff, isHandle, Bool.and_eq_true, decide_eq_true_eq, b2]
  constructor
  · rintro ⟨⟨-, e⟩, hl, hu⟩; exact ⟨hl, hu, e⟩
  · rintro ⟨hl, hu, e⟩; exact ⟨⟨by omega, e⟩, hl, hu⟩

theorem parseTicket_iff (payload : List Byte) (t : Nat) :
    parseTicket payload = some t ↔ 32800 ≤ t ∧ t ≤ 40959 ∧ payload = b2 t := by
  simp only [parseTicket, Option.filter_eq_some_iff, parseNumber_iff, isTicket, Bool.and_eq_true, decide_eq_true_eq, b2]
  constructor
  · rintro ⟨⟨-, e⟩, hl, hu⟩; exact ⟨hl, hu, e⟩
  · rintro ⟨hl, hu, e⟩; exact ⟨⟨by omega, e⟩, hl, hu⟩

/-! ### SET CEILING and SET SHARE (R163, R165) -/

theorem parseCeiling_iff (payload : List Byte) (q : CeilingRequest) :
    parseCeiling payload = some q ↔
      q.value < 2 ^ 24 ∧ payload = b1 q.pool.val ++ b3 q.value ++ b1 (if q.deferred then 1 else 0) := by
  constructor
  · intro h
    unfold parseCeiling at h
    split at h
    · rename_i k a b c t
      have hv := beNat_three_lt a b c
      split at h
      · split at h
        · rename_i ht
          cases h
          exact ⟨hv, by rw [b1_toNat, b3_beNat]; exact congrArg _ (congrArg _ (by rw [← b1_toNat t, ht]; rfl))⟩
        · rename_i ht
          cases h
          exact ⟨hv, by rw [b1_toNat, b3_beNat]; exact congrArg _ (congrArg _ (by rw [← b1_toNat t, ht]; rfl))⟩
        · cases h
      · cases h
    · cases h
  · rintro ⟨hv, rfl⟩
    obtain ⟨⟨k, hk⟩, v, d⟩ := q
    obtain ⟨kb, ek⟩ := b1_eq k
    obtain ⟨a, b, c, ev⟩ := b3_eq v
    obtain ⟨tb, et⟩ := b1_eq (if d then 1 else 0)
    have hkb := toNat_of_b1 (by omega) ek
    have htb := toNat_of_b1 (by cases d <;> decide) et
    have hvb := beNat_b3 hv
    simp only at *
    rw [ev] at hvb
    rw [ek, ev, et]
    show parseCeiling [kb, a, b, c, tb] = _
    cases d <;> simp [parseCeiling, hkb, hk, htb, hvb]

theorem parseShare_iff (payload : List Byte) (q : ShareRequest) :
    parseShare payload = some q ↔ q.cap < 2 ^ 24 ∧ q.reserve < 2 ^ 24 ∧
      payload = b1 q.port.val ++ b1 q.pool.val ++ b3 q.cap ++ b3 q.reserve := by
  constructor
  · intro h
    unfold parseShare at h
    split at h
    · rename_i p k a b c d e f
      split at h
      · split at h
        · cases h
          exact ⟨beNat_three_lt a b c, beNat_three_lt d e f, by rw [b1_toNat, b1_toNat, b3_beNat, b3_beNat]; rfl⟩
        · cases h
      · cases h
    · cases h
  · rintro ⟨hc, hr, rfl⟩
    obtain ⟨⟨p, hp⟩, ⟨k, hk⟩, cap, reserve⟩ := q
    obtain ⟨pb, ep⟩ := b1_eq p
    obtain ⟨kb, ek⟩ := b1_eq k
    obtain ⟨a, b, c, ec⟩ := b3_eq cap
    obtain ⟨d, e, f, er⟩ := b3_eq reserve
    have hpb := toNat_of_b1 (by omega) ep
    have hkb := toNat_of_b1 (by omega) ek
    have hcb := beNat_b3 hc
    have hrb := beNat_b3 hr
    simp only at *
    rw [ec] at hcb
    rw [er] at hrb
    rw [ep, ek, ec, er]
    show parseShare [pb, kb, a, b, c, d, e, f] = _
    simp [parseShare, hpb, hkb, hp, hk, hcb, hrb]

/-! ### CHECKOUT (R47, R49) -/

theorem noRepeat_iff (xs : List Nat) : noRepeat xs = true ↔ xs.Nodup := by
  induction xs with
  | nil => simp [noRepeat]
  | cons x xs ih => simp [noRepeat, ih]

theorem isCode_iff (n : Nat) : isCode n = true ↔ 1 ≤ n ∧ n ≤ 65534 := by simp [isCode]

/-- The bytes of pairs of code and quantity (R28). -/
def pairBytes (pairs : List (Nat × Nat)) : List Byte := pairs.flatMap fun x => b2 x.1 ++ b1 x.2

theorem pairBytes_length (pairs : List (Nat × Nat)) : (pairBytes pairs).length = 3 * pairs.length := by
  induction pairs with
  | nil => rfl
  | cons x xs ih =>
    have : (pairBytes (x :: xs)).length = 3 + (pairBytes xs).length := by simp [pairBytes, b1, b2]; omega
    rw [this, ih, List.length_cons]; omega

theorem parsePairs_pairBytes (pairs : List (Nat × Nat)) (h : ∀ x ∈ pairs, x.1 < 65536 ∧ x.2 < 256) :
    parsePairs (pairBytes pairs) = pairs := by
  induction pairs with
  | nil => rfl
  | cons x xs ih =>
    obtain ⟨hc, hq⟩ := h x (by simp)
    obtain ⟨a, b, ec⟩ := b2_eq x.1
    obtain ⟨q, eq⟩ := b1_eq x.2
    have hcb := beNat_b2 hc
    rw [ec] at hcb
    have hx : pairBytes (x :: xs) = a :: b :: q :: pairBytes xs := by
      show b2 x.1 ++ b1 x.2 ++ pairBytes xs = _
      rw [ec, eq]; rfl
    rw [hx, parsePairs, ih fun y hy => h y (by simp [hy]), hcb, toNat_of_b1 hq eq]

/-- Whole pairs of bytes read as pairs are those pairs' bytes. -/
theorem pairBytes_parsePairs : ∀ (n : Nat) (rest : List Byte), rest.length = 3 * n →
    pairBytes (parsePairs rest) = rest ∧ (parsePairs rest).length = n ∧ ∀ x ∈ parsePairs rest, x.2 ≤ 255
  | 0, [], _ => ⟨rfl, rfl, fun x hx => by simp [parsePairs] at hx⟩
  | n + 1, a :: b :: q :: rest, h => by
    obtain ⟨hb, hl, hq⟩ := pairBytes_parsePairs n rest (by simp at h; omega)
    refine ⟨?_, by simp [parsePairs, hl], fun x hx => ?_⟩
    · show b2 (beNat [a, b]) ++ b1 q.toNat ++ pairBytes (parsePairs rest) = _
      rw [b2_beNat, b1_toNat, hb]; rfl
    · rcases List.mem_cons.mp hx with rfl | hx
      · exact Nat.lt_succ_iff.mp q.isLt
      · exact hq x hx
  | n + 1, [], h => by simp at h
  | n + 1, [_], h => by simp at h; omega
  | n + 1, [_, _], h => by simp at h; omega

/-- The last part of a CHECKOUT in the form BUNDLE (R47, R49). -/
theorem parseWant_bundle_iff (form : Nat) (body : List Byte) (code m : Nat) :
    parseWant form body = some (.bundle code m) ↔
      form = 0 ∧ 1 ≤ code ∧ code ≤ 65534 ∧ 1 ≤ m ∧ m ≤ 16 ∧ body = b2 code ++ b1 m := by
  constructor
  · intro h
    unfold parseWant at h
    split at h
    · rename_i a b mb
      split at h
      · rename_i hc
        simp only [Bool.and_eq_true, isCode_iff, decide_eq_true_eq] at hc
        cases h
        exact ⟨rfl, hc.1.1.1, hc.1.1.2, hc.1.2, hc.2, by rw [b2_beNat, b1_toNat]; rfl⟩
      · cases h
    · dsimp only at h
      split at h <;> cases h
    · cases h
  · rintro ⟨rfl, hc, hc', hm, hm', rfl⟩
    obtain ⟨a, b, ec⟩ := b2_eq code
    obtain ⟨mb, em⟩ := b1_eq m
    have hcb := beNat_b2 (show code < 65536 by omega)
    rw [ec] at hcb
    rw [ec, em]
    show parseWant 0 [a, b, mb] = _
    simp [parseWant, hcb, toNat_of_b1 (by omega) em, isCode_iff, hc, hc', hm, hm']

/-- The last part of a CHECKOUT in the form LINES (R47, R49). -/
theorem parseWant_lines_iff (form : Nat) (body : List Byte) (pairs : List (Nat × Nat)) :
    parseWant form body = some (.lines pairs) ↔
      form = 1 ∧ 1 ≤ pairs.length ∧ pairs.length ≤ 8 ∧
      (∀ x ∈ pairs, 1 ≤ x.1 ∧ x.1 ≤ 65534 ∧ 1 ≤ x.2 ∧ x.2 ≤ 255) ∧ (pairs.map fun x => x.1).Nodup ∧
      body = b1 pairs.length ++ pairBytes pairs := by
  constructor
  · intro h
    unfold parseWant at h
    split at h
    · split at h <;> cases h
    · rename_i n rest
      dsimp only at h
      split at h
      · rename_i hc
        simp only [Bool.and_eq_true, decide_eq_true_eq, List.all_eq_true, isCode_iff, noRepeat_iff] at hc
        obtain ⟨⟨⟨⟨hlen, hn⟩, hn'⟩, hall⟩, hnodup⟩ := hc
        obtain ⟨hb, hl, hq⟩ := pairBytes_parsePairs n.toNat rest hlen
        cases h
        exact ⟨rfl, hl.symm ▸ hn, hl.symm ▸ hn',
          fun x hx => ⟨(hall x hx).1.1, (hall x hx).1.2, (hall x hx).2, hq x hx⟩, hnodup, by rw [hl, hb, b1_toNat]; rfl⟩
      · cases h
    · cases h
  · rintro ⟨rfl, hn, hn', hall, hnodup, rfl⟩
    obtain ⟨nb, en⟩ := b1_eq pairs.length
    have hparse := parsePairs_pairBytes pairs fun x hx => by have := hall x hx; omega
    have hcodes : (pairs.all fun x => isCode x.1 && decide (1 ≤ x.2)) = true := by
      simp only [List.all_eq_true, Bool.and_eq_true, isCode_iff, decide_eq_true_eq]
      exact fun x hx => ⟨⟨(hall x hx).1, (hall x hx).2.1⟩, (hall x hx).2.2.1⟩
    rw [en]
    show parseWant 1 (nb :: pairBytes pairs) = _
    simp only [parseWant, hparse, pairBytes_length, toNat_of_b1 (show pairs.length < 256 by omega) en]
    simp [hn, hn', hcodes, (noRepeat_iff _).mpr hnodup]

/-- A CHECKOUT payload is its form, tag and timeout, and a last part that is well-formed for the form (R47). -/
theorem parseCheckout_iff (payload : List Byte) (q : CheckoutRequest) :
    parseCheckout payload = some q ↔ q.tag < 4294967296 ∧ q.timeout ≤ 255 ∧
      ∃ form body, form < 256 ∧ parseWant form body = some q.want ∧
        payload = b1 form ++ b4 q.tag ++ b1 q.timeout ++ body := by
  constructor
  · intro h
    unfold parseCheckout at h
    split at h
    · rename_i form t3 t2 t1 t0 w body
      obtain ⟨want, hw, rfl⟩ := Option.map_eq_some_iff.mp h
      refine ⟨beNat_four_lt t3 t2 t1 t0, Nat.lt_succ_iff.mp w.isLt, form.toNat, body, form.isLt, hw, ?_⟩
      rw [b1_toNat, b4_beNat, b1_toNat]; rfl
    · cases h
  · rintro ⟨ht, hw, form, body, hf, hwant, rfl⟩
    obtain ⟨fb, ef⟩ := b1_eq form
    obtain ⟨t3, t2, t1, t0, et⟩ := b4_eq q.tag
    obtain ⟨wb, ew⟩ := b1_eq q.timeout
    have htb := beNat_b4 ht
    rw [et] at htb
    rw [ef, et, ew]
    show parseCheckout (fb :: t3 :: t2 :: t1 :: t0 :: wb :: body) = _
    simp [parseCheckout, toNat_of_b1 hf ef, hwant, htb, toNat_of_b1 (by omega) ew]

end Sys2Proof.Machine.Charges
end

section
/-! SUPPORT. What a request's row answers, said once: its work on the state without the request, and the reply placed
(R185); and the queries, the CHECKOUTs turned away early and the policy values that rest on it. -/

namespace Sys2Proof.Machine.Charges

/-! ### Rows that carry out a request -/

/-- The row of a ready request gives what its work gives, with the reply placed. -/
theorem serve_gives {s u : State} {r : Request} {c : Command} {work : Request → State → State × Reply} {x : Reply}
    (hr : s.Ready r) (hc : r.command = c) (hw : work r (s.dropRequest c r.port) = (u, x)) :
    serve c r.port s work = .next (u.respond r x) := by
  subst hc
  rw [serve_eq _ _ _ _ r hr.1 hr.2, hw]

/-- A work that changes nothing leaves the request answered with no other effect. -/
theorem serve_answers {s : State} {r : Request} {c : Command} {work : Request → State → State × Reply} {x : Reply}
    (hr : s.Ready r) (hc : r.command = c) (hw : work r (s.dropRequest c r.port) = (s.dropRequest c r.port, x)) :
    serve c r.port s work = .next (s.onlyAnswered r x) := by
  rw [serve_gives hr hc hw]; subst hc; rfl

theorem needsCatalogue_serving {b : Basis} {s : State} {work : State × Reply} (h : b.serving = true) :
    needsCatalogue b s work = work := if_pos h

theorem needsAdmin_admin {b : Basis} {s : State} {work : State × Reply} (h : b.privileges.admin = true) :
    needsAdmin b s work = work := if_pos h

/-- The basis of a request does not look at the requests passed on. -/
@[simp] theorem dropRequest_basis (s : State) (c : Command) (p : Port) (r : Request) :
    (s.dropRequest c p).basis r = s.basis r := rfl

/-! ### Handles and tickets (R43, R70) -/

theorem findHandle_iff (s : State) (h n : Nat) (e : Checkout) :
    s.findHandle h = some (n, e) ↔ n = h % 256 ∧ s.checkoutAt n = some e ∧ s.generationAt n = h / 256 := by
  unfold State.findHandle
  constructor
  · intro hf
    split at hf
    · split at hf
      · cases hf; exact ⟨rfl, ‹_›, ‹_›⟩
      · cases hf
    · cases hf
  · rintro ⟨rfl, hc, hg⟩
    rw [hc]
    exact if_pos hg

theorem ticket_eq (s : State) (e : WaitEntry) : s.ticket e = 32768 + s.waitGeneration e.slot * 32 + e.slot := rfl

/-- The entry found in a wait slot is an entry of the queue that stands in the slot. -/
theorem mem_of_waiting {s : State} {n : Nat} {e : WaitEntry} (h : s.waiting n = some e) :
    e ∈ s.grant.queue ∧ e.slot = n :=
  ⟨List.mem_of_find?_eq_some h, by simpa using List.find?_some h⟩

/-- Where each entry has a slot of its own, it is the one found there (R69). -/
theorem waiting_slot {s : State} (hnodup : (s.grant.queue.map (·.slot)).Nodup) {e : WaitEntry} (he : e ∈ s.grant.queue) :
    s.waiting e.slot = some e := by
  cases hf : s.waiting e.slot with
  | none => simpa using List.find?_eq_none.mp hf e he
  | some x =>
    obtain ⟨hx, hs⟩ := mem_of_waiting hf
    rw [List.inj_on_of_nodup_map hnodup hx he hs]

/-- A wait slot of the part has a generation of at least 1 (R69). -/
theorem waitGeneration_pos {s : State} (h : s.SlotsNumbered) {n : Nat} (hn : n < Config.waitSlots) :
    1 ≤ s.waitGeneration n := by
  obtain ⟨-, -, hlen, hgens⟩ := h
  have hn' : n < s.grant.waitGens.length := hlen.symm ▸ hn
  rw [State.waitGeneration, List.getD_eq_getElem _ _ hn']
  exact (hgens _ (List.getElem_mem hn')).1

theorem findTicket_iff {s : State} (hs : s.SlotsNumbered) (hq : s.QueueBounded) (t : Nat) (e : WaitEntry) :
    s.findTicket t = some e ↔ e ∈ s.grant.queue ∧ t = 32768 + s.waitGeneration e.slot * 32 + e.slot := by
  have hslot {x : WaitEntry} (hx : x ∈ s.grant.queue) : x.slot < 32 := hq.2.1 x hx
  simp only [State.findTicket, Option.filter_eq_some_iff, beq_iff_eq]
  constructor
  · rintro ⟨hw, hg⟩
    obtain ⟨he, hn⟩ := mem_of_waiting hw
    have := waitGeneration_pos hs (hslot he)
    exact ⟨he, by simp only [Config.ticketBase] at *; omega⟩
  · rintro ⟨he, rfl⟩
    have := hslot he
    have hmod : (32768 + s.waitGeneration e.slot * 32 + e.slot - Config.ticketBase) % 32 = e.slot := by
      simp only [Config.ticketBase]; omega
    exact ⟨by rw [hmod]; exact waiting_slot hq.1 he, by simp only [Config.ticketBase]; omega⟩

/-! ### QUERY CHECKOUT and QUERY WAIT (O15) -/

theorem queryCheckoutWork_serving {r : Request} {s : State} (h : (s.basis r).serving = true) :
    queryCheckoutWork r s = match parseHandle r.payload with
      | none => (s, .bare .badRequest)
      | some n => match s.findHandle n with
        | none => (s, .bare .notFound)
        | some (_, e) => (s, .ok (checkoutBytes s.cat n e)) :=
  needsCatalogue_serving h

theorem queryWaitWork_serving {r : Request} {s : State} (h : (s.basis r).serving = true) :
    queryWaitWork r s = match parseTicket r.payload with
      | none => (s, .bare .badRequest)
      | some t => match s.findTicket t with
        | none => (s, .bare .notFound)
        | some e => (s, .ok (s.waitBytes e)) :=
  needsCatalogue_serving h

/-- Settles O15. -/
theorem queriesReportEntries : Obligations.QueriesReportEntries := by
  refine ⟨findHandle_iff, fun s t e hs hq => findTicket_iff hs hq t e, ticket_eq, parseHandle_iff, parseTicket_iff,
    fun s r hr hc hserving => ?_, fun s r hr hc hserving => ?_⟩
  · have hwork := queryCheckoutWork_serving (r := r) (s := s.dropRequest .queryCheckout r.port) hserving
    refine ⟨fun hp => serve_answers hr hc ?_, fun h hp hf => serve_answers hr hc ?_,
      fun h n e hp hf => serve_answers hr hc ?_⟩
    · rw [hwork, hp]
    · rw [hwork, hp]
      simp only [show (s.dropRequest .queryCheckout r.port).findHandle h = none from hf]
    · rw [hwork, hp]
      simp only [show (s.dropRequest .queryCheckout r.port).findHandle h = some (n, e) from hf]
      rfl
  · have hwork := queryWaitWork_serving (r := r) (s := s.dropRequest .queryWait r.port) hserving
    refine ⟨fun hp => serve_answers hr hc ?_, fun t hp hf => serve_answers hr hc ?_,
      fun t e hp hf => serve_answers hr hc ?_⟩
    · rw [hwork, hp]
    · rw [hwork, hp]
      simp only [show (s.dropRequest .queryWait r.port).findTicket t = none from hf]
    · rw [hwork, hp]
      simp only [show (s.dropRequest .queryWait r.port).findTicket t = some e from hf, State.waitBytes,
        QueueReason.bytes, List.append_assoc]
      rfl

/-! ### CHECKOUT turned away in stages 1 and 2 (O22) -/

theorem parseCheckout_wellFormed (payload : List Byte) (q : CheckoutRequest) : parseCheckout payload = some q ↔
    q.tag < 4294967296 ∧ q.timeout ≤ 255 ∧ match q.want with
      | .bundle code m => 1 ≤ code ∧ code ≤ 65534 ∧ 1 ≤ m ∧ m ≤ 16 ∧
        payload = b1 0 ++ b4 q.tag ++ b1 q.timeout ++ b2 code ++ b1 m
      | .lines pairs => 1 ≤ pairs.length ∧ pairs.length ≤ 8 ∧
        (∀ x ∈ pairs, 1 ≤ x.1 ∧ x.1 ≤ 65534 ∧ 1 ≤ x.2 ∧ x.2 ≤ 255) ∧ (pairs.map fun x => x.1).Nodup ∧
        payload = b1 1 ++ b4 q.tag ++ b1 q.timeout ++ b1 pairs.length ++ pairs.flatMap fun x => b2 x.1 ++ b1 x.2 := by
  rw [parseCheckout_iff]
  refine and_congr_right fun _ => and_congr_right fun _ => ?_
  obtain ⟨tag, timeout, want⟩ := q
  cases want with
  | bundle code m =>
    simp only [parseWant_bundle_iff]
    constructor
    · rintro ⟨form, body, -, ⟨rfl, hc, hc', hm, hm', rfl⟩, rfl⟩
      exact ⟨hc, hc', hm, hm', by simp only [List.append_assoc]⟩
    · rintro ⟨hc, hc', hm, hm', rfl⟩
      exact ⟨0, _, by omega, ⟨rfl, hc, hc', hm, hm', rfl⟩, by simp only [List.append_assoc]⟩
  | lines pairs =>
    simp only [parseWant_lines_iff]
    constructor
    · rintro ⟨form, body, -, ⟨rfl, hn, hn', hall, hnodup, rfl⟩, rfl⟩
      exact ⟨hn, hn', hall, hnodup, by simp only [List.append_assoc]; rfl⟩
    · rintro ⟨hn, hn', hall, hnodup, rfl⟩
      exact ⟨1, _, by omega, ⟨rfl, hn, hn', hall, hnodup, rfl⟩, by simp only [List.append_assoc]; rfl⟩

theorem checkoutWork_serving {r : Request} {s : State} (h : (s.basis r).serving = true) :
    checkoutWork r s = match parseCheckout r.payload with
      | none => (s, .bare .badRequest)
      | some q =>
        match resolve (s.basis r).catalogue q.want with
        | .absent n => (s, { status := .notFound, payload := b1 n })
        | .found bundle rebate items =>
          match firstFault (s.basis r).catalogue (s.basis r).effClass 1 items with
          | some (reason, n) => s.deny r.port q.tag (wantCode q.want) reason n false (Quad.fill 0)
          | none =>
            s.judgeOrder (s.basis r).catalogue r.under.isNone
              (orderFor (s.basis r).catalogue (s.basis r).effClass r.port q.tag bundle rebate items) q.timeout :=
  needsCatalogue_serving h

/-- Settles O22. -/
theorem checkoutTurnedAwayEarly : Obligations.CheckoutTurnedAwayEarly := by
  refine ⟨parseCheckout_wellFormed, fun s r hr hc hserving => ?_⟩
  have hwork := checkoutWork_serving (r := r) (s := s.dropRequest .checkout r.port) hserving
  simp only [dropRequest_basis] at hwork
  refine ⟨fun hp => serve_answers hr hc ?_, fun q n hp hres => serve_answers hr hc ?_,
    fun q bundle rebate items reason n hp hres hfault => serve_gives hr hc ?_⟩
  · rw [hwork, hp]
  · rw [hwork, hp]; simp only [hres]
  · rw [hwork, hp]
    simp only [hres, hfault]
    obtain ⟨tag, timeout, want⟩ := q
    cases want <;> rfl

/-! ### SET CEILING and SET SHARE (O51) -/

theorem queuePass_policy (s : State) (k : Pool) :
    (s.queuePass.pool k).ceiling = (s.pool k).ceiling ∧ (s.queuePass.pool k).pendingCeiling = (s.pool k).pendingCeiling :=
  State.queuePass_induct (P := fun t => (t.pool k).ceiling = (s.pool k).ceiling ∧
      (t.pool k).pendingCeiling = (s.pool k).pendingCeiling)
    (fun t e _ h => by simpa [State.pool] using h) (fun t n f _ h => h)
    (fun t n e _ _ _ _ h => by
      have hp : (t.grantWaiting n e).pool k = (t.grantInto n (t.orderOf e)).pool k := rfl
      rw [hp, grantInto_pool]; exact h) s ⟨rfl, rfl⟩

/-- A policy command of a port with ADMIN in SERVING passes the tests before its own (R159, R163, R165). -/
theorem policyCommand_passes {r : Request} {s : State} {own : State × Reply} (hc : outlasts r.command = false)
    (hserving : s.serving = true) (hadmin : (s.basis r).privileges.admin = true) : policyCommand r s own = own := by
  have : (s.basis r).serving = true := by rw [s.basis_of_not_outlasts r hc]; exact hserving
  rw [policyCommand, needsCatalogue_serving this, needsAdmin_admin hadmin]

/-- The other ports' reserves, added up (R165, step 2). -/
theorem sum_others (q : Quad Nat) (p : Port) :
    ((fours.filter fun i => i ≠ p).map fun i => q.get i).sum = (q.set p 0).sum := by
  fin_cases p <;> simp [fours, Quad.sum, Quad.set, Quad.get] <;> omega

theorem setCeilingWork_passes {r : Request} {s : State} (hc : r.command = .setCeiling) (hserving : s.serving = true)
    (hadmin : (s.basis r).privileges.admin = true) :
    setCeilingWork r s = match parseCeiling r.payload with
      | none => (s, .bare .badRequest)
      | some q => (s.setCeiling q, .ok (ceilingBytes q (s.cat.capacity q.pool) ((s.setCeiling q).pool q.pool))) :=
  policyCommand_passes (by rw [hc]; rfl) hserving hadmin

theorem setShareWork_passes {r : Request} {s : State} (hc : r.command = .setShare) (hserving : s.serving = true)
    (hadmin : (s.basis r).privileges.admin = true) :
    setShareWork r s = match parseShare r.payload with
      | none => (s, .bare .badRequest)
      | some q => (s.setShare q, .ok (b1 q.port.val ++ b1 q.pool.val ++ b3 q.cap ++ b3 q.reserve ++
          b3 (s.appliedCap q) ++ b3 (s.appliedReserve q) ++ indication (s.appliedCap q != q.cap) ++
          indication (s.appliedReserve q != q.reserve) ++ b3 (((s.setShare q).pool q.pool).held.get q.port))) :=
  policyCommand_passes (by rw [hc]; rfl) hserving hadmin

/-- What a SET CEILING leaves and replies, with the pool as it stands before the pass and after (R163, R164). -/
theorem setCeiling_gives {s u w : State} {q : CeilingRequest} {v : Nat} (hv : v = min q.value (s.cat.capacity q.pool))
    (hu : u = s.withPools (s.grant.pools.set q.pool
      (if q.deferred then { s.pool q.pool with pendingCeiling := some v }
        else { s.pool q.pool with ceiling := some v, pendingCeiling := none })))
    (hw : w = if q.deferred = false ∧ s.ceiling q.pool < u.ceiling q.pool then u.queuePass else u) :
    s.setCeiling q = w ∧ ceilingBytes q (s.cat.capacity q.pool) (w.pool q.pool) =
      b1 q.pool.val ++ b3 q.value ++ b3 v ++ indication (decide (s.cat.capacity q.pool < q.value)) ++
        b3 (u.ceiling q.pool) ++ b3 (w.pool q.pool).inUse ++ indication q.deferred ++
        b3 (if q.deferred then v else 0) := by
  have hpool : u.pool q.pool = if q.deferred then { s.pool q.pool with pendingCeiling := some v }
      else { s.pool q.pool with ceiling := some v, pendingCeiling := none } := by
    rw [hu, State.withPools_pool, Quad.get_set_self]
  have hpolicy : (w.pool q.pool).ceiling = (u.pool q.pool).ceiling ∧
      (w.pool q.pool).pendingCeiling = (u.pool q.pool).pendingCeiling := by
    rw [hw]; split
    · exact queuePass_policy u q.pool
    · exact ⟨rfl, rfl⟩
  have hstate : s.setCeiling q = w := by
    unfold State.setCeiling
    cases hd : q.deferred
    · have hup : u.ceiling q.pool = v := by simp [State.ceiling, hpool, hd]
      simp only [hd, Bool.false_eq_true, if_false, true_and, hup] at hu hw ⊢
      rw [hw, hu, hv]; rfl
    · simp only [hd, Bool.true_eq_false, if_true, false_and, if_false] at hu hw ⊢
      rw [hw, hu, hv]; rfl
  refine ⟨hstate, ?_⟩
  rw [ceilingBytes, hpolicy.1, hpolicy.2, ← hv]
  have hpending : (u.pool q.pool).pendingCeiling = if q.deferred then some v else none := by
    rw [hpool]; cases q.deferred <;> rfl
  rw [hpending]
  cases q.deferred <;> rfl

/-- The reserve a SET SHARE applies, with the room spelled out (R165). -/
theorem appliedReserve_eq (s : State) (q : ShareRequest) :
    s.appliedReserve q =
      (if s.appliedCap q = 0 then min q.reserve (s.cat.capacity q.pool -
        ((fours.filter fun p => p ≠ q.port).map fun p => (s.pool q.pool).reserve.get p).sum)
      else min (min q.reserve (s.cat.capacity q.pool -
        ((fours.filter fun p => p ≠ q.port).map fun p => (s.pool q.pool).reserve.get p).sum)) (s.appliedCap q)) := by
  rw [sum_others]; rfl

/-- Settles O51. -/
theorem policyValuesAreClamped : Obligations.PolicyValuesAreClamped := by
  refine ⟨parseCeiling_iff, parseShare_iff, fun s r n hr hserving hadmin hn => ⟨fun hc => ?_, fun hc => ?_⟩⟩
  · have hwork := setCeilingWork_passes (s := s.dropRequest .setCeiling r.port) hc hserving hadmin
    refine ⟨fun hp => serve_answers hr hc (by rw [hwork, hp]), fun q v u w hp hv hu hw => serve_gives hr hc ?_⟩
    rw [hn] at hv
    obtain ⟨hstate, hbytes⟩ := setCeiling_gives (s := s.dropRequest .setCeiling r.port) hv hu hw
    rw [hwork, hp, hn]
    simp only [hstate, hbytes]
    rfl
  · have hwork := setShareWork_passes (s := s.dropRequest .setShare r.port) hc hserving hadmin
    refine ⟨fun hp => serve_answers hr hc (by rw [hwork, hp]),
      fun q cap others reserve u hp hcap hothers hreserve hu => serve_gives hr hc ?_⟩
    have hcap' : (s.dropRequest .setShare r.port).appliedCap q = cap := by rw [hcap, hn]; rfl
    have hreserve' : (s.dropRequest .setShare r.port).appliedReserve q = reserve := by
      rw [appliedReserve_eq, hcap', hreserve, hothers, hn]; rfl
    have hstate : (s.dropRequest .setShare r.port).setShare q = u := by
      rw [State.setShare, hcap', hreserve', hu]; rfl
    rw [hwork, hp]
    simp only [hcap', hreserve', hstate]

end Sys2Proof.Machine.Charges
end

section
/-! SUPPORT. Site policy at the completion of an activation (R25, R168; O49). -/

namespace Sys2Proof.Machine.Charges

theorem outlasts_of_mem {c : Command} (h : c ∈ outlastingCommands) : outlasts c = true := by
  simp only [outlastingCommands, List.mem_cons, List.not_mem_nil, or_false] at h
  rcases h with rfl | rfl | rfl | rfl <;> rfl

/-- An image write that completes in a running part with no request to finish and no window end to take activates the
image in the state as it stands (R152). -/
theorem execImageWriteComplete_activates {s : State} (ahead : Quad Nat) (hrun : s.running = true)
    (hwrite : s.store.write = .imageWrite) (hdue : s.due = WindowEnds.zero)
    (hrequests : ∀ x ∈ s.requests, x.command ∈ outlastingCommands) :
    exec (.imageWriteComplete ahead) s = .next (s.activateAll ahead) := by
  have hpowered : s.powered = true := by simp only [State.running, Bool.and_eq_true] at hrun; exact hrun.1
  have htaken := s.finishTaken_none fun r hr => outlasts_of_mem (hrequests r hr)
  show Host.Outcome.next _ = _
  rw [hpowered, hwrite]
  simp only [hrun, if_true, State.completeActivation, htaken, s.takeDue_of_zero hdue]

/-- What follows the blocks at a completion touches neither the catalogue nor the Grant Engine. -/
theorem activateAll_frame (s : State) (ahead : Quad Nat) :
    (s.activateAll ahead).cat = (s.activateBlocks ahead).cat ∧
    (s.activateAll ahead).grant = (s.activateBlocks ahead).grant := by
  unfold State.activateAll State.windowAfterImage State.saveAfterImage
  dsimp only
  split <;> split <;> exact ⟨rfl, rfl⟩

/-- A pool at the completion is brought to its new capacity (R25, R168). -/
theorem activateAll_pool (s : State) (ahead : Quad Nat) (k : Pool) :
    (s.activateAll ahead).pool k = (s.pool k).toCapacity s.serving ((s.activateAll ahead).cat.capacity k) := by
  obtain ⟨hcat, hgrant⟩ := activateAll_frame s ahead
  rw [State.pool, hgrant, hcat]
  exact Quad.get_ofFn _ k

theorem toCapacity_tokens (q : PoolState) (serving : Bool) (capacity : Nat) :
    (q.toCapacity serving capacity).inUse = q.inUse ∧ (q.toCapacity serving capacity).held = q.held ∧
    (q.toCapacity serving capacity).pendingCeiling = q.pendingCeiling := by
  cases serving <;> exact ⟨rfl, rfl, rfl⟩

/-- Settles O49. -/
theorem activationCutsPolicy : Obligations.ActivationCutsPolicy := by
  intro s u ahead k hrun hwrite hdue hrequests he
  rw [execImageWriteComplete_activates ahead hrun hwrite hdue hrequests] at he
  obtain rfl := Host.Outcome.next.inj he
  rw [activateAll_pool]
  generalize (s.activateAll ahead).cat.capacity k = capacity
  obtain ⟨hin, hheld, hpending⟩ := toCapacity_tokens (s.pool k) s.serving capacity
  refine ⟨hin, hheld, hpending, fun hs => ?_, fun hs => ?_⟩
  · rw [hs]; exact ⟨rfl, rfl, rfl⟩
  · rw [hs]
    refine ⟨fun v hv => ?_, fun p => ?_, cutReserves_sum _ _, cutReserves_le _ _, cutReserves_downward _ _⟩
    · simp [PoolState.toCapacity, hv, Nat.min_comm]
    · simp [PoolState.toCapacity, Nat.min_comm]

end Sys2Proof.Machine.Charges
end

section
/-! SUPPORT. What a queue pass does with the entry it reaches, said once for each of its outcomes (R74 to R77; O31). -/

namespace Sys2Proof.Machine.Charges

/-! ### The tests of an entry -/

/-- The re-check fails for a line of no slot, of a disabled feature, or of one neither ACTIVE nor in GRACE (R74). -/
theorem recheckFails_iff (s : State) (e : WaitEntry) : s.recheckFails e = true ↔
    ∃ l ∈ e.lines, ∀ i, l.index = some i → (s.cat.slot i).site.enabled = false ∨
      ((s.cat.slot i).term ≠ some .active ∧ (s.cat.slot i).term ≠ some .grace) := by
  rw [State.recheckFails, List.any_eq_true]
  refine exists_congr fun l => and_congr_right fun _ => ?_
  cases l.index with
  | none => simp
  | some i =>
    simp only [Option.some.injEq, forall_eq', Bool.or_eq_true, Bool.not_eq_true']
    refine or_congr_right ?_
    rcases (s.cat.slot i).term with - | t
    · simp
    · cases t <;> simp

theorem anyBlocked_iff (b : Quad Bool) (charges : Quad Nat) :
    anyBlocked b charges = true ↔ ∃ k, b.get k = true ∧ 1 ≤ charges.get k := by
  simp only [anyBlocked, List.any_eq_true, mem_fours, true_and, Bool.and_eq_true, needs_iff]

theorem blockAll_get (b : Quad Bool) (charges : Quad Nat) (k : Pool) :
    (blockAll b charges).get k = true ↔ b.get k = true ∨ 1 ≤ charges.get k := by
  simp [blockAll, needs_iff]

theorem orderOf_metered_iff (s : State) (e : WaitEntry) : (s.orderOf e).metered = true ↔
    ∃ l ∈ e.lines, ∃ i f, l.index = some i ∧ s.cat.feature i = some f ∧ f.metered = true := by
  simp only [State.orderOf, List.any_eq_true, lineHas_iff]

theorem orderOf_grace_iff (s : State) (e : WaitEntry) : (s.orderOf e).grace = true ↔
    ∃ l ∈ e.lines, ∃ i, l.index = some i ∧ (s.cat.slot i).term = some .grace := by
  simp only [State.orderOf, List.any_eq_true, beq_iff_eq, Catalogue.lineTerm, Option.bind_eq_some_iff]

theorem overdraftAfter_iff (s : State) (e : WaitEntry) : s.overdraftAfter (s.orderOf e) = true ↔
    ∃ k, 1 ≤ e.charges.get k ∧ s.cat.capacity k < (s.pool k).inUse + e.charges.get k := by
  simp only [State.overdraftAfter, State.orderOf, List.any_eq_true, mem_fours, true_and, Bool.and_eq_true, needs_iff,
    decide_eq_true_eq, Quad.get_ofFn]

/-- The lowest-numbered slot without a checkout is the one a grant takes (R44). -/
theorem freeSlot_of_lowest {s : State} {n : Nat} (hn : n < s.grant.table.length) (hfree : s.checkoutAt n = none)
    (hlow : ∀ m, m < n → (s.checkoutAt m).isSome = true) : s.freeSlot = some n := by
  refine List.findIdx?_eq_some_iff_getElem.mpr ⟨hn, ?_, fun m hm => ?_⟩
  · rw [State.checkoutAt, List.getElem?_eq_getElem hn] at hfree
    simpa using hfree
  · have := hlow m hm
    rw [State.checkoutAt, List.getElem?_eq_getElem (hm.trans hn)] at this
    simpa [← Option.isSome_iff_ne_none] using this

/-! ### The outcomes of an entry -/

variable {s : State} {b : Quad Bool} {e : WaitEntry} {es : List WaitEntry}

theorem passOver_skips (hb : anyBlocked b e.charges = true) : s.passOver b (e :: es) = s.passOver b es := by
  rw [State.passOver]; simp only [hb, if_true]

theorem passOver_fails (hb : anyBlocked b e.charges = false) (hf : s.recheckFails e = true) :
    s.passOver b (e :: es) = (s.endWait (some .failed) e).passOver b es := by
  rw [State.passOver]; simp only [hb, hf, if_true, Bool.false_eq_true, if_false]

theorem passOver_keeps (hb : anyBlocked b e.charges = false) (hf : s.recheckFails e = false) {r : QueueReason}
    (hr : s.entryFailure e = some r) :
    s.passOver b (e :: es) =
      (s.updateEntry e.slot fun x => { x with blocking := decide (r.reason ≠ .shareCap), last := r }).passOver
        (if r.reason = .shareCap then b else blockAll b e.charges) es := by
  rw [State.passOver]; simp only [hb, hf, hr, Bool.false_eq_true, if_false]
  split <;> rename_i h <;> simp only [h, ne_eq, not_true_eq_false, not_false_eq_true, decide_true, decide_false]

theorem passOver_full (hb : anyBlocked b e.charges = false) (hf : s.recheckFails e = false)
    (hr : s.entryFailure e = none) (hn : s.freeSlot = none) :
    s.passOver b (e :: es) =
      { state := s.updateEntry e.slot fun x => { x with last := { reason := .tableFull, pool := none } }
        blocked := b, unvisited := es } := by
  rw [State.passOver]; simp only [hb, hf, hr, hn, Bool.false_eq_true, if_false]

theorem passOver_fits (hb : anyBlocked b e.charges = false) (hf : s.recheckFails e = false)
    (hr : s.entryFailure e = none) {n : Nat} (hn : s.freeSlot = some n) :
    s.passOver b (e :: es) =
      if (s.orderOf e).metered = true ∧ 512 < s.journal.fifo.length + s.journal.rv + 2 then s.passOver b es
      else (s.grantWaiting n e).passOver b es := by
  rw [State.passOver]; simp only [hb, hf, hr, hn, Bool.false_eq_true, if_false]
  have hroom : ((s.orderOf e).metered && !s.journal.room 2) = true ↔
      (s.orderOf e).metered = true ∧ 512 < s.journal.fifo.length + s.journal.rv + 2 := by
    simp [Journal.room, Config.journalPlaces]; omega
  simp only [hroom]

theorem nextWaitGeneration_eq (g : Nat) : nextWaitGeneration g = if g < 255 then g + 1 else 1 := by
  unfold nextWaitGeneration Config.lastWaitGeneration
  split <;> split <;> omega

/-- A removed entry leaves the queue and its slot's generation behind, and touches besides only its port and the Journal
(R79). -/
theorem endWait_frame (s : State) (c : Option WaitCause) (e : WaitEntry) :
    (s.endWait c e).grant = { s.grant with
      queue := s.grant.queue.filter fun x => x.slot != e.slot
      waitGens := s.grant.waitGens.set e.slot
        (if s.waitGeneration e.slot < 255 then s.waitGeneration e.slot + 1 else 1) } ∧
    { s.endWait c e with grant := s.grant, ports := s.ports, journal := s.journal } = s := by
  refine ⟨?_, by unfold State.endWait; cases c <;> rfl⟩
  rw [State.endWait_grant, State.leaveQueue, nextWaitGeneration_eq]

/-- A grant from the queue touches the Grant Engine, the entry's port and the Journal alone (R76). -/
theorem grantWaiting_frame (s : State) (n : Nat) (e : WaitEntry) :
    { s.grantWaiting n e with grant := s.grant, ports := s.ports, journal := s.journal } = s := by
  unfold State.grantWaiting State.grantInto
  dsimp only
  split <;> rfl

/-- The Grant Engine after a grant from the queue: the slot holds the entry, the charges are applied, and the entry has
left the queue (R36, R76, R79). -/
theorem grantWaiting_grant_eq (s : State) (n : Nat) (e : WaitEntry) :
    (s.grantWaiting n e).grant =
      { table := s.grant.table.set n { generation := s.generationAt n, entry := some (s.grantEntry (s.orderOf e)) }
        waitGens := s.grant.waitGens.set e.slot
          (if s.waitGeneration e.slot < 255 then s.waitGeneration e.slot + 1 else 1)
        queue := s.grant.queue.filter fun x => x.slot != e.slot
        pools := Quad.ofFn fun k => (s.pool k).take e.port (e.charges.get k) } := by
  rw [State.grantWaiting_grant, ← nextWaitGeneration_eq]
  unfold State.leaveQueue State.waitGeneration
  dsimp only
  rw [State.grantInto_grant]
  rfl

/-- The port of an entry granted from the queue is handed its GRANTED notice (R76). -/
theorem grantWaiting_ports (s : State) (n : Nat) (e : WaitEntry) :
    (s.grantWaiting n e).ports = s.ports.modify e.port fun q => q.hand (.granted (s.ticket e)
      (handleOf (s.generationAt n) n) (s.overdraftAfter (s.orderOf e)) (s.orderOf e).grace) := by
  rw [State.grantWaiting, State.notify_ports]
  show (s.grantInto n (s.orderOf e)).ports.modify e.port _ = _
  rw [State.grantInto_ports]

/-- A table with one slot replaced, read slot by slot. -/
theorem checkoutAt_eq_of_table {s u : State} {n : Nat} {c : CheckoutSlot} (h : u.grant.table = s.grant.table.set n c)
    (hn : n < s.grant.table.length) :
    u.checkoutAt n = c.entry ∧ u.generationAt n = c.generation ∧
    ∀ m, m ≠ n → u.grant.table[m]? = s.grant.table[m]? := by
  have hget : u.grant.table[n]? = some c := by rw [h, List.getElem?_set_self hn]
  refine ⟨by rw [State.checkoutAt, hget]; rfl, by rw [State.generationAt, hget]; rfl, fun m hm => ?_⟩
  rw [h, List.getElem?_set_ne (Ne.symm hm)]

/-- Settles O31. -/
theorem queuePassJudgesEachEntry : Obligations.QueuePassJudgesEachEntry := by
  refine ⟨recheckFails_iff, fun s e => rfl, fun s b => rfl, fun s b e es => ⟨fun h => ?_, fun h => ?_⟩⟩
  · exact passOver_skips ((anyBlocked_iff b e.charges).mpr h)
  have hb : anyBlocked b e.charges = false := by
    rw [Bool.eq_false_iff, Ne, anyBlocked_iff]
    rintro ⟨k, hk, hc⟩
    have := h k hk
    omega
  refine ⟨fun hf => ?_, fun hf => ⟨fun r hr => ?_, fun hr hfull => ?_, ?_⟩⟩
  · obtain ⟨hgrant, hframe⟩ := endWait_frame s (some .failed) e
    exact ⟨_, passOver_fails hb hf, hgrant, State.endWait_ports .., State.endWait_journal .., hframe⟩
  · refine ⟨_, passOver_keeps hb hf hr, fun hs => if_pos hs, fun hs k => ?_⟩
    rw [if_neg hs]
    exact blockAll_get b e.charges k
  · exact passOver_full hb hf hr (freeSlot_none_of_held hfull)
  · intro n metered grace od hr hn hfree hlow hmetered hgrace hod
    obtain rfl : (s.orderOf e).metered = metered := Bool.eq_iff_iff.mpr ((orderOf_metered_iff s e).trans hmetered.symm)
    obtain rfl : (s.orderOf e).grace = grace := Bool.eq_iff_iff.mpr ((orderOf_grace_iff s e).trans hgrace.symm)
    obtain rfl : s.overdraftAfter (s.orderOf e) = od := Bool.eq_iff_iff.mpr ((overdraftAfter_iff s e).trans hod.symm)
    have hfits := passOver_fits (es := es) hb hf hr (freeSlot_of_lowest hn hfree hlow)
    refine ⟨fun hroom => hfits.trans (if_pos hroom), fun hroom => ⟨_, hfits.trans (if_neg hroom), ?_⟩⟩
    have hgrant := grantWaiting_grant_eq s n e
    obtain ⟨hentry, hgen, hothers⟩ := checkoutAt_eq_of_table (s := s) (u := s.grantWaiting n e)
      (congrArg GrantEngine.table hgrant) hn
    refine ⟨hentry, hgen, hothers, fun k => ?_, congrArg GrantEngine.queue hgrant, congrArg GrantEngine.waitGens hgrant,
      ?_, ?_, grantWaiting_frame s n e⟩
    · rw [State.pool, hgrant]; exact Quad.get_ofFn _ k
    · exact grantWaiting_ports s n e
    · rw [State.grantWaiting_journal, State.grantInto_journal]; rfl

end Sys2Proof.Machine.Charges
end

section
/-! SUPPORT. Checkouts released together and waiting entries removed together, as RETURN TAG and RELEASE PORT do it (R61,
R62; O26). -/

namespace Sys2Proof.Machine.Charges

/-! ### Checkouts released one after another -/

theorem modify_modify {α : Type} (q : Quad α) (i : Fin 4) (f g : α → α) :
    (q.modify i f).modify i g = q.modify i fun x => g (f x) := by
  refine Quad.ext_get fun j => ?_
  simp only [Quad.get_modify]
  split <;> rfl

theorem modify_self {α : Type} (q : Quad α) (i : Fin 4) : (q.modify i fun x => x) = q := by
  refine Quad.ext_get fun j => ?_
  simp only [Quad.get_modify, ite_self]

/-- What a slot's checkout draws from a pool. -/
def chargeAt (s : State) (k : Pool) (i : Nat) : Nat :=
  match s.checkoutAt i with
  | some e => e.charges.get k
  | none => 0

/-- The Journal after the release of a slot's checkout (R58). -/
def releaseJournal (s : State) (j : Journal) (i : Nat) : Journal :=
  match s.checkoutAt i with
  | some e =>
    if e.flags.metered then { j.write s.time.clock (s.releaseRecord i e .returned) with rv := j.rv - 1 } else j
  | none => j

/-- `v` is `s` after the release of the checkouts of the slots `l`, all of the port `p`. -/
structure Freed (s : State) (p : Port) (l : List Nat) (v : State) : Prop where
  checkoutAt : ∀ i, v.checkoutAt i = if i ∈ l then none else s.checkoutAt i
  generationAt : ∀ i, v.generationAt i = if i ∈ l then nextGeneration (s.generationAt i) else s.generationAt i
  pool : ∀ k, v.pool k = { s.pool k with
    inUse := (s.pool k).inUse - (l.map (chargeAt s k)).sum
    held := (s.pool k).held.modify p fun x => x - (l.map (chargeAt s k)).sum }
  journal : v.journal = l.foldl (releaseJournal s) s.journal
  queue : v.grant.queue = s.grant.queue
  waitGens : v.grant.waitGens = s.grant.waitGens
  frame : { v with grant := s.grant, journal := s.journal } = s

/-- A release in full: the slot under its next generation, and every other slot as it was (R45, R58). -/
theorem release_slots {s : State} {n : Nat} {e : Checkout} (he : s.checkoutAt n = some e) (kind : RecordKind) (i : Nat) :
    (s.release n e kind).checkoutAt i = (if i = n then none else s.checkoutAt i) ∧
    (s.release n e kind).generationAt i = (if i = n then nextGeneration (s.generationAt n) else s.generationAt i) := by
  obtain ⟨c, hc, -⟩ := checkoutAt_iff.mp he
  have hn : n < s.grant.table.length := (List.getElem?_eq_some_iff.mp hc).1
  have htable : (s.release n e kind).grant.table =
      s.grant.table.set n { generation := nextGeneration (s.generationAt n), entry := none } := by
    rw [State.release_grant]; rfl
  obtain ⟨hentry, hgen, hothers⟩ := checkoutAt_eq_of_table htable hn
  by_cases h : i = n
  · subst h; exact ⟨by rw [if_pos rfl]; exact hentry, by rw [if_pos rfl]; exact hgen⟩
  · rw [if_neg h, if_neg h, State.checkoutAt, State.generationAt, hothers i h]; exact ⟨rfl, rfl⟩

theorem release_frame (s : State) (n : Nat) (e : Checkout) (kind : RecordKind) :
    (s.release n e kind).grant.queue = s.grant.queue ∧ (s.release n e kind).grant.waitGens = s.grant.waitGens ∧
    { s.release n e kind with grant := s.grant, journal := s.journal } = s := by
  unfold State.release
  dsimp only
  split <;> exact ⟨rfl, rfl, rfl⟩

theorem releaseBody_eq (s : State) (n : Nat) (e : Checkout) :
    s.releaseBody n e .returned = s.releaseRecord n e .returned := by
  unfold State.releaseBody State.releaseRecord
  cases e.bundle <;> rfl

theorem Freed.snoc {s v : State} {p : Port} {l : List Nat} {i : Nat} {e : Checkout} (h : Freed s p l v) (hi : i ∉ l)
    (he : s.checkoutAt i = some e) (hp : e.owner = p) : Freed s p (l ++ [i]) (v.releaseSlot .returned i) := by
  have hv : v.checkoutAt i = some e := by rw [h.checkoutAt, if_neg hi, he]
  have hgen : v.generationAt i = s.generationAt i := by rw [h.generationAt, if_neg hi]
  have htime : v.time = s.time := by have := congrArg State.time h.frame; exact this
  have hstep : v.releaseSlot .returned i = v.release i e .returned := by rw [State.releaseSlot, hv]
  have hcharge (k : Pool) : ((l ++ [i]).map (chargeAt s k)).sum = (l.map (chargeAt s k)).sum + e.charges.get k := by
    simp [chargeAt, he]
  obtain ⟨hqueue, hgens, hframe⟩ := release_frame v i e .returned
  rw [hstep]
  refine ⟨fun j => ?_, fun j => ?_, fun k => ?_, ?_, hqueue.trans h.queue, hgens.trans h.waitGens, ?_⟩
  · rw [(release_slots hv .returned j).1, h.checkoutAt]
    by_cases hj : j = i <;> simp [hj]
  · rw [(release_slots hv .returned j).2, hgen, h.generationAt j]
    by_cases hj : j = i <;> simp [hj]
  · rw [release_pool, h.pool, hp, hcharge, PoolState.give, modify_modify]
    simp only [Nat.sub_sub]
  · rw [State.release_journal, List.foldl_append, ← h.journal, htime]
    have hbody : v.releaseBody i e .returned = s.releaseRecord i e .returned := by
      rw [releaseBody_eq, State.releaseRecord, hgen]; rfl
    simp only [List.foldl_cons, List.foldl_nil, releaseJournal, he, hbody]
  · have := congrArg (fun x : State => { x with grant := s.grant, journal := s.journal }) hframe
    exact this.trans h.frame

/-- Checkouts of one port released one after another. -/
theorem freed_foldl (s : State) (p : Port) (l : List Nat) (hnodup : l.Nodup)
    (hheld : ∀ i ∈ l, ∃ e, s.checkoutAt i = some e ∧ e.owner = p) :
    Freed s p l (l.foldl (State.releaseSlot · .returned) s) := by
  induction l using List.reverseRecOn with
  | nil =>
    refine ⟨fun i => by simp, fun i => by simp, fun k => ?_, rfl, rfl, rfl, rfl⟩
    simp [modify_self]
  | append_singleton l i ih =>
    obtain ⟨e, he, hp⟩ := hheld i (by simp)
    have hi : i ∉ l := fun hm => (List.nodup_append.mp hnodup).2.2 i hm i (by simp) rfl
    have := ih (List.nodup_append.mp hnodup).1 fun j hj => hheld j (by simp [hj])
    rw [List.foldl_append]
    exact this.snoc hi he hp

/-! ### Entries removed one after another -/

/-- `u` is `s` after the removal, without notice, of the waiting entries `es`. -/
structure Ended (s : State) (es : List WaitEntry) (u : State) : Prop where
  queue : u.grant.queue = s.grant.queue.filter fun x => !es.any fun e => e.slot == x.slot
  waitGeneration : ∀ i, u.waitGeneration i =
    if es.any fun e => e.slot == i then nextWaitGeneration (s.waitGeneration i) else s.waitGeneration i
  gensLength : u.grant.waitGens.length = s.grant.waitGens.length
  table : u.grant.table = s.grant.table
  pools : u.grant.pools = s.grant.pools
  journal : u.journal = es.foldl (fun j e => j.writeDroppable s.time.clock
    (RecordBody.plain .waitEnd e.port (s.ticket e) e.tag (requestCode e.bundle e.lines) e.charges)) s.journal
  frame : { u with grant := s.grant, journal := s.journal } = s

theorem Ended.snoc {s u : State} {es : List WaitEntry} {e : WaitEntry} (h : Ended s es u)
    (hnew : es.any (fun x => x.slot == e.slot) = false) (hslot : e.slot < s.grant.waitGens.length) :
    Ended s (es ++ [e]) (u.endWait none e) := by
  have hgen : u.waitGeneration e.slot = s.waitGeneration e.slot := by rw [h.waitGeneration, hnew]; rfl
  have htime : u.time = s.time := by have := congrArg State.time h.frame; exact this
  refine ⟨?_, fun i => ?_, ?_, h.table, h.pools, ?_, ?_⟩
  · show (u.grant.queue.filter fun x => x.slot != e.slot) = _
    rw [h.queue, List.filter_filter]
    refine List.filter_congr fun x _ => ?_
    simp only [List.any_append, List.any_cons, List.any_nil, Bool.or_false, Bool.not_or, bne, Bool.and_comm]
    rw [Bool.beq_comm]
  · show (u.grant.waitGens.set e.slot (nextWaitGeneration (u.waitGeneration e.slot))).getD i 1 = _
    by_cases hi : i = e.slot
    · subst hi
      rw [List.getD_eq_getElem _ _ (by rw [List.length_set, h.gensLength]; exact hslot), List.getElem_set_self, hgen]
      simp
    · have hne : (e.slot == i) = false := by simpa using Ne.symm hi
      have := h.waitGeneration i
      rw [State.waitGeneration] at this
      simp only [List.any_append, List.any_cons, List.any_nil, Bool.or_false, hne]
      rw [← this, List.getD_eq_getElem?_getD, List.getElem?_set_ne (Ne.symm hi), ← List.getD_eq_getElem?_getD]
  · show (u.grant.waitGens.set _ _).length = _
    rw [List.length_set, h.gensLength]
  · rw [State.endWait_journal, List.foldl_append, ← h.journal, htime, State.waitEndBody, State.ticket, hgen]
    rfl
  · have := congrArg (fun x : State => { x with grant := s.grant, journal := s.journal }) h.frame
    exact this

/-- Entries of slots of their own removed one after another, without notice. -/
theorem ended_endWaits (s : State) (es : List WaitEntry) (hnodup : (es.map (·.slot)).Nodup)
    (hslots : ∀ e ∈ es, e.slot < s.grant.waitGens.length) : Ended s es (s.endWaits none es) := by
  induction es using List.reverseRecOn with
  | nil => exact ⟨by simp [State.endWaits], fun i => rfl, rfl, rfl, rfl, rfl, rfl⟩
  | append_singleton es e ih =>
    rw [List.map_append, List.nodup_append] at hnodup
    have hnew : es.any (fun x => x.slot == e.slot) = false := by
      rw [List.any_eq_false]
      intro x hx
      simpa using hnodup.2.2 x.slot (List.mem_map.mpr ⟨x, hx, rfl⟩) e.slot (by simp)
    have := ih hnodup.1 fun x hx => hslots x (by simp [hx])
    rw [State.endWaits, List.foldl_append]
    exact this.snoc hnew (hslots e (by simp))

/-- Where each entry has a slot of its own, the removal of those that satisfy a condition leaves the others (R69). -/
theorem filter_of_slots {queue : List WaitEntry} (hnodup : (queue.map (·.slot)).Nodup) (f : WaitEntry → Bool) :
    (queue.filter fun x => !(queue.filter f).any fun e => e.slot == x.slot) = queue.filter fun x => !f x := by
  refine List.filter_congr fun x hx => congrArg _ (Bool.eq_iff_iff.mpr ?_)
  simp only [List.any_eq_true, List.mem_filter, beq_iff_eq]
  exact ⟨fun ⟨e, ⟨he, hf⟩, hs⟩ => List.inj_on_of_nodup_map hnodup he hx hs ▸ hf,
    fun hf => ⟨x, ⟨hx, hf⟩, rfl⟩⟩

/-! ### The slots of the checkouts that satisfy a condition (R61) -/

/-- Whether a slot's checkout satisfies a condition. -/
def heldWith (s : State) (f : Checkout → Bool) (i : Nat) : Bool :=
  match s.checkoutAt i with
  | some e => f e
  | none => false

theorem slotsWhere_eq (s : State) (f : Checkout → Bool) :
    s.slotsWhere f = (List.range s.grant.table.length).filter (heldWith s f) := rfl

theorem heldWith_iff {s : State} {f : Checkout → Bool} {i : Nat} :
    heldWith s f i = true ↔ ∃ e, s.checkoutAt i = some e ∧ f e = true := by
  unfold heldWith
  cases s.checkoutAt i <;> simp

theorem mem_slotsWhere {s : State} {f : Checkout → Bool} {i : Nat} : i ∈ s.slotsWhere f ↔ heldWith s f i = true := by
  rw [slotsWhere_eq, List.mem_filter, List.mem_range, and_iff_right_iff_imp, heldWith_iff]
  rintro ⟨e, he, -⟩
  obtain ⟨c, hc, -⟩ := checkoutAt_iff.mp he
  exact (List.getElem?_eq_some_iff.mp hc).1

theorem slotsWhere_nodup (s : State) (f : Checkout → Bool) : (s.slotsWhere f).Nodup :=
  List.nodup_range.filter _

/-- The table read slot by slot. -/
theorem map_checkoutAt {β : Type} (s : State) (g : Option Checkout → β) :
    (List.range s.grant.table.length).map (fun i => g (s.checkoutAt i)) = s.grant.table.map fun c => g c.entry := by
  refine List.ext_getElem (by simp) fun i hi _ => ?_
  have : i < s.grant.table.length := by simpa using hi
  simp [State.checkoutAt, this]

theorem sum_map_filter {α : Type} (f : α → Bool) (g : α → Nat) (l : List α) :
    ((l.filter f).map g).sum = (l.map fun x => if f x then g x else 0).sum := by
  induction l with
  | nil => rfl
  | cons x l ih => cases h : f x <;> simp [h, ih]

/-- The charges of the slots' checkouts, added up from the table (R61). -/
theorem sum_chargeAt (s : State) (f : Checkout → Bool) (k : Pool) :
    ((s.slotsWhere f).map (chargeAt s k)).sum = chargeSum s.grant.table k f := by
  rw [slotsWhere_eq, sum_map_filter, chargeSum_eq, ← map_checkoutAt s (entryCharge k f)]
  refine congrArg List.sum (List.map_congr_left fun i _ => ?_)
  unfold heldWith chargeAt entryCharge
  cases s.checkoutAt i <;> rfl

theorem totalCharges_eq (s : State) (f : Checkout → Bool) :
    s.totalCharges (s.slotsWhere f) = Quad.ofFn fun k => chargeSum s.grant.table k f :=
  congrArg Quad.ofFn (funext fun k => sum_chargeAt s f k)

/-- The number of slots, counted over the table (R61). -/
theorem slotsWhere_length (s : State) (f : Checkout → Bool) :
    (s.slotsWhere f).length = s.grant.table.countP fun c => match c.entry with | some e => f e | none => false := by
  have hmap := map_checkoutAt s fun x => match x with | some e => f e | none => false
  have hrange : (List.range s.grant.table.length).countP (heldWith s f) =
      ((List.range s.grant.table.length).map (heldWith s f)).countP id := by rw [List.countP_map]; rfl
  have htable : (s.grant.table.countP fun c => match c.entry with | some e => f e | none => false) =
      (s.grant.table.map fun c => match c.entry with | some e => f e | none => false).countP id := by
    rw [List.countP_map]; rfl
  rw [slotsWhere_eq, ← List.countP_eq_length_filter, hrange, htable]
  exact congrArg (List.countP id) hmap

/-! ### RETURN TAG and RELEASE PORT (O26) -/

/-- The state after the releases and removals of a RETURN TAG or RELEASE PORT, before any pass (R61). -/
def releasedTogether (s : State) (slots : List Nat) (es : List WaitEntry) : State :=
  (slots.foldl (State.releaseSlot · .returned) s).endWaits none es

theorem releaseMany_eq (s : State) (slots : List Nat) (es : List WaitEntry) :
    s.releaseMany slots es =
      if slots.length = 0 ∧ es = [] then releasedTogether s slots es else (releasedTogether s slots es).queuePass := by
  unfold State.releaseMany releasedTogether
  simp only [Bool.and_eq_true, List.isEmpty_iff, List.length_eq_zero_iff]

theorem parseNumber_four (payload : List Byte) (n : Nat) :
    parseNumber 4 payload = some n ↔ n < 4294967296 ∧ payload = b4 n := by
  rw [parseNumber_iff]
  exact and_congr_left' (by norm_num)

/-- What both commands leave before the pass: exactly the port's checkouts and waiting entries under the condition are
gone (R61, R62). -/
theorem releasedTogether_freed (s : State) (p : Port) (mine : Nat → Bool) (hqueue : s.QueueBounded) :
    ∃ v, Freed s p (s.slotsWhere fun e => e.owner == p && mine e.tag) v ∧
      Ended v (s.grant.queue.filter fun e => e.port == p && mine e.tag)
        (releasedTogether s (s.slotsWhere fun e => e.owner == p && mine e.tag)
          (s.grant.queue.filter fun e => e.port == p && mine e.tag)) := by
  obtain ⟨hnodup, hslots, hgens, -, -⟩ := hqueue
  have hfreed := freed_foldl s p (s.slotsWhere fun e => e.owner == p && mine e.tag) (slotsWhere_nodup s _) fun i hi => by
    obtain ⟨e, he, hf⟩ := heldWith_iff.mp (mem_slotsWhere.mp hi)
    exact ⟨e, he, by simpa using (Bool.and_eq_true_iff.mp hf).1⟩
  refine ⟨_, hfreed, ended_endWaits _ _ (hnodup.sublist (List.filter_sublist.map _)) fun e he => ?_⟩
  rw [hfreed.waitGens, hgens]
  exact hslots e (List.mem_of_mem_filter he)

theorem returnTagWork_serving {r : Request} {s : State} {tag : Nat} (h : (s.basis r).serving = true)
    (hp : parseNumber 4 r.payload = some tag) :
    returnTagWork r s =
      (s.releaseMany (s.slotsWhere fun e => e.owner == r.port && e.tag == tag)
        (s.grant.queue.filter fun e => e.port == r.port && e.tag == tag),
       .ok (s.releaseCounts (s.slotsWhere fun e => e.owner == r.port && e.tag == tag)
        (s.grant.queue.filter fun e => e.port == r.port && e.tag == tag))) := by
  have hentries : (s.entriesOf r.port).filter (fun e => e.tag == tag) =
      s.grant.queue.filter fun e => e.port == r.port && e.tag == tag := by
    rw [State.entriesOf, List.filter_filter]
    exact List.filter_congr fun e _ => Bool.and_comm _ _
  rw [returnTagWork, needsCatalogue_serving h, hp, ← hentries]

theorem releasePortWork_serving {r : Request} {s : State} (h : (s.basis r).serving = true) (hp : r.payload = []) :
    releasePortWork r s =
      ((s.releaseMany (s.slotsWhere fun e => e.owner == r.port) (s.grant.queue.filter fun e => e.port == r.port)).abandonStaging
        r.port,
       .ok (s.releaseCounts (s.slotsWhere fun e => e.owner == r.port) (s.grant.queue.filter fun e => e.port == r.port) ++
        indication (decide (s.stager.port = some r.port) && s.stager.open_))) := by
  rw [releasePortWork, needsCatalogue_serving h, hp]
  rfl

/-- The releases' journal, walked over the whole table (R171, R172; log 33). -/
theorem releaseJournal_foldl (s : State) (f : Checkout → Bool) (j : Journal) :
    (s.slotsWhere f).foldl (releaseJournal s) j =
      (List.range s.grant.table.length).foldl
        (fun j i => match s.checkoutAt i with
          | some e =>
            if f e && e.flags.metered then
              { j.write s.time.clock (s.releaseRecord i e .returned) with rv := j.rv - 1 } else j
          | none => j) j := by
  rw [slotsWhere_eq, List.foldl_filter]
  congr 1
  funext j i
  unfold heldWith releaseJournal
  cases s.checkoutAt i with
  | none => rfl
  | some e => cases hf : f e <;> simp [hf]

/-- The state that both commands leave before the pass, field by field. -/
theorem releasedTogether_fields {s : State} {p : Port} {mine : Nat → Bool} {leaves : Checkout → Bool}
    {going : List WaitEntry} (hleaves : leaves = fun e => e.owner == p && mine e.tag)
    (hgoing : going = s.grant.queue.filter fun e => e.port == p && mine e.tag) (hqueue : s.QueueBounded) {u : State}
    (hu : u = releasedTogether s (s.slotsWhere leaves) going) :
    u.grant.queue = (s.grant.queue.filter fun e => !(e.port == p && mine e.tag)) ∧
    (∀ i, u.checkoutAt i = match s.checkoutAt i with
      | some e => if leaves e then none else some e
      | none => none) ∧
    (∀ i, u.generationAt i = match s.checkoutAt i with
      | some e => if leaves e then nextGeneration (s.generationAt i) else s.generationAt i
      | none => s.generationAt i) ∧
    (∀ i, u.waitGeneration i =
      if going.any (fun e => e.slot == i) then nextWaitGeneration (s.waitGeneration i) else s.waitGeneration i) ∧
    (∀ k, u.pool k = { s.pool k with
      inUse := (s.pool k).inUse - chargeSum s.grant.table k leaves
      held := (s.pool k).held.modify p fun x => x - chargeSum s.grant.table k leaves }) ∧
    u.journal = going.foldl
      (fun j e => j.writeDroppable s.time.clock
        (RecordBody.plain .waitEnd e.port (s.ticket e) e.tag (requestCode e.bundle e.lines) e.charges))
      ((List.range s.grant.table.length).foldl
        (fun j i => match s.checkoutAt i with
          | some e =>
            if leaves e && e.flags.metered then
              { j.write s.time.clock (s.releaseRecord i e .returned) with rv := j.rv - 1 } else j
          | none => j) s.journal) ∧
    { u with grant := s.grant, journal := s.journal } = s := by
  obtain ⟨v, hfreed, hended⟩ := releasedTogether_freed s p mine hqueue
  rw [← hleaves, ← hgoing, ← hu] at hended
  rw [← hleaves] at hfreed
  have htime : v.time = s.time := by
    have := congrArg State.time hfreed.frame
    exact this
  have hticket (e : WaitEntry) : v.ticket e = s.ticket e := by
    simp only [State.ticket, State.waitGeneration, hfreed.waitGens]
  refine ⟨?_, fun i => ?_, fun i => ?_, fun i => ?_, fun k => ?_, ?_, ?_⟩
  · rw [hended.queue, hfreed.queue, hgoing]
    exact filter_of_slots hqueue.1 _
  · have : u.checkoutAt i = v.checkoutAt i := by rw [State.checkoutAt, hended.table]; rfl
    rw [this, hfreed.checkoutAt]; simp only [mem_slotsWhere, heldWith]
    cases s.checkoutAt i <;> simp
  · have : u.generationAt i = v.generationAt i := by rw [State.generationAt, hended.table]; rfl
    rw [this, hfreed.generationAt]; simp only [mem_slotsWhere, heldWith]
    cases s.checkoutAt i <;> simp
  · have : v.waitGeneration i = s.waitGeneration i := by rw [State.waitGeneration, hfreed.waitGens]; rfl
    rw [hended.waitGeneration, this]
  · have : u.pool k = v.pool k := by rw [State.pool, hended.pools]; rfl
    rw [this, hfreed.pool, sum_chargeAt]
  · rw [hended.journal, hfreed.journal, releaseJournal_foldl, htime]
    simp only [hticket]
  · have := congrArg (fun x : State => { x with grant := s.grant, journal := s.journal }) hended.frame
    exact this.trans hfreed.frame

/-- The counts that both commands report (R61). -/
theorem releaseCounts_eq (s : State) (f : Checkout → Bool) (going : List WaitEntry) :
    s.releaseCounts (s.slotsWhere f) going =
      b2 (s.grant.table.countP fun c => match c.entry with | some e => f e | none => false) ++ b1 going.length ++
        tokens (Quad.ofFn fun k => chargeSum s.grant.table k f) := by
  rw [State.releaseCounts, slotsWhere_length, totalCharges_eq]

theorem releaseMany_slotsWhere (s : State) (f : Checkout → Bool) (going : List WaitEntry) :
    s.releaseMany (s.slotsWhere f) going =
      if s.grant.table.countP (fun c => match c.entry with | some e => f e | none => false) = 0 ∧ going = [] then
        releasedTogether s (s.slotsWhere f) going
      else (releasedTogether s (s.slotsWhere f) going).queuePass := by
  rw [releaseMany_eq, slotsWhere_length]

/-- Settles O26. -/
theorem tagAndPortReleases : Obligations.TagAndPortReleases := by
  refine ⟨parseNumber_four, fun s r hr hserving =>
    ⟨fun hc hp => serve_answers hr hc ?_, fun hc hp => serve_answers hr hc ?_⟩, ?_⟩
  · rw [returnTagWork, dropRequest_basis, needsCatalogue_serving hserving, hp]
  · rw [releasePortWork, dropRequest_basis, needsCatalogue_serving hserving, if_pos hp]
  rintro s r c tag mine leaves going total hr hc hserving hqueue hcase hleaves hgoing rfl
  obtain ⟨hq, hcheckout, hgen, hwait, hpool, hjournal, hframe⟩ :=
    releasedTogether_fields (s := s.dropRequest c r.port) hleaves hgoing hqueue rfl
  refine ⟨_, _, hq, rfl, hcheckout, hgen, hwait, hpool, hjournal, hframe, ?_, ?_⟩
  · rintro rfl
    obtain ⟨-, hp, rfl⟩ | ⟨hno, -⟩ := hcase
    · refine serve_gives hr hc ?_
      rw [returnTagWork_serving (s := s.dropRequest .returnTag r.port) hserving hp, releaseMany_slotsWhere,
        releaseCounts_eq, hleaves, hgoing]
      rfl
    · cases hno
  · rintro rfl
    obtain ⟨hno, -⟩ | ⟨-, hp, rfl⟩ := hcase
    · cases hno
    · refine serve_gives hr hc ?_
      simp only [Bool.and_true] at hleaves hgoing
      rw [releasePortWork_serving (s := s.dropRequest .releasePort r.port) hserving hp, releaseMany_slotsWhere,
        releaseCounts_eq, hleaves, hgoing]
      rfl

end Sys2Proof.Machine.Charges
end

section
/-! SUPPORT. The events and commands that leave the Grant Engine as it is, each said once: port events, staging, the term
clock, the store and the walk of the Sweep Unit. -/

namespace Sys2Proof.Machine.Checkouts

open Charges

/-! ### Shared operations -/

@[simp] theorem respond_grant (s : State) (r : Request) (x : Reply) : (s.respond r x).grant = s.grant := by
  rcases s.respond_cases r x with ⟨-, e⟩ | ⟨-, e⟩ <;> rw [e]
  rfl

@[simp] theorem abandonStaging_grant (s : State) (p : Port) : (s.abandonStaging p).grant = s.grant := by
  unfold State.abandonStaging; split <;> rfl

@[simp] theorem noteStaging_grant (s : State) (p : Port) : (s.noteStaging p).grant = s.grant := by
  unfold State.noteStaging; split <;> rfl

@[simp] theorem askSave_grant (s : State) : s.askSave.grant = s.grant := by
  rcases s.askSave_cases with ⟨-, e⟩ | ⟨-, e⟩ <;> rw [e]
  rfl

@[simp] theorem askImageWrite_grant (s : State) : s.askImageWrite.grant = s.grant := by
  rcases s.askImageWrite_cases with ⟨-, e⟩ | ⟨-, e⟩ | ⟨-, e⟩ <;> rw [e]
  rfl

@[simp] theorem nextWrite_grant (s : State) : s.nextWrite.grant = s.grant := by
  rcases s.nextWrite_cases with ⟨-, e⟩ | ⟨-, -, e⟩ | ⟨-, -, e⟩ <;> rw [e] <;> rfl

@[simp] theorem changeClock_grant (s : State) (n : Nat) : (s.changeClock n).grant = s.grant := by
  rcases s.changeClock_cases n with ⟨-, e⟩ | ⟨-, u, hu, e, e'⟩
  · rw [e]
  · have hgrant : u.grant = s.grant := by rw [hu]
    by_cases hd : n / 60 = s.time.clock / 60
    · rw [e hd, hgrant]
    · rw [e' hd, askSave_grant, hgrant]

@[simp] theorem tick_grant (s : State) : s.tick.grant = s.grant := by
  have := congrArg State.grant s.tick_frame; exact this

@[simp] theorem trefEdge_grant (s : State) : s.trefEdge.grant = s.grant := by
  unfold State.trefEdge; split
  · rfl
  · exact tick_grant s

@[simp] theorem wclkRises_grant (s : State) : s.wclkRises.grant = s.grant := by
  unfold State.wclkRises
  split
  · rfl
  · split <;> rfl

@[simp] theorem startWalk_grant (s : State) : s.startWalk.grant = s.grant := by
  unfold State.startWalk; split <;> rfl

@[simp] theorem sweepTakes_grant (s : State) : s.sweepTakes.grant = s.grant := by
  unfold State.sweepTakes
  dsimp only
  split
  · rw [startWalk_grant]; rfl
  · rfl

@[simp] theorem passSlot_grant (s : State) (n : Nat) : (s.passSlot n).grant = s.grant := by
  unfold State.passSlot State.endWalk
  dsimp only
  split
  · split
    · rw [startWalk_grant]; rfl
    · rfl
  · rfl

@[simp] theorem endTransaction_grant (s : State) (p : Port) (bytes : List Byte) :
    (s.endTransaction p bytes).grant = s.grant := by
  unfold State.endTransaction State.writeTransaction State.takeFrame
  dsimp only
  repeat' split
  all_goals rfl

theorem unlessPrst_grant {s : State} {p : Port} {f : State → State} (h : (f s).grant = s.grant) :
    (s.unlessPrst p f).grant = s.grant := by
  unfold State.unlessPrst; split
  · rfl
  · exact h

@[simp] theorem batchBegins_grant (s : State) : s.batchBegins.grant = s.grant := by
  unfold State.batchBegins
  split
  · rfl
  · split <;> rfl

/-! ### The commands' works -/

theorem needsCatalogue_grant {b : Basis} {s : State} {work : State × Reply} (h : work.1.grant = s.grant) :
    (needsCatalogue b s work).1.grant = s.grant := by
  unfold needsCatalogue; split
  · exact h
  · rfl

theorem needsAdmin_grant {b : Basis} {s : State} {work : State × Reply} (h : work.1.grant = s.grant) :
    (needsAdmin b s work).1.grant = s.grant := by
  unfold needsAdmin; split
  · exact h
  · rfl

theorem needsTime_grant {b : Basis} {s : State} {work : State × Reply} (h : work.1.grant = s.grant) :
    (needsTime b s work).1.grant = s.grant := by
  unfold needsTime; split
  · exact h
  · rfl

theorem staging_grant {stagerOnly : Bool} {r : Request} {s : State} {own : State → State × Reply}
    (h : ∀ t, (own t).1.grant = t.grant) : (staging stagerOnly r s own).1.grant = s.grant := by
  refine needsAdmin_grant ?_
  dsimp only
  split
  · exact noteStaging_grant ..
  · split
    · exact noteStaging_grant ..
    · rw [h, noteStaging_grant]

theorem queryFeatureWork_grant (r : Request) (s : State) : (queryFeatureWork r s).1.grant = s.grant := by
  refine needsCatalogue_grant ?_
  split
  · rfl
  · split
    · rfl
    · split <;> rfl

theorem queryPoolWork_grant (r : Request) (s : State) : (queryPoolWork r s).1.grant = s.grant := by
  refine needsCatalogue_grant ?_
  split <;> rfl

theorem queryCheckoutWork_grant (r : Request) (s : State) : (queryCheckoutWork r s).1.grant = s.grant := by
  refine needsCatalogue_grant ?_
  split
  · rfl
  · split <;> rfl

theorem queryWaitWork_grant (r : Request) (s : State) : (queryWaitWork r s).1.grant = s.grant := by
  refine needsCatalogue_grant ?_
  split
  · rfl
  · split <;> rfl

theorem timeAssertWork_grant (r : Request) (s : State) : (timeAssertWork r s).1.grant = s.grant := by
  refine needsTime_grant ?_
  unfold State.assertTime
  dsimp only
  split
  · rfl
  · split
    · rfl
    · split
      · rfl
      · exact changeClock_grant ..

theorem windowCloseWork_grant (r : Request) (s : State) : (windowCloseWork r s).1.grant = s.grant := by
  refine needsAdmin_grant ?_
  split <;> rfl

theorem stageBeginWork_grant (r : Request) (s : State) : (stageBeginWork r s).1.grant = s.grant := by
  refine staging_grant fun t => ?_
  split
  · rfl
  · split <;> rfl

theorem stageRecordWork_grant (r : Request) (s : State) : (stageRecordWork r s).1.grant = s.grant := by
  refine staging_grant fun t => ?_
  unfold State.offerRecord
  split
  · split <;> rfl
  · rfl

theorem stageFinishWork_grant (r : Request) (s : State) : (stageFinishWork r s).1.grant = s.grant := by
  refine staging_grant fun t => ?_
  unfold State.verifyStaging
  split
  · rfl
  · split
    · rfl
    · split <;> rfl

theorem activateWork_grant (r : Request) (s : State) : (activateWork r s).1.grant = s.grant := by
  refine staging_grant fun t => ?_
  split
  · rfl
  · split
    · rfl
    · split
      · rfl
      · exact askImageWrite_grant _

theorem stageAbortWork_grant (r : Request) (s : State) : (stageAbortWork r s).1.grant = s.grant := by
  refine staging_grant fun t => ?_
  split <;> rfl

theorem policyStageWork_grant (r : Request) (s : State) : (policyStageWork r s).1.grant = s.grant := by
  refine needsCatalogue_grant (needsAdmin_grant ?_)
  split <;> rfl

theorem journalStatusWork_grant (r : Request) (s : State) : (journalStatusWork r s).1.grant = s.grant := by
  unfold journalStatusWork; split <;> rfl

theorem readNoticeWork_grant (r : Request) (s : State) : (readNoticeWork r s).1.grant = s.grant := by
  unfold readNoticeWork; split <;> rfl

theorem setNoticeWork_grant (r : Request) (s : State) : (setNoticeWork r s).1.grant = s.grant := by
  unfold setNoticeWork; split <;> rfl

theorem identifyWork_grant (r : Request) (s : State) : (identifyWork r s).1.grant = s.grant := by
  unfold identifyWork; split <;> rfl

end Sys2Proof.Machine.Checkouts
end

section
/-! SUPPORT. The generations in their ranges and the wait queue within its bounds (R41, R69 to R71; O55). -/

namespace Sys2Proof.Machine.Checkouts

open Charges

/-! ### The invariants as bounds on lists -/

/-- A list of `count` generations, each in 1..`last` (R41, R69). -/
structure Ranged (count last : Nat) (gens : List Nat) : Prop where
  length : gens.length = count
  range : ∀ g ∈ gens, 1 ≤ g ∧ g ≤ last

theorem Ranged.set {count last g : Nat} {gens : List Nat} (h : Ranged count last gens) (n : Nat)
    (hg : 1 ≤ g ∧ g ≤ last) : Ranged count last (gens.set n g) := by
  refine ⟨by rw [List.length_set, h.length], fun x hx => ?_⟩
  rcases List.mem_or_eq_of_mem_set hx with hm | rfl
  · exact h.range x hm
  · exact hg

/-- Wait slots and ports of waiting entries: each slot of the part and used once, at most 32, at most 8 of one port (R69,
R71). -/
structure Placed (ps : List (Nat × Port)) : Prop where
  nodup : (ps.map fun x => x.1).Nodup
  slots : ∀ x ∈ ps, x.1 < Config.waitSlots
  length : ps.length ≤ Config.waitSlots
  perPort : ∀ p : Port, (ps.filter fun x => x.2 == p).length ≤ Config.waitPerPort

theorem Placed.sublist {ps qs : List (Nat × Port)} (h : Placed qs) (hs : ps.Sublist qs) : Placed ps where
  nodup := h.nodup.sublist (hs.map _)
  slots := fun x hx => h.slots x (hs.mem hx)
  length := hs.length_le.trans h.length
  perPort := fun p => (hs.filter _).length_le.trans (h.perPort p)

/-- A place at the newest end, in a slot of its own, where the queue and the port have room (R54, R71). -/
theorem Placed.concat {ps : List (Nat × Port)} {n : Nat} {p : Port} (h : Placed ps) (hn : n < Config.waitSlots)
    (hnew : ∀ x ∈ ps, x.1 ≠ n) (hroom : ps.length < Config.waitSlots)
    (hport : (ps.filter fun x => x.2 == p).length < Config.waitPerPort) : Placed (ps ++ [(n, p)]) where
  nodup := by
    rw [List.map_append, List.nodup_append]
    refine ⟨h.nodup, List.nodup_singleton _, fun a ha b hb => ?_⟩
    obtain ⟨x, hx, rfl⟩ := List.mem_map.mp ha
    rw [List.map_singleton, List.mem_singleton] at hb
    exact hb ▸ hnew x hx
  slots := fun x hx => by
    rcases List.mem_append.mp hx with hx | hx
    · exact h.slots x hx
    · rw [List.mem_singleton.mp hx]; exact hn
  length := by rw [List.length_append]; exact hroom
  perPort := fun q => by
    have := h.perPort q
    by_cases hq : p = q
    · subst hq; simpa using hport
    · simpa [hq] using this

/-- The generations of the checkout table. -/
def generations (s : State) : List Nat := s.grant.table.map fun c => c.generation

/-- The wait slot and the port of each waiting entry, oldest first. -/
def places (s : State) : List (Nat × Port) := s.grant.queue.map fun e => (e.slot, e.port)

/-- The two invariants of O55 together. -/
structure InBounds (s : State) : Prop where
  table : Ranged Config.checkoutSlots Config.lastCheckoutGeneration (generations s)
  waitGens : Ranged Config.waitSlots Config.lastWaitGeneration s.grant.waitGens
  queue : Placed (places s)

theorem places_length (s : State) : (places s).length = s.grant.queue.length := List.length_map _

theorem places_perPort (s : State) (p : Port) :
    ((places s).filter fun x => x.2 == p).length = (s.grant.queue.filter fun e => e.port == p).length := by
  rw [places, List.filter_map, List.length_map]; rfl

theorem inBounds_iff (s : State) : InBounds s ↔ s.SlotsNumbered ∧ s.QueueBounded := by
  have hslots : (places s).map (fun x => x.1) = s.grant.queue.map (·.slot) := by rw [places, List.map_map]; rfl
  constructor
  · rintro ⟨⟨hlen, hgen⟩, ⟨hlen', hgen'⟩, ⟨hnodup, hslot, hall, hport⟩⟩
    refine ⟨⟨by simpa [generations] using hlen, fun c hc => hgen _ (List.mem_map_of_mem hc), hlen', hgen'⟩,
      hslots ▸ hnodup, fun e he => hslot _ (List.mem_map_of_mem he), hlen', places_length s ▸ hall, fun p => ?_⟩
    rw [← places_perPort]; exact hport p
  · rintro ⟨⟨hlen, hgen, hlen', hgen'⟩, hnodup, hslot, -, hall, hport⟩
    refine ⟨⟨by simpa [generations] using hlen, fun g hg => ?_⟩, ⟨hlen', hgen'⟩, hslots ▸ hnodup, fun x hx => ?_,
      (places_length s).symm ▸ hall, fun p => ?_⟩
    · obtain ⟨c, hc, rfl⟩ := List.mem_map.mp hg; exact hgen c hc
    · obtain ⟨e, he, rfl⟩ := List.mem_map.mp hx; exact hslot e he
    · rw [places_perPort]; exact hport p

/-- What the bounds look at: a state that agrees on it is within them too. -/
theorem InBounds.congr {s t : State} (h : InBounds s) (hg : generations t = generations s)
    (hw : t.grant.waitGens = s.grant.waitGens) (hq : places t = places s) : InBounds t :=
  ⟨hg ▸ h.table, hw ▸ h.waitGens, hq ▸ h.queue⟩

theorem InBounds.of_grant {s t : State} (h : InBounds s) (e : t.grant = s.grant) : InBounds t :=
  h.congr (by rw [generations, e, generations]) (by rw [e]) (by rw [places, e, places])

/-! ### The table (R41, R45) -/

theorem nextGeneration_range (g : Nat) :
    1 ≤ nextGeneration g ∧ nextGeneration g ≤ Config.lastCheckoutGeneration := by
  unfold nextGeneration; split <;> simp only [Config.lastCheckoutGeneration] at * <;> omega

theorem generations_setSlot (s : State) (n : Nat) (c : CheckoutSlot) :
    generations (s.setSlot n c) = (generations s).set n c.generation := List.map_set

/-- A slot written under the generation it has leaves the generations as they are. -/
theorem generations_setSlot_same (s : State) (n : Nat) (x : Option Checkout) :
    generations (s.setSlot n { generation := s.generationAt n, entry := x }) = generations s := by
  rw [generations_setSlot, generations]
  by_cases hn : n < s.grant.table.length
  · have : s.generationAt n = (s.grant.table.map fun c => c.generation)[n]'(by simpa using hn) := by
      simp [State.generationAt, hn]
    rw [this, List.set_getElem_self]
  · exact List.set_eq_of_length_le (by simpa using hn)

theorem touch_inBounds {s : State} (n : Nat) (x : Option Checkout) (h : InBounds s) :
    InBounds (s.setSlot n { generation := s.generationAt n, entry := x }) :=
  h.congr (generations_setSlot_same s n x) rfl rfl

theorem grantInto_inBounds {s : State} (n : Nat) (g : GrantOrder) (h : InBounds s) : InBounds (s.grantInto n g) :=
  have hc : InBounds (s.applyCharges g.owner g.charges) := h.congr rfl rfl rfl
  (touch_inBounds n (some (s.grantEntry g)) hc).of_grant (State.grantInto_grant s n g)

theorem release_inBounds {s : State} (n : Nat) (e : Checkout) (k : RecordKind) (h : InBounds s) :
    InBounds (s.release n e k) := by
  refine InBounds.of_grant (s := (s.creditCharges e.owner e.charges).setSlot n
    { generation := nextGeneration (s.generationAt n), entry := none }) ⟨?_, h.waitGens, h.queue⟩
    (State.release_grant s n e k)
  rw [generations_setSlot]
  exact h.table.set n (nextGeneration_range _)

theorem releaseSlot_inBounds {s : State} (k : RecordKind) (n : Nat) (h : InBounds s) :
    InBounds (s.releaseSlot k n) := by
  unfold State.releaseSlot
  split
  · exact release_inBounds _ _ _ h
  · exact h

/-! ### The queue (R70, R71) -/

theorem nextWaitGeneration_range (g : Nat) :
    1 ≤ nextWaitGeneration g ∧ nextWaitGeneration g ≤ Config.lastWaitGeneration := by
  unfold nextWaitGeneration; split <;> simp only [Config.lastWaitGeneration] at * <;> omega

theorem leaveQueue_inBounds {s : State} (e : WaitEntry) (h : InBounds s) : InBounds (s.leaveQueue e) :=
  ⟨h.table, h.waitGens.set _ (nextWaitGeneration_range _), h.queue.sublist (List.filter_sublist.map _)⟩

theorem endWait_inBounds {s : State} (c : Option WaitCause) (e : WaitEntry) (h : InBounds s) :
    InBounds (s.endWait c e) :=
  (leaveQueue_inBounds e h).of_grant (State.endWait_grant s c e)

theorem endWaits_inBounds {s : State} (c : Option WaitCause) (es : List WaitEntry) (h : InBounds s) :
    InBounds (s.endWaits c es) :=
  State.endWaits_induct c (fun _ e hs => endWait_inBounds c e hs) es s h

/-- Entries changed in their places, each keeping its slot and its port, stay within the bounds. -/
theorem relabel_inBounds {s : State} (f : WaitEntry → WaitEntry) (hf : ∀ e, (f e).slot = e.slot ∧ (f e).port = e.port)
    (h : InBounds s) : InBounds (s.withQueue (s.grant.queue.map f)) := by
  refine h.congr rfl rfl ?_
  simp only [places, State.withQueue_grant, List.map_map, Function.comp_def, hf]

theorem updateEntry_inBounds {s : State} (n : Nat) (f : WaitEntry → WaitEntry) (hf : KeepsEntry f) (h : InBounds s) :
    InBounds (s.updateEntry n f) := by
  refine relabel_inBounds _ (fun e => ?_) h
  split
  · rw [hf e]; exact ⟨rfl, rfl⟩
  · exact ⟨rfl, rfl⟩

theorem grantWaiting_inBounds {s : State} (n : Nat) (e : WaitEntry) (h : InBounds s) : InBounds (s.grantWaiting n e) :=
  (leaveQueue_inBounds e (grantInto_inBounds n (s.orderOf e) h)).of_grant (State.grantWaiting_grant s n e)

theorem queuePass_inBounds {s : State} (h : InBounds s) : InBounds s.queuePass :=
  State.queuePass_induct (fun _ e _ hs => endWait_inBounds _ e hs) (fun _ n f hf hs => updateEntry_inBounds n f hf hs)
    (fun _ n e _ _ _ _ hs => grantWaiting_inBounds n e hs) s h

theorem applyPass_inBounds {s : State} (h : InBounds s) : InBounds s.applyPass :=
  State.applyPass_induct (fun _ e hs => endWait_inBounds _ e hs) (fun _ n f hf hs => updateEntry_inBounds n f hf hs)
    (fun _ n e _ _ _ _ hs => grantWaiting_inBounds n e hs) s h

theorem releaseMany_inBounds {s : State} (slots : List Nat) (es : List WaitEntry) (h : InBounds s) :
    InBounds (s.releaseMany slots es) := by
  have hslots : InBounds (slots.foldl (State.releaseSlot · .returned) s) :=
    List.foldlRecOn slots _ h fun t ht n _ => releaseSlot_inBounds .returned n ht
  have hends := endWaits_inBounds none es hslots
  unfold State.releaseMany
  dsimp only
  split
  · exact hends
  · exact queuePass_inBounds hends

/-! ### A place for a new entry (R54, R71) -/

theorem queueHasRoom_iff (s : State) (p : Port) :
    s.queueHasRoom p = true ↔
      s.grant.queue.length < 32 ∧ (s.grant.queue.filter fun e => e.port == p).length < 8 := by
  simp only [State.queueHasRoom, Bool.and_eq_true, decide_eq_true_eq]
  rfl

/-- With fewer than 32 entries some wait slot is FREE, and the lowest is the one taken (R71). -/
theorem freeWaitSlot_of_room {s : State} (hlen : s.grant.waitGens.length = Config.waitSlots)
    (hroom : s.grant.queue.length < Config.waitSlots) :
    ∃ n, s.freeWaitSlot = some n ∧ n < Config.waitSlots ∧ s.waiting n = none ∧
      ∀ m, m < n → (s.waiting m).isSome = true := by
  unfold State.freeWaitSlot
  rw [hlen]
  cases hf : (List.range Config.waitSlots).find? fun i => (s.waiting i).isNone with
  | none =>
    have hall : List.range Config.waitSlots ⊆ s.grant.queue.map (·.slot) := fun i hi => by
      have hi' := List.find?_eq_none.mp hf i hi
      obtain ⟨e, he⟩ := Option.isSome_iff_exists.mp (by simpa [← Option.isSome_iff_ne_none] using hi')
      obtain ⟨hm, rfl⟩ := mem_of_waiting he
      exact List.mem_map_of_mem hm
    have := (List.nodup_range.subperm hall).length_le
    rw [List.length_range, List.length_map] at this
    omega
  | some n =>
    obtain ⟨hfree, hn, hlow⟩ := List.find?_range_eq_some.mp hf
    exact ⟨n, rfl, List.mem_range.mp hn, by simpa using hfree,
      fun m hm => by simpa [← Option.isSome_iff_ne_none] using hlow m hm⟩

theorem enqueue_inBounds {s : State} (g : GrantOrder) (timeout : Nat) (q : QueueReason)
    (hroom : s.queueHasRoom g.owner = true) (h : InBounds s) : InBounds (s.enqueue g timeout q).1 := by
  obtain ⟨hlen, hport⟩ := (queueHasRoom_iff s g.owner).mp hroom
  obtain ⟨n, hfree, hn, hwait, -⟩ := freeWaitSlot_of_room h.waitGens.length hlen
  have hplaces : places (s.enqueue g timeout q).1 = places s ++ [(n, g.owner)] := by
    simp [places, State.enqueue, hfree, waitEntryOf]
  refine ⟨h.table, h.waitGens, hplaces ▸ h.queue.concat hn (fun x hx hxn => ?_) ?_ ?_⟩
  · obtain ⟨e, he, rfl⟩ := List.mem_map.mp hx
    exact List.find?_eq_none.mp hwait e he (by simpa using hxn)
  · rw [places_length]; exact hlen
  · rw [places_perPort]; exact hport

end Sys2Proof.Machine.Checkouts
end

section
/-! SUPPORT. Every command, event and step keeps the generations and the wait queue within their bounds (O55). -/

namespace Sys2Proof.Machine.Checkouts

open Charges

/-! ### The commands' works -/

theorem refuse_inBounds {s : State} (c : Catalogue) (kept : Bool) (g : GrantOrder) (timeout : Nat) (q : QueueReason)
    (h : InBounds s) : InBounds (s.refuse c kept g timeout q).1 := by
  have hs : InBounds (s.handShortfalls c g) := h.of_grant rfl
  unfold State.refuse
  dsimp only
  split
  · split
    · rename_i hroom
      split
      · exact enqueue_inBounds g timeout q hroom hs
      · exact hs.of_grant rfl
    · exact hs.of_grant rfl
  · exact hs.of_grant rfl

theorem judgeOrder_inBounds {s : State} (c : Catalogue) (kept : Bool) (g : GrantOrder) (timeout : Nat)
    (h : InBounds s) : InBounds (s.judgeOrder c kept g timeout).1 := by
  unfold State.judgeOrder
  split
  · exact refuse_inBounds _ _ _ _ _ h
  · exact grantInto_inBounds _ _ h

theorem checkoutWork_inBounds {s : State} (r : Request) (h : InBounds s) : InBounds (checkoutWork r s).1 := by
  refine needsCatalogue_keeps h ?_
  split
  · exact h
  · split
    · exact h
    · split
      · exact h.of_grant rfl
      · exact judgeOrder_inBounds _ _ _ _ h

theorem returnWork_inBounds {s : State} (r : Request) (h : InBounds s) : InBounds (returnWork r s).1 := by
  refine needsCatalogue_keeps h ?_
  split
  · exact h
  · split
    · exact h
    · split
      · exact queuePass_inBounds (release_inBounds _ _ _ h)
      · split
        · exact queuePass_inBounds ((release_inBounds _ _ _ h).of_grant rfl)
        · exact h

theorem returnTagWork_inBounds {s : State} (r : Request) (h : InBounds s) : InBounds (returnTagWork r s).1 := by
  refine needsCatalogue_keeps h ?_
  split
  · exact h
  · exact releaseMany_inBounds _ _ h

theorem releasePortWork_inBounds {s : State} (r : Request) (h : InBounds s) : InBounds (releasePortWork r s).1 := by
  refine needsCatalogue_keeps h ?_
  split
  · exact h
  · exact (releaseMany_inBounds _ _ h).of_grant (abandonStaging_grant _ _)

theorem beat_inBounds {s : State} (b : Basis) (kept : Bool) (p : Port) (n : Nat) (h : InBounds s) :
    InBounds (s.beat b kept p n).1 := by
  unfold State.beat
  split
  · exact h
  · split
    · exact h
    · split
      · exact h
      · exact touch_inBounds _ _ h

theorem beatAll_inBounds (b : Basis) (kept : Bool) (p : Port) (ns : List Nat) :
    ∀ s, InBounds s → InBounds (s.beatAll b kept p ns).1 := by
  induction ns with
  | nil => exact fun s h => h
  | cons n ns ih => exact fun s h => ih _ (beat_inBounds b kept p n h)

theorem heartbeatWork_inBounds {s : State} (r : Request) (h : InBounds s) : InBounds (heartbeatWork r s).1 := by
  refine needsCatalogue_keeps h ?_
  split
  · exact h
  · exact beatAll_inBounds _ _ _ _ _ h

theorem cancel_inBounds {s : State} (c : Option WaitCause) (e : WaitEntry) (h : InBounds s) :
    InBounds (s.cancel c e).1 := by
  have he := endWait_inBounds c e h
  unfold State.cancel
  dsimp only
  split
  · exact queuePass_inBounds he
  · exact he

theorem cancelWaitWork_inBounds {s : State} (r : Request) (h : InBounds s) : InBounds (cancelWaitWork r s).1 := by
  refine needsCatalogue_keeps h ?_
  split
  · exact h
  · split
    · exact h
    · split
      · exact cancel_inBounds _ _ h
      · split
        · exact cancel_inBounds _ _ h
        · exact h

theorem policyApplyWork_inBounds {s : State} (r : Request) (h : InBounds s) : InBounds (policyApplyWork r s).1 := by
  refine policyCommand_keeps h ?_
  split
  · exact h
  · exact applyPass_inBounds (h.of_grant rfl)

theorem setCeilingWork_inBounds {s : State} (r : Request) (h : InBounds s) : InBounds (setCeilingWork r s).1 := by
  refine policyCommand_keeps h ?_
  split
  · exact h
  · have hpools (k : Pool) (q : PoolState) : InBounds (s.withPool k q) := h.congr rfl rfl rfl
    dsimp only [State.setCeiling]
    split
    · exact hpools _ _
    · split
      · exact queuePass_inBounds (hpools _ _)
      · exact hpools _ _

theorem setShareWork_inBounds {s : State} (r : Request) (h : InBounds s) : InBounds (setShareWork r s).1 := by
  refine policyCommand_keeps h ?_
  split
  · exact h
  · exact queuePass_inBounds (h.congr rfl rfl rfl)

/-- Every command's work keeps the bounds: nine act on the Grant Engine, the others leave it as it is. -/
theorem workOf_inBounds (c : Command) {s : State} (r : Request) (h : InBounds s) : InBounds (workOf c r s).1 := by
  cases c with
  | checkout => exact checkoutWork_inBounds r h
  | returnCheckout => exact returnWork_inBounds r h
  | returnTag => exact returnTagWork_inBounds r h
  | releasePort => exact releasePortWork_inBounds r h
  | heartbeat => exact heartbeatWork_inBounds r h
  | cancelWait => exact cancelWaitWork_inBounds r h
  | policyApply => exact policyApplyWork_inBounds r h
  | setCeiling => exact setCeilingWork_inBounds r h
  | setShare => exact setShareWork_inBounds r h
  | queryCheckout => exact h.of_grant (queryCheckoutWork_grant r s)
  | queryWait => exact h.of_grant (queryWaitWork_grant r s)
  | queryFeature => exact h.of_grant (queryFeatureWork_grant r s)
  | queryPool => exact h.of_grant (queryPoolWork_grant r s)
  | timeAssert => exact h.of_grant (timeAssertWork_grant r s)
  | windowClose => exact h.of_grant (windowCloseWork_grant r s)
  | stageBegin => exact h.of_grant (stageBeginWork_grant r s)
  | stageRecord => exact h.of_grant (stageRecordWork_grant r s)
  | stageFinish => exact h.of_grant (stageFinishWork_grant r s)
  | activate => exact h.of_grant (activateWork_grant r s)
  | stageAbort => exact h.of_grant (stageAbortWork_grant r s)
  | policyStage => exact h.of_grant (policyStageWork_grant r s)
  | journalStatus => exact h.of_grant (journalStatusWork_grant r s)
  | readNotice => exact h.of_grant (readNoticeWork_grant r s)
  | setNotice => exact h.of_grant (setNoticeWork_grant r s)
  | identify => exact h.of_grant (identifyWork_grant r s)

theorem carryOut_inBounds (c : Command) {s : State} (p : Port) (r : Request) (h : InBounds s) :
    InBounds (s.carryOut c p r (workOf c)) :=
  have hwork : InBounds (workOf c r (s.dropRequest c p)).1 := workOf_inBounds c r (h.of_grant rfl)
  hwork.of_grant (respond_grant _ _ _)

theorem finish_inBounds {s : State} (due : Request → Bool) (h : InBounds s) : InBounds (s.finish due) :=
  State.finish_induct due (fun _ r _ hu => carryOut_inBounds _ _ r hu) s h

/-! ### Events -/

theorem resetPort_inBounds {s : State} (p : Port) (h : InBounds s) : InBounds (s.resetPort p) := by
  have hf : InBounds ((s.clearPort p).finishStaging p) := finish_inBounds _ (h.of_grant rfl)
  refine InBounds.of_grant ?_ (abandonStaging_grant _ _)
  unfold State.dropEntries
  dsimp only
  split
  · exact queuePass_inBounds (endWaits_inBounds _ _ hf)
  · exact endWaits_inBounds _ _ hf

theorem visitSlot_inBounds {s : State} (n : Nat) (h : InBounds s) : InBounds (s.visitSlot n) := by
  unfold State.visitSlot
  split
  · exact h
  · split
    · exact queuePass_inBounds ((release_inBounds _ _ _ h).of_grant rfl)
    · exact touch_inBounds _ _ h

/-- A visit and the walk's going on after it (R111, R112). -/
theorem visit_inBounds {s : State} (n : Nat) (h : InBounds s) : InBounds ((s.visitSlot n).passSlot n) :=
  (visitSlot_inBounds n h).of_grant (passSlot_grant _ _)

theorem grantTakes_inBounds {s : State} (h : InBounds s) : InBounds s.grantTakes := by
  have hdown : InBounds (s.withDue { s.due with grant := s.due.grant - 1 }).countDown :=
    relabel_inBounds (s := s.withDue _) (fun e => { e with remaining := e.remaining - 1 }) (fun _ => ⟨rfl, rfl⟩)
      (h.of_grant rfl)
  exact queuePass_inBounds ((endWaits_inBounds _ _ hdown).congr rfl rfl rfl)

theorem watchTakes_inBounds {s : State} (k : Pool) (h : InBounds s) : InBounds (s.watchTakes k) := by
  unfold State.watchTakes State.watchWork State.enterShort State.enterClear
  dsimp only
  split
  · exact h.of_grant rfl
  · split
    · split
      · exact queuePass_inBounds (h.of_grant rfl)
      · exact h.of_grant rfl
    · split <;> exact h.of_grant rfl
    all_goals exact h.of_grant rfl

theorem takeDue_inBounds {s : State} (h : InBounds s) : InBounds s.takeDue :=
  State.takeDue_induct (fun u hu => hu.of_grant (sweepTakes_grant u)) (fun _ k hu => watchTakes_inBounds k hu)
    (fun _ hu => grantTakes_inBounds hu) (fun _ _ hu => hu.of_grant rfl) s h

/-! ### Reset and activation (R46, R67, R84, R85) -/

/-- A part just brought up is within the bounds: every generation is 1 and the queue is empty (R46, R85). -/
theorem bringUp_inBounds (s : State) (store : Store) (v : SavedValues) (straps : Quad Straps) :
    InBounds (s.bringUp store v straps) where
  table := ⟨(List.length_map _).trans List.length_replicate, fun g hg => by
    obtain ⟨c, hc, rfl⟩ := List.mem_map.mp hg
    rw [List.eq_of_mem_replicate hc]; decide⟩
  waitGens := ⟨List.length_replicate, fun g hg => by rw [List.eq_of_mem_replicate hg]; decide⟩
  queue := ⟨List.nodup_nil, fun _ hx => (nomatch hx), Nat.zero_le _, fun _ => Nat.zero_le _⟩

/-- Reconciliation leaves each slot its generation (R67). -/
theorem activateBlocks_inBounds {s : State} (ahead : Quad Nat) (h : InBounds s) : InBounds (s.activateBlocks ahead) := by
  have hleave : InBounds (s.grant.queue.foldl State.leaveQueue s) :=
    List.foldlRecOn _ _ h fun t ht e _ => leaveQueue_inBounds e ht
  refine hleave.congr ?_ rfl rfl
  simp only [generations, State.activateBlocks, State.newGrant, List.map_map]
  rfl

theorem releaseIfWaiting_inBounds {s : State} (h : InBounds s) : InBounds s.releaseIfWaiting := by
  unfold State.releaseIfWaiting
  split
  · exact bringUp_inBounds ..
  all_goals exact h

theorem completeActivation_inBounds {s : State} (ahead : Quad Nat) (h : InBounds s) :
    InBounds (s.completeActivation ahead) :=
  (activateBlocks_inBounds ahead (takeDue_inBounds (finish_inBounds _ h))).of_grant (activateAll_frame _ ahead).2

/-! ### Every command and every step -/

/-- What an event leaves of a running part, or of one that does not run. -/
theorem whenRunning_inBounds {s t : State} {f : State → State} (he : whenRunning s f = .next t) (h : InBounds s)
    (hf : InBounds (f s)) : InBounds t := by
  rcases whenRunning_cases s f with ⟨-, e⟩ | ⟨-, e⟩ <;> rw [e] at he <;> cases he <;> assumption

theorem serve_inBounds {c : Command} {p : Port} {s t : State} (he : serve c p s (workOf c) = .next t)
    (h : InBounds s) : InBounds t := by
  rcases serve_cases c p s (workOf c) with e | ⟨r, -, -, e⟩ <;> rw [e] at he <;> cases he
  · exact h
  · exact carryOut_inBounds c p r h

/-- An event that leaves the Grant Engine as it is, in a running part. -/
theorem quiet_inBounds {s t : State} {f : State → State} (he : whenRunning s f = .next t) (h : InBounds s)
    (hf : (f s).grant = s.grant) : InBounds t := whenRunning_inBounds he h (h.of_grant hf)

theorem execPowerLoss_inBounds {s t : State} (he : execPowerLoss s = .next t) (h : InBounds s) : InBounds t := by
  cases he
  split
  · exact (bringUp_inBounds s { s.store.afterLoss with image := none } SavedValues.zero
      (s.ports.map (·.strapPins))).of_grant rfl
  · exact h

theorem execResetRelease_inBounds {s t : State} {straps : Quad Straps} (he : execResetRelease straps s = .next t)
    (h : InBounds s) : InBounds t := by
  cases he
  dsimp only
  split
  · split
    · exact h.of_grant rfl
    · exact bringUp_inBounds ..
  · exact h

theorem execPrstAssert_inBounds {s t : State} {p : Port} (he : execPrstAssert p s = .next t) (h : InBounds s) :
    InBounds t := by
  cases he
  split
  · exact resetPort_inBounds p h
  · exact h.of_grant rfl

theorem execSaveComplete_inBounds {s t : State} (he : execSaveComplete s = .next t) (h : InBounds s) : InBounds t := by
  cases he
  split
  · exact releaseIfWaiting_inBounds (h.of_grant (nextWrite_grant _))
  · exact h

theorem execImageWriteComplete_inBounds {s t : State} {ahead : Quad Nat}
    (he : execImageWriteComplete ahead s = .next t) (h : InBounds s) : InBounds t := by
  cases he
  split
  · split
    · exact completeActivation_inBounds ahead h
    · exact releaseIfWaiting_inBounds (h.of_grant rfl)
  · exact h

/-- Every command keeps the bounds. -/
theorem exec_inBounds {s t : State} (i : Instr) (he : exec i s = .next t) (h : InBounds s) : InBounds t := by
  cases i
  case powerOn straps => cases he; exact bringUp_inBounds ..
  case powerLoss => exact execPowerLoss_inBounds he h
  case resetAssert => cases he; exact ite_keeps (h.of_grant rfl) h
  case resetRelease straps => exact execResetRelease_inBounds he h
  case prstAssert p => exact execPrstAssert_inBounds he h
  case prstRelease p => cases he; exact h.of_grant rfl
  case requestFrame p bytes =>
    dsimp only [exec, execRequestFrame] at he
    exact quiet_inBounds he h (unlessPrst_grant (endTransaction_grant ..))
  case readTransaction p n answered =>
    dsimp only [exec, execReadTransaction] at he
    exact quiet_inBounds he h (unlessPrst_grant rfl)
  case secondTick => exact quiet_inBounds he h (tick_grant s)
  case minuteAdvance | windowTimerExpiry | stagingTimeout =>
    exact whenRunning_inBounds he h (ite_keeps (h.of_grant (tick_grant s)) h)
  case wclkRisingEdge => exact quiet_inBounds he h (wclkRises_grant s)
  case sweepWindowEnd => exact whenRunning_inBounds he h (ite_keeps (h.of_grant (sweepTakes_grant s)) h)
  case sweepVisit n | reclaim n => exact whenRunning_inBounds he h (ite_keeps (visit_inBounds n h) h)
  case grantEngineWindowEnd | waitExpiry n => exact whenRunning_inBounds he h (ite_keeps (grantTakes_inBounds h) h)
  case demandWatchWindowEnd k => exact whenRunning_inBounds he h (ite_keeps (watchTakes_inBounds k h) h)
  case portWindowEnd p first => exact whenRunning_inBounds he h (ite_keeps (h.of_grant rfl) h)
  case saveComplete => exact execSaveComplete_inBounds he h
  case imageWriteComplete ahead => exact execImageWriteComplete_inBounds he h
  case batchBegin jend =>
    exact quiet_inBounds (s := s.withJend jend) he (h.of_grant rfl) (batchBegins_grant _)
  case recordAcknowledge jend =>
    dsimp only [exec, execRecordAcknowledge] at he
    exact quiet_inBounds (s := s.withJend jend) he (h.of_grant rfl) rfl
  case attnPulseEnd p =>
    dsimp only [exec, execAttnPulseEnd] at he
    exact quiet_inBounds he h rfl
  case wclkLowSeen =>
    dsimp only [exec, execWclkLowSeen] at he
    exact quiet_inBounds he h rfl
  case jclkRisingEdge =>
    dsimp only [exec, execJclkRisingEdge] at he
    exact quiet_inBounds he h rfl
  case checkout p | returnCheckout p | returnTag p | releasePort p | queryCheckout p | heartbeat p | cancelWait p |
      queryWait p | queryFeature p | queryPool p | timeAssert p | windowClose p | stageBegin p | stageRecord p |
      stageFinish p | activate p | stageAbort p | policyStage p | policyApply p | setCeiling p | setShare p |
      journalStatus p | readNotice p | setNotice p | identify p =>
    exact serve_inBounds he h

/-- Settles O55: a step is a command or a TREF edge, and each keeps the bounds. -/
theorem slotsAndQueueStayBounded : Obligations.SlotsAndQueueStayBounded := by
  intro s t hslots hqueue hstep
  have h : InBounds s := (inBounds_iff s).mpr ⟨hslots, hqueue⟩
  refine (inBounds_iff t).mp ?_
  cases hp : s.pending with
  | nil =>
    unfold step at hstep
    rw [hp] at hstep
    cases hstep
    exact ite_keeps (h.of_grant (trefEdge_grant s)) h
  | cons c rest =>
    rw [step_front s c rest hp] at hstep
    exact exec_inBounds c hstep (h.of_grant rfl)

end Sys2Proof.Machine.Checkouts
end

section
/-! SUPPORT. The release of one checkout: what its handle finds afterwards (R43, R45; O27), and RETURN (R58 to R60; O25). -/

namespace Sys2Proof.Machine.Checkouts

open Charges

/-! ### Handles before and after a release (R43, R45) -/

/-- The generation moves on within 1..127, and from 127 to 1 (R45). -/
theorem nextGeneration_eq {g : Nat} (h : g ≤ 127) : nextGeneration g = if g < 127 then g + 1 else 1 := by
  unfold nextGeneration Config.lastCheckoutGeneration
  split <;> split <;> omega

/-- A handle finds what its slot holds under its generation: two states that agree there find the same. -/
theorem findHandle_congr {s u : State} {h : Nat} (hc : u.checkoutAt (h % 256) = s.checkoutAt (h % 256))
    (hg : u.generationAt (h % 256) = s.generationAt (h % 256)) : u.findHandle h = s.findHandle h := by
  unfold State.findHandle; rw [hc, hg]

/-- The handle of a HELD slot finds its checkout (R43). -/
theorem findHandle_of_checkoutAt {s : State} {n : Nat} {e : Checkout} (hn : n < 256) (he : s.checkoutAt n = some e) :
    s.findHandle (s.generationAt n * 256 + n) = some (n, e) :=
  (findHandle_iff ..).mpr ⟨by omega, he, by omega⟩

/-- The handle of another generation of the slot finds nothing (R43). -/
theorem findHandle_of_generation_ne {s : State} {g n : Nat} (hn : n < 256) (hg : s.generationAt n ≠ g) :
    s.findHandle (g * 256 + n) = none := by
  cases hf : s.findHandle (g * 256 + n) with
  | none => rfl
  | some x =>
    obtain ⟨hx, -, hgen⟩ := (findHandle_iff _ _ x.1 x.2).mp hf
    have hxn : x.1 = n := by omega
    rw [hxn] at hgen
    omega

/-- A HELD slot of a table of 256 is a slot below 256, with its generation in 1..127 (R41). -/
theorem slot_of_checkoutAt {s : State} {n : Nat} {e : Checkout} (hs : s.SlotsNumbered) (he : s.checkoutAt n = some e) :
    n < s.grant.table.length ∧ n < 256 ∧ 1 ≤ s.generationAt n ∧ s.generationAt n ≤ 127 := by
  obtain ⟨c, hc, -⟩ := checkoutAt_iff.mp he
  obtain ⟨hn, -⟩ := List.getElem?_eq_some_iff.mp hc
  have hgen : s.generationAt n = c.generation := by rw [State.generationAt, hc]; rfl
  exact ⟨hn, hn.trans_eq hs.1, hgen ▸ hs.2.1 c (List.mem_of_getElem? hc)⟩

/-- A grant into a slot of the table makes its checkout there and keeps the slot's generation (R44, R52). -/
theorem grantInto_slot {s : State} {n : Nat} (g : GrantOrder) (hn : n < s.grant.table.length) :
    (s.grantInto n g).checkoutAt n = some (s.grantEntry g) ∧ (s.grantInto n g).generationAt n = s.generationAt n := by
  have htable : (s.grantInto n g).grant.table =
      s.grant.table.set n { generation := s.generationAt n, entry := some (s.grantEntry g) } := by
    rw [State.grantInto_grant]; rfl
  obtain ⟨hentry, hgen, -⟩ := checkoutAt_eq_of_table htable hn
  exact ⟨hentry, hgen⟩

theorem release_table_length (s : State) (n : Nat) (e : Checkout) (kind : RecordKind) :
    (s.release n e kind).grant.table.length = s.grant.table.length := by
  obtain ⟨c, -, htable⟩ := release_table s n e kind
  rw [htable, List.length_set]

/-- Settles O27. -/
theorem releasedHandleIsStale : Obligations.ReleasedHandleIsStale := by
  refine ⟨findHandle_iff, fun s n e kind hs he => ?_⟩
  obtain ⟨hn, hn256, hlow, hhigh⟩ := slot_of_checkoutAt hs he
  have hslots := release_slots he kind
  have hgen : (s.release n e kind).generationAt n = if s.generationAt n < 127 then s.generationAt n + 1 else 1 := by
    rw [(hslots n).2, if_pos rfl, nextGeneration_eq hhigh]
  have hmoved : (s.release n e kind).generationAt n ≠ s.generationAt n := by rw [hgen]; split <;> omega
  refine ⟨findHandle_of_checkoutAt hn256 he, findHandle_of_generation_ne hn256 hmoved, fun g => ?_, hmoved, ?_, ?_,
    fun h => by rw [hgen, if_pos h], fun h => by rw [hgen, if_neg (by omega)], fun h hne => ?_⟩
  · obtain ⟨hentry, hkeep⟩ := grantInto_slot g ((release_table_length s n e kind).symm ▸ hn)
    refine ⟨findHandle_of_generation_ne hn256 (hkeep ▸ hmoved), (s.release n e kind).grantEntry g, rfl, ?_⟩
    rw [← hkeep]
    exact findHandle_of_checkoutAt hn256 hentry
  · rw [hgen]; split <;> omega
  · rw [hgen]; split <;> omega
  · have := hslots (h % 256)
    rw [if_neg hne, if_neg hne] at this
    exact findHandle_congr this.1 this.2

/-! ### RETURN (R58 to R60) -/

/-- The record of a release, of whatever cause (R58, R174). -/
theorem releaseBody_eq_releaseRecord (s : State) (n : Nat) (e : Checkout) (kind : RecordKind) :
    s.releaseBody n e kind = s.releaseRecord n e kind := by
  unfold State.releaseBody State.releaseRecord
  cases e.bundle <;> rfl

/-- A release of the checkout a slot holds has all the effects of R58 and no other. -/
theorem release_releases {s : State} {n : Nat} {e : Checkout} (he : s.checkoutAt n = some e) (kind : RecordKind) :
    s.Releases (s.release n e kind) n e kind := by
  obtain ⟨hqueue, hwait, hframe⟩ := release_frame s n e kind
  obtain ⟨hentry, hgen⟩ := release_slots he kind n
  rw [if_pos rfl] at hentry hgen
  refine ⟨hentry, hgen, fun m hm => ?_, release_pool s n e kind, hqueue, hwait, ?_, hframe⟩
  · obtain ⟨c, -, htable⟩ := release_table s n e kind
    rw [htable, List.getElem?_set_ne (Ne.symm hm)]
  · rw [State.release_journal, releaseBody_eq_releaseRecord]

theorem returnWork_serving {r : Request} {s : State} (h : (s.basis r).serving = true) :
    returnWork r s = match parseHandle r.payload with
      | none => (s, .bare .badRequest)
      | some n => match s.findHandle n with
        | none => (s, .bare .notFound)
        | some (slot, e) =>
          if e.owner = r.port then s.ownReturn n slot e
          else if (s.basis r).privileges.admin then s.forcedReturn r.port n slot e
          else (s, .bare .notPermitted) :=
  needsCatalogue_serving h

/-- Settles O25. -/
theorem returnReleasesCheckout : Obligations.ReturnReleasesCheckout := by
  refine ⟨parseHandle_iff, fun s r hr hc hserving => ?_⟩
  generalize hd : s.dropRequest .returnCheckout r.port = d
  have hfind (h : Nat) : d.findHandle h = s.findHandle h := by rw [← hd]; rfl
  have hbasis : d.basis r = s.basis r := by rw [← hd]; rfl
  have hwork := returnWork_serving (r := r) (s := d) (hbasis.symm ▸ hserving)
  rw [hbasis] at hwork
  refine ⟨fun hp => serve_answers hr hc ?_, fun h hp hf => serve_answers hr hc ?_,
    fun h n e hp hf ho ha => serve_answers hr hc ?_,
    fun h n e hp hf ho => ⟨_, release_releases (checkoutAt_of_findHandle ((hfind h).trans hf)) _, serve_gives hr hc ?_⟩,
    fun h n e hp hf ho ha => ⟨_, release_releases (checkoutAt_of_findHandle ((hfind h).trans hf)) _, serve_gives hr hc ?_⟩⟩
  · rw [hd, hwork, hp]
  · rw [hd, hwork, hp]; simp only [hfind, hf]
  · rw [hd, hwork, hp]; simp only [hfind, hf, ho, ha, if_false, Bool.false_eq_true]
  · rw [hd, hwork, hp]; simp only [hfind, hf, ho, if_true]; rfl
  · rw [hd, hwork, hp]; simp only [hfind, hf, ho, ha, if_false, if_true]; rfl

end Sys2Proof.Machine.Checkouts
end

section
/-! SUPPORT. A CHECKOUT refused at stages 3 to 5: queued or denied, with its shortfalls handed on (R50, R54 to R57, R120;
O24). -/

namespace Sys2Proof.Machine.Checkouts

open Charges

/-! ### What a failure can be (R48, R51, R54) -/

/-- A pool's failure is one of five reasons (R33, R34, R48). -/
theorem poolReason_some {s : State} {c : Catalogue} {p : Port} {k : Pool} {charge : Nat} {ok held : Bool} {x : Reason}
    (h : s.poolReason c p k charge ok held = some x) :
    x ∈ [Reason.shareCap, .held, .overcommitted, .reservedElsewhere, .noTokens] := by
  rw [poolReason_eq] at h
  split_ifs at h
  · simp [← Option.some.inj h]
  · simp [← Option.some.inj h]
  · rcases fitReason_cases s c p k charge ok with ⟨-, e⟩ | ⟨-, e⟩ | ⟨-, -, e⟩ | ⟨-, -, e⟩
    · rw [e] at h; cases h
    all_goals simp [← Option.some.inj (e.symm.trans h)]

/-- A request fails stages 3 to 5 for a queueable reason, or because the journal is full (R48, R51, R54). -/
theorem orderFailure_reason {s : State} {c : Catalogue} {g : GrantOrder} {x : QueueReason}
    (h : s.orderFailure c g = some x) :
    x.reason ∈ [Reason.shareCap, .held, .overcommitted, .reservedElsewhere, .noTokens, .tableFull, .journalFull] := by
  rw [orderFailure_eq] at h
  rcases Option.or_eq_some_iff.mp h with hp | ⟨-, hp⟩
  · obtain ⟨k, r, rfl, -, hr, -⟩ := (poolFailure_some_iff ..).mp hp
    have := poolReason_some hr
    simp only [List.mem_cons, List.not_mem_nil, or_false] at this ⊢
    tauto
  · split_ifs at hp <;> cases hp <;> simp

theorem queueable_iff {x : Reason}
    (h : x ∈ [Reason.shareCap, .held, .overcommitted, .reservedElsewhere, .noTokens, .tableFull, .journalFull]) :
    x.queueable = true ↔ x ≠ .journalFull := by
  cases x <;> simp [Reason.queueable] at h ⊢

/-- A queueable reason blocks unless it is SHARE_CAP or TABLE_FULL (R56, R72). -/
theorem isPoolReason_of_queueable {x : Reason} (h : x.queueable = true) :
    x.isPoolReason = decide (x ≠ .shareCap ∧ x ≠ .tableFull) := by
  cases x <;> simp [Reason.queueable, Reason.isPoolReason] at h ⊢

/-! ### The lines of a request (R28, R29, R54) -/

/-- The slot a code is found in is present (R11). -/
theorem feature_of_findCode {c : Catalogue} {code i : Nat} (h : c.findCode code = some i) :
    (c.feature i).isSome = true := by
  obtain ⟨hi, hcode, -⟩ := List.findIdx?_eq_some_iff_getElem.mp h
  rw [Catalogue.feature, Catalogue.slot, List.getD_eq_getElem _ _ hi]
  unfold FeatureSlot.hasCode at hcode
  split at hcode
  · cases hcode
  · simp [*]

/-- What a CHECKOUT's names lead to are present slots (R48, R49). -/
theorem feature_of_resolve {c : Catalogue} {want : CheckoutWant} {bundle : Option BundleRef} {rebate : Nat}
    {items : List (Nat × Nat)} (h : resolve c want = .found bundle rebate items) :
    ∀ x ∈ items, (c.feature x.1).isSome = true := by
  intro x hx
  unfold resolve at h
  split at h
  · split at h
    · cases h
    · split at h
      · rename_i hall
        cases h
        obtain ⟨l, hl, rfl⟩ := List.mem_map.mp hx
        exact List.all_eq_true.mp hall l hl
      · cases h
  · split at h
    · cases h
    · cases h
      obtain ⟨y, -, hy⟩ := List.mem_filterMap.mp hx
      obtain ⟨i, hi, rfl⟩ := Option.map_eq_some_iff.mp hy
      exact feature_of_findCode hi

/-- Every line of a request may wait when each slot it names is present, QUEUEABLE and has QUEUE set (R54). -/
theorem linesQueueable_buildLines {c : Catalogue} (cls : Class) {items : List (Nat × Nat)}
    (h : ∀ x ∈ items, (c.feature x.1).isSome = true) :
    linesQueueable c (buildLines c cls items) = true ↔
      ∀ i n, (i, n) ∈ items → (c.slot i).site.queue = true ∧ ∃ f, c.feature i = some f ∧ f.queueable = true := by
  simp only [linesQueueable, buildLines, List.all_eq_true, Bool.and_eq_true, lineHas_iff, List.mem_filterMap,
    Option.map_eq_some_iff]
  constructor
  · intro hall i n hi
    obtain ⟨f, hf⟩ := Option.isSome_iff_exists.mp (h _ hi)
    obtain ⟨⟨j, f', hj, hf', hq⟩, hsite⟩ := hall _ ⟨(i, n), hi, f, hf, rfl⟩
    cases hj
    exact ⟨hsite, f', hf', hq⟩
  · rintro hall l ⟨⟨i, n⟩, hi, f, hf, rfl⟩
    obtain ⟨hsite, f', hf', hq⟩ := hall i n hi
    exact ⟨⟨i, f', rfl, hf', hq⟩, hsite⟩

/-! ### Shortfalls (R120) -/

/-- A watch after the shortfalls of a request (R50, R120): its tally alone grows, where its pool's own fit test failed. -/
theorem handShortfalls_watch (s : State) (c : Catalogue) (g : GrantOrder) (k : Pool) :
    (s.handShortfalls c g).watches.get k = { s.watches.get k with
      tally := if 1 ≤ g.charges.get k ∧
          (s.fitReason c g.owner k (g.charges.get k) (overdraftOk c g.lines k)).isSome = true
        then min 16777215 ((s.watches.get k).tally + shortfall c g.lines k)
        else (s.watches.get k).tally } := by
  simp only [State.handShortfalls, Quad.get_ofFn, Bool.and_eq_true, needs_iff, Config.maxTally]
  split <;> rfl

/-! ### Queued or denied (R54 to R57) -/

/-- The three conditions under which a refused request waits: it may, there is room, and its catalogue is still active
(R54, R57); QUEUE_FULL is set where it may and there is no room (R55). -/
theorem refuse_eq (s : State) (c : Catalogue) (kept : Bool) (g : GrantOrder) (timeout : Nat) (x : QueueReason)
    {may room : Bool} (hmay : (x.reason.queueable && decide (1 ≤ timeout) && linesQueueable c g.lines) = may)
    (hroom : s.queueHasRoom g.owner = room) :
    s.refuse c kept g timeout x =
      if may = true ∧ room = true ∧ kept = true then (s.handShortfalls c g).enqueue g timeout x
      else (s.handShortfalls c g).deny g.owner g.tag (requestCode g.bundle g.lines) x.reason (poolCode x.pool)
        (may && !room) g.charges := by
  unfold State.refuse
  dsimp only
  rw [hmay, hroom]
  cases may <;> cases room <;> cases kept <;> rfl

theorem checkoutWork_refuses {s : State} {r : Request} {q : CheckoutRequest} {bundle : Option BundleRef} {rebate : Nat}
    {items : List (Nat × Nat)} {x : QueueReason} {g : GrantOrder} (hserving : (s.basis r).serving = true)
    (hparse : parseCheckout r.payload = some q)
    (hresolve : resolve (s.basis r).catalogue q.want = .found bundle rebate items)
    (hfault : firstFault (s.basis r).catalogue (s.basis r).effClass 1 items = none)
    (hg : g = orderFor (s.basis r).catalogue (s.basis r).effClass r.port q.tag bundle rebate items)
    (hx : s.orderFailure (s.basis r).catalogue g = some x) :
    checkoutWork r s = s.refuse (s.basis r).catalogue r.under.isNone g q.timeout x := by
  rw [checkoutWork_serving hserving, hparse]
  simp only [hresolve, hfault, ← hg, State.judgeOrder, hx]

/-- Queued or denied, a refusal hands on its shortfalls and touches besides the Grant Engine and the Journal alone. -/
theorem refuse_frame (s : State) (c : Catalogue) (kept : Bool) (g : GrantOrder) (timeout : Nat) (x : QueueReason) :
    (s.refuse c kept g timeout x).1.watches = (s.handShortfalls c g).watches ∧
    { (s.refuse c kept g timeout x).1 with grant := s.grant, journal := s.journal, watches := s.watches } = s := by
  rw [refuse_eq s c kept g timeout x rfl rfl]
  split <;> exact ⟨rfl, rfl⟩

/-- A request that waits: its entry at the newest end, in the lowest FREE wait slot, and its reply (R56, R71). -/
theorem enqueue_eq {s : State} (c : Catalogue) (g : GrantOrder) (timeout : Nat) (x : QueueReason) {slot : Nat}
    (hslot : s.freeWaitSlot = some slot) :
    (s.handShortfalls c g).enqueue g timeout x =
      ((s.handShortfalls c g).withQueue (s.grant.queue ++ [waitEntryOf slot g timeout x]),
        { status := .queued
          payload := b2 (32768 + s.waitGeneration slot * 32 + slot) ++
            b1 x.reason.code ++ b1 (poolCode x.pool) ++ b1 s.grant.queue.length }) := by
  unfold State.enqueue
  rw [show (s.handShortfalls c g).freeWaitSlot = s.freeWaitSlot from rfl, hslot, QueueReason.bytes]
  simp only [Option.getD_some, List.append_assoc]
  rfl

/-- Settles O24. -/
theorem checkoutQueuesOrDenies : Obligations.CheckoutQueuesOrDenies := by
  intro s r q bundle rebate items c g x may room hr hc hcat hserving hparse hresolve hfault hg hx hmay hroom
  subst hcat
  have hmay' : (x.reason.queueable && decide (1 ≤ q.timeout) && linesQueueable (s.basis r).catalogue g.lines) = may := by
    rw [hg, orderFor, Bool.eq_iff_iff, hmay, Bool.and_eq_true, Bool.and_eq_true, decide_eq_true_eq,
      queueable_iff (orderFailure_reason hx), linesQueueable_buildLines _ (feature_of_resolve hresolve), and_assoc]
  have hroom' : (s.dropRequest .checkout r.port).queueHasRoom g.owner = room := by
    rw [hg, Bool.eq_iff_iff, hroom, queueHasRoom_iff]; rfl
  have hwork : checkoutWork r (s.dropRequest .checkout r.port) =
      (s.dropRequest .checkout r.port).refuse (s.basis r).catalogue r.under.isNone g q.timeout x :=
    checkoutWork_refuses hserving hparse hresolve hfault hg hx
  have hrefuse := refuse_eq (s.dropRequest .checkout r.port) (s.basis r).catalogue r.under.isNone g q.timeout x
    hmay' hroom'
  obtain ⟨hwatches, hframe⟩ := refuse_frame (s.dropRequest .checkout r.port) (s.basis r).catalogue r.under.isNone g
    q.timeout x
  generalize (s.dropRequest .checkout r.port).refuse (s.basis r).catalogue r.under.isNone g q.timeout x = out at *
  refine ⟨out.1, out.2, serve_gives hr hc hwork, fun k => ?_, fun hm hrm hu hq => ?_, fun hno => ?_, hframe⟩
  · rw [hwatches, handShortfalls_watch, shortfall, poolTotal, List.filter_filter, hg]
    rfl
  · obtain ⟨-, -, hgens, -⟩ := hq
    obtain ⟨slot, hslot, hlt, hwaiting, hlow⟩ := freeWaitSlot_of_room hgens (hroom.mp hrm).1
    have hqueueable : x.reason.queueable = true := by
      rw [queueable_iff (orderFailure_reason hx)]; exact (hmay.mp hm).1
    rw [if_pos ⟨hm, hrm, by rw [hu]; rfl⟩, enqueue_eq _ _ _ _ (s := s.dropRequest .checkout r.port) hslot] at hrefuse
    rw [hrefuse, ← isPoolReason_of_queueable hqueueable, hg]
    exact ⟨slot, hlt, hwaiting, hlow, rfl, rfl, rfl⟩
  · rw [if_neg (by rwa [Option.isNone_iff_eq_none])] at hrefuse
    rw [hrefuse, hg]
    refine ⟨rfl, rfl, ?_⟩
    cases bundle <;> rfl

end Sys2Proof.Machine.Checkouts
end

section
/-! SUPPORT. A queue pass as a whole: what it keeps of the queue, the checkout table and the rest of the part, and what
becomes of the oldest entry (R73 to R77; O30). -/

namespace Sys2Proof.Machine.WaitQueue

open Charges

/-! ### The queue along a pass -/

@[simp] theorem endWait_queue (s : State) (c : Option WaitCause) (e : WaitEntry) :
    (s.endWait c e).grant.queue = s.grant.queue.filter fun x => x.slot != e.slot := by
  rw [State.endWait_grant]; rfl

@[simp] theorem grantWaiting_queue (s : State) (n : Nat) (e : WaitEntry) :
    (s.grantWaiting n e).grant.queue = s.grant.queue.filter fun x => x.slot != e.slot := by
  rw [grantWaiting_grant_eq]

@[simp] theorem updateEntry_queue (s : State) (n : Nat) (f : WaitEntry → WaitEntry) :
    (s.updateEntry n f).grant.queue = s.grant.queue.map fun x => if x.slot = n then f x else x := rfl

/-- A property of the queue that the visit of the entry in slot `n` keeps, whether the entry leaves or is marked. -/
structure KeptByVisit (n : Nat) (P : List WaitEntry → Prop) : Prop where
  leaves : ∀ q, P q → P (q.filter fun x => x.slot != n)
  marked : ∀ q f, KeepsEntry f → P q → P (q.map fun x => if x.slot = n then f x else x)

theorem KeepsEntry.slot {f : WaitEntry → WaitEntry} (hf : KeepsEntry f) (x : WaitEntry) : (f x).slot = x.slot := by
  rw [hf x]

theorem anyBlocked_mono {b b' : Quad Bool} {charges : Quad Nat} (hb : ∀ k, b.get k = true → b'.get k = true)
    (h : anyBlocked b' charges = false) : anyBlocked b charges = false := by
  rw [Bool.eq_false_iff, Ne, anyBlocked_iff] at h ⊢
  exact fun ⟨k, hk, hc⟩ => h ⟨k, hb k hk, hc⟩

/-- A pass never takes a pool out of the blocked set, so it visits none of the entries that the set it starts with
blocks (R74, R75): what the visits of the others keep of the queue, it keeps. -/
theorem passOver_queue_induct {P : List WaitEntry → Prop} {b : Quad Bool} (es : List WaitEntry)
    (hP : ∀ e ∈ es, anyBlocked b e.charges = false → KeptByVisit e.slot P) :
    ∀ (s : State) (b' : Quad Bool), (∀ k, b.get k = true → b'.get k = true) → P s.grant.queue →
      P (s.passOver b' es).state.grant.queue := by
  induction es with
  | nil => exact fun s b' _ h => h
  | cons e es ih =>
    intro s b' hb h
    have ih := ih fun x hx => hP x (List.mem_cons_of_mem e hx)
    cases hbe : anyBlocked b' e.charges with
    | true => rw [passOver_skips hbe]; exact ih s b' hb h
    | false =>
      have hv : KeptByVisit e.slot P := hP e List.mem_cons_self (anyBlocked_mono hb hbe)
      cases hf : s.recheckFails e with
      | true => rw [passOver_fails hbe hf]; exact ih _ b' hb (by rw [endWait_queue]; exact hv.leaves _ h)
      | false =>
        cases hr : s.entryFailure e with
        | some r =>
          rw [passOver_keeps hbe hf hr]
          refine ih _ _ (fun k hk => ?_) (hv.marked _ _ (fun x => rfl) h)
          split
          · exact hb k hk
          · exact (blockAll_get b' e.charges k).mpr (.inl (hb k hk))
        | none =>
          cases hn : s.freeSlot with
          | none => rw [passOver_full hbe hf hr hn]; exact hv.marked _ _ (fun x => rfl) h
          | some n =>
            rw [passOver_fits hbe hf hr hn]
            split
            · exact ih s b' hb h
            · exact ih _ b' hb (by rw [grantWaiting_queue]; exact hv.leaves _ h)

/-- What every visit keeps of the queue, a whole pass keeps. -/
theorem queuePass_queue_induct {P : List WaitEntry → Prop} (hP : ∀ n, KeptByVisit n P) (s : State)
    (h : P s.grant.queue) : P s.queuePass.grant.queue :=
  passOver_queue_induct (b := Quad.fill false) s.grant.queue (fun e _ _ => hP e.slot) s _ (fun _ hk => hk) h

theorem map_slot_marked (q : List WaitEntry) (n : Nat) {f : WaitEntry → WaitEntry} (hf : KeepsEntry f) :
    (q.map fun x => if x.slot = n then f x else x).map (fun x => x.slot) = q.map fun x => x.slot := by
  rw [List.map_map]
  refine List.map_congr_left fun x _ => ?_
  rw [Function.comp_apply, apply_ite WaitEntry.slot, KeepsEntry.slot hf, ite_self]

/-- A pass adds no entry and keeps the order of those that stay (R73, R74). -/
theorem queuePass_slots (s : State) :
    (s.queuePass.grant.queue.map fun e => e.slot).Sublist (s.grant.queue.map fun e => e.slot) :=
  queuePass_queue_induct
    (P := fun q => (q.map fun e => e.slot).Sublist (s.grant.queue.map fun e => e.slot))
    (fun n => ⟨fun q h => (List.Sublist.map (fun e : WaitEntry => e.slot) List.filter_sublist).trans h,
      fun q f hf h => by rwa [map_slot_marked q n hf]⟩)
    s (List.Sublist.refl _)

/-- An entry that stays keeps everything but its blocking flag and its last reason (R75, R77). -/
theorem queuePass_entries (s : State) :
    ∀ e ∈ s.queuePass.grant.queue, ∃ x ∈ s.grant.queue, e = { x with blocking := e.blocking, last := e.last } := by
  refine queuePass_queue_induct
    (P := fun q => ∀ e ∈ q, ∃ x ∈ s.grant.queue, e = { x with blocking := e.blocking, last := e.last })
    (fun n => ⟨fun q h e he => h e (List.mem_of_mem_filter he), fun q f hf h e he => ?_⟩) s fun e he => ⟨e, he, rfl⟩
  obtain ⟨y, hy, rfl⟩ := List.mem_map.mp he
  obtain ⟨x, hx, hyx⟩ := h y hy
  refine ⟨x, hx, ?_⟩
  split
  · rw [hf y, hyx]
  · exact hyx

/-! ### The rest of the part along a pass -/

/-- A grant from the queue takes a FREE slot: every checkout stays, and every slot keeps its generation (R44, R76). -/
theorem grantWaiting_slots {s : State} {n : Nat} (e : WaitEntry) (hn : s.freeSlot = some n) (m : Nat) :
    (∀ x, s.checkoutAt m = some x → (s.grantWaiting n e).checkoutAt m = some x) ∧
    (s.grantWaiting n e).generationAt m = s.generationAt m := by
  obtain ⟨c, hc, hfree⟩ := entry_of_freeSlot hn
  have hlt : n < s.grant.table.length := (List.getElem?_eq_some_iff.mp hc).1
  obtain ⟨-, hgen, hothers⟩ := checkoutAt_eq_of_table (s := s) (u := s.grantWaiting n e)
    (congrArg GrantEngine.table (grantWaiting_grant_eq s n e)) hlt
  by_cases hm : m = n
  · subst hm
    refine ⟨fun x hx => ?_, hgen⟩
    rw [State.checkoutAt, hc, Option.bind_some, hfree] at hx
    cases hx
  · rw [State.checkoutAt, State.checkoutAt, State.generationAt, State.generationAt, hothers m hm]
    exact ⟨fun x hx => hx, rfl⟩

theorem passOver_checkoutAt (s : State) (b : Quad Bool) (es : List WaitEntry) {n : Nat} {x : Checkout}
    (h : s.checkoutAt n = some x) : (s.passOver b es).state.checkoutAt n = some x :=
  State.passOver_induct (P := fun t => t.checkoutAt n = some x)
    (fun t e _ ht => by rw [State.checkoutAt, State.endWait_grant]; exact ht) (fun _ _ _ _ ht => ht)
    (fun t _ e _ _ hm _ ht => (grantWaiting_slots e hm n).1 x ht) es s b h

theorem queuePass_generationAt (s : State) (n : Nat) : s.queuePass.generationAt n = s.generationAt n :=
  State.queuePass_induct (P := fun t => t.generationAt n = s.generationAt n)
    (fun t e _ ht => by rw [State.generationAt, State.endWait_grant]; exact ht) (fun _ _ _ _ ht => ht)
    (fun t _ e _ _ hm _ ht => ((grantWaiting_slots e hm n).2).trans ht) s rfl

/-- A pass touches the Grant Engine, the Journal and the ports alone. -/
theorem queuePass_frame (s : State) :
    { s.queuePass with grant := s.grant, journal := s.journal, ports := s.ports } = s :=
  State.queuePass_induct (P := fun t => { t with grant := s.grant, journal := s.journal, ports := s.ports } = s)
    (fun t e _ ht => Eq.trans (congrArg
      (fun x : State => { x with grant := s.grant, journal := s.journal, ports := s.ports })
      (endWait_frame t (some .failed) e).2) ht)
    (fun _ _ _ _ ht => ht)
    (fun t n e _ _ _ _ ht => Eq.trans (congrArg
      (fun x : State => { x with grant := s.grant, journal := s.journal, ports := s.ports })
      (grantWaiting_frame t n e)) ht) s rfl

/-! ### The oldest entry -/

theorem queuePass_cons {s : State} {e : WaitEntry} {es : List WaitEntry} (hq : s.grant.queue = e :: es) :
    s.queuePass = (s.passOver (Quad.fill false) (e :: es)).state := by
  rw [State.queuePass, State.pass, hq]

theorem anyBlocked_fill_false (charges : Quad Nat) : anyBlocked (Quad.fill false) charges = false := by
  rw [Bool.eq_false_iff, Ne, anyBlocked_iff]
  simp

/-- Where no two entries share a slot, marking the oldest leaves the younger ones as they are. -/
theorem map_marked_cons {e : WaitEntry} {es : List WaitEntry} (hne : ∀ x ∈ es, x.slot ≠ e.slot)
    (f : WaitEntry → WaitEntry) :
    ((e :: es).map fun x => if x.slot = e.slot then f x else x) = f e :: es := by
  rw [List.map_cons, if_pos rfl, List.map_congr_left fun x hx => if_neg (hne x hx), List.map_id']

/-- The visit of the entry in another slot leaves the oldest entry the oldest, as it was. -/
theorem keptByVisit_head {n : Nat} {e : WaitEntry} (hn : n ≠ e.slot) :
    KeptByVisit n fun q => ∃ rest, q = e :: rest where
  leaves := by
    rintro _ ⟨rest, rfl⟩
    exact ⟨_, List.filter_cons_of_pos (by simpa using hn.symm)⟩
  marked := by
    rintro _ f _ ⟨rest, rfl⟩
    exact ⟨_, by rw [List.map_cons, if_neg hn.symm]⟩

/-- The visit of the entry in another slot leaves an entry in the queue as it was. -/
theorem keptByVisit_mem {n : Nat} {x : WaitEntry} (hn : n ≠ x.slot) : KeptByVisit n fun q => x ∈ q where
  leaves _ h := List.mem_filter.mpr ⟨h, by simpa using hn.symm⟩
  marked _ f _ h := List.mem_map.mpr ⟨x, h, if_neg hn.symm⟩

/-- A slot that no entry stands in stays without one. -/
theorem keptByVisit_empty (n m : Nat) : KeptByVisit n fun q => ∀ x ∈ q, x.slot ≠ m where
  leaves _ h x hx := h x (List.mem_of_mem_filter hx)
  marked _ f hf h x hx := by
    obtain ⟨y, hy, rfl⟩ := List.mem_map.mp hx
    rw [apply_ite WaitEntry.slot, KeepsEntry.slot hf, ite_self]
    exact h y hy

/-- Settles O30. -/
theorem queuePassServesOldestFirst : Obligations.QueuePassServesOldestFirst := by
  refine ⟨fun s => ⟨rfl, queuePass_slots s, queuePass_entries s, fun n e => passOver_checkoutAt s _ _,
    queuePass_generationAt s, queuePass_frame s⟩, fun s e es hq hnodup hf => ?_⟩
  have hb := anyBlocked_fill_false e.charges
  rw [hq, List.map_cons, List.nodup_cons] at hnodup
  have hne : ∀ x ∈ es, x.slot ≠ e.slot := fun x hx hs => hnodup.1 (hs ▸ List.mem_map_of_mem hx)
  refine ⟨fun n hr hn hroom => ?_, fun r hr => ?_, fun r x hr hcap hx hshare => ?_, fun hr hn => ?_⟩
  · have hfits : ¬ ((s.orderOf e).metered = true ∧ 512 < s.journal.fifo.length + s.journal.rv + 2) :=
      fun h => absurd (hroom h.1) (by omega)
    rw [queuePass_cons hq, passOver_fits hb hf hr hn, if_neg hfits]
    have hlt : n < s.grant.table.length := (List.findIdx?_eq_some_iff_getElem.mp hn).1
    have hentry := (checkoutAt_eq_of_table (s := s) (u := s.grantWaiting n e)
      (congrArg GrantEngine.table (grantWaiting_grant_eq s n e)) hlt).1
    refine ⟨passOver_queue_induct es (fun x _ _ => keptByVisit_empty x.slot e.slot) _ _ (fun _ hk => hk) fun x hx => ?_,
      _, passOver_checkoutAt _ _ _ hentry, rfl⟩
    rw [grantWaiting_queue] at hx
    exact bne_iff_ne.mp (List.mem_filter.mp hx).2
  · rw [queuePass_cons hq, passOver_keeps hb hf hr]
    refine passOver_queue_induct es (fun x hx _ => keptByVisit_head
      (e := { e with blocking := decide (r.reason ≠ .shareCap), last := r }) (hne x hx)) _ _ (fun _ hk => hk) ⟨es, ?_⟩
    rw [updateEntry_queue, hq, map_marked_cons hne]
  · rw [queuePass_cons hq, passOver_keeps hb hf hr, if_neg hcap]
    refine passOver_queue_induct es (fun y hy hyb => keptByVisit_mem fun hs => ?_) _ _ (fun _ hk => hk) ?_
    · obtain rfl : y = x := List.inj_on_of_nodup_map hnodup.2 hy hx hs
      obtain ⟨k, hek, hxk⟩ := hshare
      rw [Bool.eq_false_iff, Ne, anyBlocked_iff] at hyb
      exact hyb ⟨k, (blockAll_get _ e.charges k).mpr (.inr hek), hxk⟩
    · rw [updateEntry_queue, hq, map_marked_cons hne]
      exact List.mem_cons_of_mem _ hx
  · rw [queuePass_cons hq, passOver_full hb hf hr hn]
    exact ⟨_, by rw [updateEntry_queue, hq, map_marked_cons hne]⟩

end Sys2Proof.Machine.WaitQueue
end

section
/-! SUPPORT. CANCEL WAIT (R80; O29). -/

namespace Sys2Proof.Machine.WaitQueue

open Charges

theorem cancelWaitWork_serving {r : Request} {s : State} (h : (s.basis r).serving = true) :
    cancelWaitWork r s = match parseTicket r.payload with
      | none => (s, .bare .badRequest)
      | some t => match s.findTicket t with
        | none => (s, .bare .notFound)
        | some e =>
          if e.port = r.port then s.cancel none e
          else if (s.basis r).privileges.admin then s.cancel (some .cancelled) e
          else (s, .bare .notPermitted) :=
  needsCatalogue_serving h

/-- The cause of the notice for an entry that port `p` cancels: none for its own (R80). -/
def cancelCause (p : Port) (e : WaitEntry) : Option WaitCause := if e.port = p then none else some .cancelled

/-- An entry cancelled by port `p`: its own hears of it by the reply alone, another port's by a notice (R80). -/
theorem endWait_cancelCause_ports (s : State) (p : Port) (e : WaitEntry) :
    (s.endWait (cancelCause p e) e).ports =
      if e.port = p then s.ports
      else s.ports.set e.port ((s.ports.get e.port).hand (.waitEnded (s.ticket e) .cancelled)) := by
  rw [State.endWait_ports, cancelCause]
  by_cases ho : e.port = p
  · rw [if_pos ho, if_pos ho]
  · rw [if_neg ho, if_neg ho]; rfl

/-- Settles O29. -/
theorem cancelWaitRemovesEntry : Obligations.CancelWaitRemovesEntry := by
  refine ⟨parseTicket_iff, fun s t e hs hq => findTicket_iff hs hq t e, fun s r hr hc hserving => ?_⟩
  have hwork := cancelWaitWork_serving (r := r) (s := s.dropRequest .cancelWait r.port) hserving
  have hfind (t : Nat) : (s.dropRequest .cancelWait r.port).findTicket t = s.findTicket t := rfl
  rw [dropRequest_basis] at hwork
  refine ⟨fun hp => serve_answers hr hc ?_, fun t hp hf => serve_answers hr hc ?_,
    fun t e hp hf ho ha => serve_answers hr hc ?_, fun t e hp hf hmay => ?_⟩
  · rw [hwork, hp]
  · rw [hwork, hp]; simp only [hfind, hf]
  · rw [hwork, hp]; simp only [hfind, hf, ho, ha, if_false, Bool.false_eq_true]
  · have hcancel : cancelWaitWork r (s.dropRequest .cancelWait r.port) =
        (s.dropRequest .cancelWait r.port).cancel (cancelCause r.port e) e := by
      rw [hwork, hp]
      simp only [hfind, hf, cancelCause]
      by_cases ho : e.port = r.port
      · simp only [ho, if_true]
      · simp only [ho, if_false, hmay.resolve_left ho, if_true]
    obtain ⟨hgrant, hframe⟩ := endWait_frame (s.dropRequest .cancelWait r.port) (cancelCause r.port e) e
    refine ⟨_, serve_gives hr hc hcancel, congrArg GrantEngine.queue hgrant, congrArg GrantEngine.waitGens hgrant,
      by rw [hgrant]; rfl, by rw [hgrant]; rfl, State.endWait_journal ..,
      endWait_cancelCause_ports .., hframe⟩

end Sys2Proof.Machine.WaitQueue
end

section
/-! SUPPORT. Waiting entries removed together with a notice each, and the Grant Engine's window end (R78, R79, R164;
O39). -/

namespace Sys2Proof.Machine.WaitQueue

open Charges

/-! ### Entries removed one after another, each with a notice -/

/-- The ports after each of the entries `es` of `s` has had its WAIT_ENDED notice (R79). -/
def handWaits (s : State) (c : WaitCause) (es : List WaitEntry) : Quad PortIf :=
  es.foldl (fun q e => q.modify e.port fun p => p.hand (.waitEnded (s.ticket e) c)) s.ports

/-- Each port hears of its own entries, in their order. -/
theorem handWaits_get (s : State) (c : WaitCause) (es : List WaitEntry) (p : Port) :
    (handWaits s c es).get p =
      (s.ports.get p).handAll ((es.filter fun e => e.port == p).map fun e => .waitEnded (s.ticket e) c) := by
  unfold handWaits
  generalize s.ports = q
  induction es generalizing q with
  | nil => rfl
  | cons e es ih =>
    rw [List.foldl_cons, ih, Quad.get_modify]
    by_cases hp : p = e.port
    · rw [if_pos hp, List.filter_cons_of_pos (by simpa using hp.symm)]; rfl
    · rw [if_neg hp, List.filter_cons_of_neg (by simpa using Ne.symm hp)]

/-- The cause of a removal shows in the notices alone: the rest is as without one (R79). -/
theorem endWaits_some (s : State) (c : WaitCause) (es : List WaitEntry) (hnodup : (es.map (·.slot)).Nodup)
    (hslots : ∀ e ∈ es, e.slot < s.grant.waitGens.length) :
    s.endWaits (some c) es = { s.endWaits none es with ports := handWaits s c es } := by
  induction es using List.reverseRecOn with
  | nil => rfl
  | append_singleton es e ih =>
    rw [List.map_append, List.nodup_append] at hnodup
    have hslots' : ∀ x ∈ es, x.slot < s.grant.waitGens.length := fun x hx => hslots x (by simp [hx])
    have hnew : es.any (fun x => x.slot == e.slot) = false := by
      rw [List.any_eq_false]
      intro x hx
      simpa using hnodup.2.2 x.slot (List.mem_map.mpr ⟨x, hx, rfl⟩) e.slot (by simp)
    have hticket : (s.endWaits none es).ticket e = s.ticket e := by
      rw [State.ticket, (ended_endWaits s es hnodup.1 hslots').waitGeneration, hnew]; rfl
    have hsnoc (x : Option WaitCause) : s.endWaits x (es ++ [e]) = (s.endWaits x es).endWait x e :=
      List.foldl_concat ..
    have hhand : handWaits s c (es ++ [e]) =
        (handWaits s c es).modify e.port fun p => p.hand (.waitEnded (s.ticket e) c) := List.foldl_concat ..
    rw [hsnoc, hsnoc, hhand, ih hnodup.1 hslots', ← hticket]
    rfl

/-! ### The Grant Engine's window end before its pass (R78) -/

/-- An entry with one window less to wait. -/
def counted (e : WaitEntry) : WaitEntry := { e with remaining := e.remaining - 1 }

/-- The state in which a window end taken by the Grant Engine has counted every entry down (R78, step 1). -/
def countedDown (s : State) : State := (s.withDue { s.due with grant := s.due.grant - 1 }).countDown

/-- The entries that the next window end expires, counted down (R78, step 2). -/
theorem expired_countedDown (s : State) :
    (countedDown s).expired = (s.grant.queue.filter fun e => decide (e.remaining ≤ 1)).map counted := by
  show ((s.grant.queue.map counted).filter fun e => e.remaining == 0) = _
  rw [List.filter_map]
  congr 1
  refine List.filter_congr fun e _ => Bool.eq_iff_iff.mpr ?_
  simp only [Function.comp_apply, counted, beq_iff_eq, decide_eq_true_eq]
  omega

/-- A window end taken by the Grant Engine, before its queue pass (R78, steps 1 to 3). -/
def windowEnded (s : State) : State :=
  ((countedDown s).endWaits (some .expired) (countedDown s).expired).applyPendings

theorem grantTakes_eq (s : State) : s.grantTakes = (windowEnded s).queuePass := rfl

variable {s : State}

/-- The expired entries removed as without a notice. -/
theorem countedDown_ended (h : s.QueueBounded) :
    Ended (countedDown s) (countedDown s).expired ((countedDown s).endWaits none (countedDown s).expired) ∧
    (windowEnded s) = ({ (countedDown s).endWaits none (countedDown s).expired with
      ports := handWaits (countedDown s) .expired (countedDown s).expired } : State).applyPendings := by
  obtain ⟨hnodup, hslots, hgens, -, -⟩ := h
  have hmap : ((countedDown s).expired.map (·.slot)) =
      (s.grant.queue.filter fun e => decide (e.remaining ≤ 1)).map (·.slot) := by
    rw [expired_countedDown, List.map_map]; rfl
  have hnodup' : ((countedDown s).expired.map (·.slot)).Nodup :=
    hmap ▸ hnodup.sublist (List.filter_sublist.map _)
  have hslots' : ∀ e ∈ (countedDown s).expired, e.slot < (countedDown s).grant.waitGens.length := by
    intro e he
    obtain ⟨x, hx, hs⟩ := List.mem_map.mp (hmap ▸ List.mem_map_of_mem he)
    exact hs ▸ hgens.symm ▸ hslots x (List.mem_of_mem_filter hx)
  exact ⟨ended_endWaits _ _ hnodup' hslots', congrArg State.applyPendings (endWaits_some _ _ _ hnodup' hslots')⟩

/-- A pending ceiling is applied once, clamped to the capacity (R22, R164). -/
theorem windowEnded_pool (h : s.QueueBounded) (k : Pool) :
    (windowEnded s).pool k = (s.pool k).applyPending (s.cat.capacity k) := by
  obtain ⟨hended, heq⟩ := countedDown_ended h
  have hcat := congrArg State.cat hended.frame
  have hpool : ((countedDown s).endWaits none (countedDown s).expired).pool k = s.pool k :=
    congrArg (fun q => Quad.get q k) hended.pools
  rw [heq]
  refine (Quad.get_ofFn _ k).trans ?_
  show PoolState.applyPending (((countedDown s).endWaits none (countedDown s).expired).pool k)
    (((countedDown s).endWaits none (countedDown s).expired).cat.capacity k) = _
  rw [hpool]
  exact congrArg (fun c : Catalogue => (s.pool k).applyPending (c.capacity k)) hcat

/-- Exactly the entries with more than one window to wait stay (R78, steps 1 and 2). -/
theorem windowEnded_queue (h : s.QueueBounded) :
    (windowEnded s).grant.queue = (s.grant.queue.filter fun e => decide (2 ≤ e.remaining)).map counted := by
  obtain ⟨hended, heq⟩ := countedDown_ended h
  have hnodup : ((s.grant.queue.map counted).map (·.slot)).Nodup := by rw [List.map_map]; exact h.1
  rw [heq]
  refine hended.queue.trans ((filter_of_slots hnodup fun e => e.remaining == 0).trans ?_)
  rw [List.filter_map]
  congr 1
  refine List.filter_congr fun e _ => Bool.eq_iff_iff.mpr ?_
  simp only [Function.comp_apply, counted, Bool.not_eq_true', beq_eq_false_iff_ne, decide_eq_true_eq]
  omega

/-- The slots of the expired entries are FREE under their next generation (R70, R79). -/
theorem windowEnded_waitGeneration (h : s.QueueBounded) (n : Nat) :
    (windowEnded s).waitGeneration n =
      if s.grant.queue.any (fun e => e.slot == n && decide (e.remaining ≤ 1)) then
        nextWaitGeneration (s.waitGeneration n) else s.waitGeneration n := by
  obtain ⟨hended, heq⟩ := countedDown_ended h
  have hany : (countedDown s).expired.any (fun e => e.slot == n) =
      s.grant.queue.any (fun e => e.slot == n && decide (e.remaining ≤ 1)) := by
    rw [expired_countedDown, List.any_map, List.any_filter]
    congr 1
    funext e
    exact Bool.and_comm _ _
  rw [heq, ← hany]
  exact hended.waitGeneration n

/-- Each expired entry's port is handed its EXPIRED notice, in queue order (R79). -/
theorem windowEnded_ports (h : s.QueueBounded) (p : Port) :
    (windowEnded s).ports.get p = (s.ports.get p).handAll
      ((s.grant.queue.filter fun e => e.port == p && decide (e.remaining ≤ 1)).map
        fun e => .waitEnded (s.ticket e) .expired) := by
  rw [(countedDown_ended h).2]
  refine (handWaits_get (countedDown s) .expired _ p).trans ?_
  rw [expired_countedDown, List.filter_map, List.map_map, List.filter_filter]
  rfl

/-- Each expired entry has its droppable WAIT_END record, in queue order (R79). -/
theorem windowEnded_journal (h : s.QueueBounded) :
    (windowEnded s).journal = (s.grant.queue.filter fun e => decide (e.remaining ≤ 1)).foldl
      (fun j e => j.writeDroppable s.time.clock
        (RecordBody.plain .waitEnd e.port (s.ticket e) e.tag (requestCode e.bundle e.lines) e.charges)) s.journal := by
  obtain ⟨hended, heq⟩ := countedDown_ended h
  rw [heq]
  refine hended.journal.trans ?_
  rw [expired_countedDown, List.foldl_map]
  rfl

/-- Besides the Grant Engine, the ports and the Journal, the count of window ends owed alone changes. -/
theorem windowEnded_frame (h : s.QueueBounded) :
    (windowEnded s).due = { s.due with grant := s.due.grant - 1 } ∧
    { windowEnded s with grant := s.grant, ports := s.ports, journal := s.journal, due := s.due } = s := by
  obtain ⟨hended, heq⟩ := countedDown_ended h
  have hframe := congrArg
    (fun x : State => { x with grant := s.grant, ports := s.ports, journal := s.journal, due := s.due }) hended.frame
  rw [heq]
  exact ⟨congrArg State.due hended.frame, hframe⟩

/-! ### The two rows (R78; log 6) -/

theorem exec_grantEngineWindowEnd (hrun : s.running = true) :
    exec .grantEngineWindowEnd s = .next (if 0 < s.due.grant then s.grantTakes else s) := by
  show whenRunning s _ = _
  rw [whenRunning, if_pos hrun]

theorem exec_waitExpiry (hrun : s.running = true) (n : Nat) :
    exec (.waitExpiry n) s =
      .next (if decide (0 < s.due.grant) && s.expiresNext n then s.grantTakes else s) := by
  show whenRunning s _ = _
  rw [whenRunning, if_pos hrun]

/-- Settles O39. -/
theorem grantEngineWindowEndExpiresWaits : Obligations.GrantEngineWindowEndExpiresWaits := by
  refine fun s hrun hq => ⟨fun hdue => ⟨?_, fun n => ?_⟩, fun hdue => ⟨windowEnded s, ?_, fun e he hrem => ?_,
    windowEnded_queue hq, ?_, windowEnded_waitGeneration hq, fun k hk => ?_, fun k v hk => ?_, windowEnded_ports hq,
    windowEnded_journal hq, windowEnded_frame hq⟩⟩
  · rw [exec_grantEngineWindowEnd hrun, if_neg (by omega)]
  · rw [exec_waitExpiry hrun, hdue]; rfl
  · rw [exec_grantEngineWindowEnd hrun, if_pos hdue, grantTakes_eq]
  · have hexpires : s.expiresNext e.slot = true := by
      rw [State.expiresNext, waiting_slot hq.1 he]; exact decide_eq_true hrem
    rw [exec_waitExpiry hrun, hexpires, decide_eq_true hdue, grantTakes_eq]
    rfl
  · rw [(countedDown_ended hq).2]; exact (countedDown_ended hq).1.table
  · rw [windowEnded_pool hq, PoolState.applyPending, hk]
  · rw [windowEnded_pool hq, PoolState.applyPending, hk]

end Sys2Proof.Machine.WaitQueue
end

section
/-! SUPPORT. A port reset (R83, R155, R186): the order of its parts, and the staging command that it finishes first
(O7). -/

namespace Sys2Proof.Machine.WaitQueue

open Charges

/-! ### A pass and the stager -/

/-- A queue pass neither reads nor changes the stager. -/
theorem passOver_withStager (g : Stager) (es : List WaitEntry) :
    ∀ (s : State) (b : Quad Bool), ((s.withStager g).passOver b es).state = (s.passOver b es).state.withStager g := by
  induction es with
  | nil => exact fun s b => rfl
  | cons e es ih =>
    intro s b
    have hf' : (s.withStager g).recheckFails e = s.recheckFails e := rfl
    have hr' : (s.withStager g).entryFailure e = s.entryFailure e := rfl
    have hn' : (s.withStager g).freeSlot = s.freeSlot := rfl
    cases hb : anyBlocked b e.charges with
    | true => rw [passOver_skips hb, passOver_skips hb, ih]
    | false =>
      cases hf : s.recheckFails e with
      | true => rw [passOver_fails hb hf, passOver_fails hb (hf'.trans hf)]; exact ih (s.endWait (some .failed) e) b
      | false =>
        cases hr : s.entryFailure e with
        | some r =>
          rw [passOver_keeps hb hf hr, passOver_keeps hb (hf'.trans hf) (hr'.trans hr)]
          exact ih (s.updateEntry e.slot _) _
        | none =>
          cases hn : s.freeSlot with
          | none =>
            rw [passOver_full hb hf hr hn, passOver_full hb (hf'.trans hf) (hr'.trans hr) (hn'.trans hn)]; rfl
          | some n =>
            have hgrant : (s.withStager g).grantWaiting n e = (s.grantWaiting n e).withStager g := by
              unfold State.grantWaiting State.grantInto
              cases hm : (s.orderOf e).metered <;>
                simp only [hm, show ((s.withStager g).orderOf e).metered = _ from hm] <;> rfl
            rw [passOver_fits hb hf hr hn, passOver_fits hb (hf'.trans hf) (hr'.trans hr) (hn'.trans hn), hgrant,
              apply_ite PassResult.state, apply_ite PassResult.state, ih, ih, apply_ite (State.withStager · g)]
            rfl

theorem queuePass_withStager (s : State) (g : Stager) : (s.withStager g).queuePass = s.queuePass.withStager g :=
  passOver_withStager g s.grant.queue s _

/-- The stager after the reset of port `p` (R155). -/
def abandoned (g : Stager) (p : Port) : Stager := if g.port = some p ∧ g.open_ = true then Stager.initial else g

theorem abandonStaging_eq (s : State) (p : Port) : s.abandonStaging p = s.withStager (abandoned s.stager p) := by
  unfold State.abandonStaging abandoned
  split <;> rfl

theorem abandoned_eq (g : Stager) (p : Port) :
    abandoned g p = if g.port = some p ∧ (g.state = .opened ∨ g.state = .complete) then
      { state := .idle, port := none, area := [], summary := none, timer := 0 } else g := by
  simp only [abandoned, Stager.open_, Bool.or_eq_true, beq_iff_eq]
  rfl

/-- The Grant Engine's part and the Image Stager's part of a port reset: the pass may come last (R83, R155). -/
theorem dropEntries_abandonStaging (s : State) (p : Port) :
    (s.dropEntries p).abandonStaging p =
      if (s.entriesOf p).any (fun e => e.blocking) then
        ((s.endWaits none (s.entriesOf p)).withStager (abandoned s.stager p)).queuePass
      else (s.endWaits none (s.entriesOf p)).withStager (abandoned s.stager p) := by
  unfold State.dropEntries
  rw [abandonStaging_eq]
  dsimp only
  split
  · rw [State.queuePass_stager, State.endWaits_stager, queuePass_withStager]
  · rw [State.endWaits_stager]

/-! ### A staging command and the port's reset (R155) -/

theorem isStaging_iff (c : Command) : isStaging c = true ↔ c ∈ stagingCommands := by
  cases c <;> decide

/-- The ports and the requests replaced. -/
def withFront (s : State) (ports : Quad PortIf) (requests : List Request) : State :=
  { s with ports := ports, requests := requests }

/-- The ports and the requests replaced in what a work gives. -/
def onFront (ports : Quad PortIf) (requests : List Request) (x : State × Reply) : State × Reply :=
  (withFront x.1 ports requests, x.2)

section

variable {ports : Quad PortIf} {requests : List Request} {r : Request} {b : Bool}

theorem noteStaging_withFront (s : State) (p : Port) :
    (withFront s ports requests).noteStaging p = withFront (s.noteStaging p) ports requests :=
  (apply_ite (withFront · ports requests) (s.stager.port = some p) (s.withStager { s.stager with timer := 0 }) s).symm

theorem takeActivation_withFront (s : State) :
    (withFront s ports requests).takeActivation = withFront s.takeActivation ports requests := by
  simp only [State.takeActivation, State.askImageWrite, State.withStager_store, show
    (withFront s ports requests).store = s.store from rfl]
  cases s.store.write <;> rfl

/-- The tests before a staging command read of its port the class alone (R142). -/
theorem staging_withFront {s : State} {stagerOnly : Bool} {own own' : State → State × Reply}
    (hbasis : (withFront s ports requests).basis { r with current := b } = s.basis r)
    (hown : ∀ t, own' (withFront t ports requests) = onFront ports requests (own t)) :
    staging stagerOnly { r with current := b } (withFront s ports requests) own' =
      onFront ports requests (staging stagerOnly r s own) := by
  simp only [staging, needsAdmin, hbasis, noteStaging_withFront, hown, apply_ite (onFront ports requests)]
  rfl

theorem offerRecord_withFront (s : State) (payload : List Byte) :
    (withFront s ports requests).offerRecord payload = onFront ports requests (s.offerRecord payload) := by
  unfold State.offerRecord
  rw [show (withFront s ports requests).stager = s.stager from rfl]
  cases (parseRecord payload).filter (acceptsRecord s.stager.area) <;> rfl

theorem verifyStaging_withFront (s : State) (c : Catalogue) :
    (withFront s ports requests).verifyStaging c = onFront ports requests (s.verifyStaging c) := by
  unfold State.verifyStaging
  rw [show (withFront s ports requests).stager = s.stager from rfl]
  cases verifyFault s.stager.area c.activeIssue <;> rfl

/-- A staging command neither changes the ports or the requests, nor reads more of them than its port's class. -/
theorem stagingWork_withFront {s : State} (hc : isStaging r.command = true)
    (hclass : (ports.get r.port).effClass = (s.ports.get r.port).effClass) :
    workOf r.command { r with current := b } (withFront s ports requests) =
      onFront ports requests (workOf r.command r s) := by
  have hkept : outlasts r.command = false := by
    revert hc; cases r.command <;> decide
  have hcat (t : State) : ((withFront t ports requests).basis { r with current := b }).catalogue =
      (t.basis r).catalogue := by
    rw [t.basis_of_not_outlasts r hkept, State.basis_of_not_outlasts _ { r with current := b } hkept]; rfl
  have hbasis : (withFront s ports requests).basis { r with current := b } = s.basis r := by
    rw [s.basis_of_not_outlasts r hkept, State.basis_of_not_outlasts _ { r with current := b } hkept]
    exact congrArg (Basis.mk s.cat) hclass
  obtain ⟨port, c, payload, current, under⟩ := r
  cases c with
  | stageBegin =>
    simp only [workOf, stageBeginWork]
    refine staging_withFront hbasis fun t => ?_
    rw [apply_ite (onFront ports requests), apply_ite (onFront ports requests)]
    rfl
  | stageRecord =>
    simp only [workOf, stageRecordWork]
    refine staging_withFront hbasis fun t => ?_
    rw [apply_ite (onFront ports requests), offerRecord_withFront]
    rfl
  | stageFinish =>
    simp only [workOf, stageFinishWork]
    refine staging_withFront hbasis fun t => ?_
    rw [apply_ite (onFront ports requests), verifyStaging_withFront, hcat,
      show (withFront t ports requests).stager = t.stager from rfl]
    cases t.stager.summary <;> rfl
  | activate =>
    simp only [workOf, activateWork]
    refine staging_withFront hbasis fun t => ?_
    rw [takeActivation_withFront, show (withFront t ports requests).stager = t.stager from rfl]
    cases parseNumber 4 payload with
    | none => rfl
    | some issue =>
      cases t.stager.summary with
      | none => rfl
      | some x =>
        dsimp only
        rw [apply_ite (onFront ports requests)]
        rfl
  | stageAbort =>
    simp only [workOf, stageAbortWork]
    refine staging_withFront hbasis fun t => ?_
    rw [apply_ite (onFront ports requests)]
    rfl
  | _ => cases hc

end

/-- A request of a port that is reset, no longer current (R186). -/
def outdated (p : Port) (r : Request) : Request := if r.port = p then { r with current := false } else r

theorem outdated_frame (p : Port) (r : Request) : outdated p r = { r with current := (outdated p r).current } := by
  unfold outdated; split <;> rfl

theorem outdated_isFor (p q : Port) (c : Command) (r : Request) : (outdated p r).isFor c q = r.isFor c q := by
  rw [outdated_frame]; rfl

theorem clearPort_eq (s : State) (p : Port) :
    s.clearPort p = withFront s (s.ports.modify p PortIf.portReset) (s.requests.map (outdated p)) := rfl

theorem portReset_answer (q : PortIf) (x : Reply) : (q.answer x).portReset = q.portReset := by
  obtain ⟨_, h⟩ := q.answer_cases x
  rw [h]; rfl

/-- A response placed just before the reset of its port leaves no trace (R186). -/
theorem clearPort_respond (s : State) (r : Request) (x : Reply) :
    (s.respond r x).clearPort r.port = s.clearPort r.port := by
  rcases s.respond_cases r x with ⟨-, h⟩ | ⟨-, h⟩
  · rw [h, clearPort_eq, clearPort_eq, State.modifyPort_ports, modify_modify]
    simp only [portReset_answer]
    rfl
  · rw [h]

theorem stagingWork_ports (s : State) {r : Request} (hc : isStaging r.command = true) :
    (workOf r.command r s).1.ports = s.ports :=
  congrArg (fun x : State × Reply => x.1.ports)
    (stagingWork_withFront (s := s) (ports := s.ports) (requests := s.requests) (b := r.current) hc rfl)

/-- A staging command carried out after its port's reset leaves the same as before it (R155). -/
theorem carryOut_clearPort (s : State) {r : Request} (hc : isStaging r.command = true) :
    (s.clearPort r.port).carryOut r.command r.port { r with current := false } (workOf r.command) =
      (s.carryOut r.command r.port r (workOf r.command)).clearPort r.port := by
  have hclass : ((s.ports.modify r.port PortIf.portReset).get r.port).effClass = (s.ports.get r.port).effClass := by
    rw [Quad.get_modify_self]; rfl
  have hdrop : (s.clearPort r.port).dropRequest r.command r.port =
      withFront (s.dropRequest r.command r.port) (s.ports.modify r.port PortIf.portReset)
        ((s.requests.eraseP fun x => x.isFor r.command r.port).map (outdated r.port)) := by
    have herase : (s.requests.map (outdated r.port)).eraseP (fun x => x.isFor r.command r.port) =
        (s.requests.eraseP fun x => x.isFor r.command r.port).map (outdated r.port) := by
      rw [List.eraseP_map]
      simp only [Function.comp_def, outdated_isFor]
    rw [← herase]; rfl
  have hwork := stagingWork_withFront (b := false) (s := s.dropRequest r.command r.port)
    (requests := (s.requests.eraseP fun x => x.isFor r.command r.port).map (outdated r.port)) hc hclass
  unfold State.carryOut
  rw [hdrop, hwork, clearPort_respond, clearPort_eq, stagingWork_ports _ hc, (workOf_sameRun ..).requests]
  rfl

/-! ### The row (R83, R155, R186) -/

theorem exec_prstAssert {s : State} {p : Port} (hrun : s.running = true) (hp : (s.ports.get p).prst = false) :
    exec (.prstAssert p) s = .next (s.resetPort p) := by
  show Host.Outcome.next (if s.running && !(s.ports.get p).prst then _ else _) = _
  rw [hrun, hp]; rfl

theorem exec_prstAssert_again {s : State} {p : Port} (hp : (s.ports.get p).prst = true) :
    exec (.prstAssert p) s = .next s := by
  show Host.Outcome.next (if s.running && !(s.ports.get p).prst then _ else _) = _
  have hports : (s.ports.modify p fun q => { q with prst := true }) = s.ports := by
    refine Quad.ext_get fun q => ?_
    rw [Quad.get_modify]
    split
    · rename_i h; rw [h, ← hp]
    · rfl
  rw [hp, Bool.not_true, Bool.and_false, if_neg Bool.false_ne_true, State.modifyPort, hports]

theorem exec_commandRow (c : Command) (p : Port) (s : State) :
    exec (commandRow c p) s = serve c p s (workOf c) := by
  cases c <;> rfl

/-- With no staging command of the port passed on, the reset ends with the pass, where there is one (R83, R155). -/
theorem resetPort_eq {s : State} {p : Port} (h : ∀ r ∈ s.requests, r.port = p → r.command ∉ stagingCommands) :
    s.resetPort p =
      if s.grant.queue.any (fun e => e.port == p && e.blocking) then
        (((s.clearPort p).endWaits none (s.entriesOf p)).withStager (abandoned s.stager p)).queuePass
      else ((s.clearPort p).endWaits none (s.entriesOf p)).withStager (abandoned s.stager p) := by
  have hnone : (s.clearPort p).finishStaging p = s.clearPort p := by
    refine State.finishStaging_none _ p fun r hr hrp => ?_
    obtain ⟨x, hx, rfl⟩ := List.mem_map.mp (show r ∈ s.requests.map (outdated p) from hr)
    rw [outdated_frame] at hrp ⊢
    exact Bool.eq_false_iff.mpr fun hs => h x hx hrp ((isStaging_iff _).mp hs)
  rw [State.resetPort, hnone, dropEntries_abandonStaging, ← List.any_filter]
  rfl

/-- The staging command is carried out first, by the reset as by its own row (R155). -/
theorem resetPort_carryOut {s : State} {r : Request} {older younger : List Request}
    (hr : s.requests = older ++ r :: younger) (hc : isStaging r.command = true)
    (ho : ∀ x ∈ older, x.port = r.port → x.command ∉ stagingCommands) :
    s.resetPort r.port = (s.carryOut r.command r.port r (workOf r.command)).resetPort r.port := by
  have hrequests : (s.clearPort r.port).requests =
      older.map (outdated r.port) ++ { r with current := false } :: younger.map (outdated r.port) := by
    show s.requests.map (outdated r.port) = _
    rw [hr, List.map_append, List.map_cons, show outdated r.port r = _ from if_pos rfl]
  have hfinish := State.finish_oldest (s.clearPort r.port)
    (fun x => decide (x.port = r.port) && isStaging x.command) _ _ _ hrequests
    (fun x hx => by
      obtain ⟨y, hy, rfl⟩ := List.mem_map.mp hx
      rw [outdated_frame, Bool.and_eq_false_imp, decide_eq_true_eq]
      exact fun hyp => Bool.eq_false_iff.mpr fun hs => ho y hy hyp ((isStaging_iff _).mp hs))
    (fun x hx => by
      simp only [Request.isFor, Bool.and_eq_true, beq_iff_eq] at hx
      rw [hx.1, hx.2, hc, decide_eq_true rfl, Bool.and_true])
  unfold State.resetPort State.finishStaging
  rw [hfinish, carryOut_clearPort s hc]

theorem answer_prst (q : PortIf) (x : Reply) : (q.answer x).prst = q.prst := by
  obtain ⟨_, h⟩ := q.answer_cases x
  rw [h]

/-- A staging command carried out leaves the part running and its port's PRST as it was. -/
theorem carryOut_staging_frame (s : State) {r : Request} (hc : isStaging r.command = true) :
    (s.carryOut r.command r.port r (workOf r.command)).running = s.running ∧
    ((s.carryOut r.command r.port r (workOf r.command)).ports.get r.port).prst = (s.ports.get r.port).prst := by
  have hrun := s.carryOut_sameRun r.command r.port r
  refine ⟨by rw [State.running, hrun.powered, hrun.resetPin]; rfl, ?_⟩
  have hports := stagingWork_ports (s.dropRequest r.command r.port) hc
  unfold State.carryOut
  dsimp only
  rcases State.respond_cases (workOf r.command r (s.dropRequest r.command r.port)).1 r
    (workOf r.command r (s.dropRequest r.command r.port)).2 with ⟨-, h⟩ | ⟨-, h⟩
  · rw [h, State.modifyPort_ports, Quad.get_modify_self, answer_prst, hports]; rfl
  · rw [h, hports]; rfl

theorem nextRequest_of_oldest {s : State} {r : Request} {older younger : List Request}
    (hr : s.requests = older ++ r :: younger) (ho : ∀ x ∈ older, x.isFor r.command r.port = false) :
    s.nextRequest r.command r.port = some r := by
  have hnone : older.find? (fun x => x.isFor r.command r.port) = none :=
    List.find?_eq_none.mpr fun x hx => by rw [ho x hx]; exact Bool.false_ne_true
  rw [State.nextRequest, hr, List.find?_append, hnone, Option.none_or, List.find?_cons_of_pos]
  simp [Request.isFor]

/-- Settles O7. -/
theorem portResetClearsPort : Obligations.PortResetClearsPort := by
  refine ⟨fun s p hrun hp hq hnone => ?_, fun s u p older younger r hrun hp hr hrp hc ho hu => ?_,
    fun s p _ hp => exec_prstAssert_again hp⟩
  · obtain ⟨hnodup, hslots, hgens, -, -⟩ := hq
    have hended := ended_endWaits (s.clearPort p) (s.entriesOf p) (hnodup.sublist (List.filter_sublist.map _))
      fun e he => hgens.symm ▸ hslots e (List.mem_of_mem_filter he)
    refine ⟨_, (exec_prstAssert hrun hp).trans (congrArg _ (resetPort_eq hnone)), congrArg State.ports hended.frame,
      congrArg State.requests hended.frame, hended.queue.trans (filter_of_slots hnodup _), hended.table, hended.pools,
      fun n => ?_, hended.journal, abandoned_eq s.stager p, ?_⟩
    · rw [← List.any_filter]
      exact hended.waitGeneration n
    · exact congrArg (fun x : State => { x with
        ports := s.ports, requests := s.requests, grant := s.grant, journal := s.journal
        stager := s.stager }) hended.frame
  · subst hrp
    have hc := (isStaging_iff _).mpr hc
    have hnext := nextRequest_of_oldest hr fun x hx => Bool.eq_false_iff.mpr fun hf => by
      simp only [Request.isFor, Bool.and_eq_true, beq_iff_eq] at hf
      exact ho x hx hf.2 (hf.1 ▸ (isStaging_iff _).mp hc)
    rw [exec_commandRow, serve_eq _ _ _ _ r hrun hnext] at hu
    obtain rfl : s.carryOut r.command r.port r (workOf r.command) = u := Host.Outcome.next.inj hu
    obtain ⟨hrun', hprst⟩ := carryOut_staging_frame s hc
    rw [exec_prstAssert hrun hp, exec_prstAssert (hrun'.trans hrun) (hprst.trans hp), resetPort_carryOut hr hc ho]

end Sys2Proof.Machine.WaitQueue
end

section
/-! SUPPORT. What a second tick does to the Timebase, the clock's followers and the staging, each said once (R87, R88,
R91, R102, R103, R156; O35), and the events of pins and WINDOW CLOSE (R90, R93, R94, R186, R191; O8, O34). -/

namespace Sys2Proof.Machine.Timekeeping

open Charges

/-! ### Window ends (R90, R91) -/

/-- The next second tick ends the window (R91): in AUTO it raises the window timer to the window length. -/
abbrev WindowCloses (t : Timebase) : Prop :=
  t.mode = .auto ∧ min Config.maxWindowTimer (t.windowTimer + 1) = t.length

/-- The window timer after a second tick (R91). -/
def tickedTimer (t : Timebase) : Nat :=
  if WindowCloses t then 0 else min Config.maxWindowTimer (t.windowTimer + 1)

/-- One window end more for each receiver (R90). -/
def oneMore (d : WindowEnds) : WindowEnds :=
  { sweep := d.sweep + 1, grant := d.grant + 1, demand := d.demand.map (· + 1), port := d.port.map (· + 1) }

/-- The window ends still to be taken after a second tick (R90, R91). -/
def tickedDue (s : State) : WindowEnds := if WindowCloses s.time then oneMore s.due else s.due

theorem produceWindowEnd_eq (s : State) :
    s.produceWindowEnd = { s with time := { s.time with windowTimer := 0 }, due := oneMore s.due } := rfl

/-- The window timer's count of a tick touches the window timer and the window ends alone. -/
theorem countWindow_eq (s : State) :
    s.countWindow = { s with
      time := { s.time with windowTimer := tickedTimer s.time }, due := tickedDue s } := by
  unfold tickedTimer tickedDue
  obtain ⟨hmode, htimer, h⟩ | ⟨hnot, h⟩ := s.countWindow_cases
  · rw [h, if_pos ⟨hmode, htimer⟩, if_pos ⟨hmode, htimer⟩, produceWindowEnd_eq]
  · rw [h, if_neg hnot, if_neg hnot]

/-! ### The term clock (R97, R102, R103) -/

/-- The TERM notices of a change, from the slots before it and the slots re-evaluated, are one for each slot that enters
GRACE or LAPSED (R102). -/
theorem termNotices_atClock (s : State) (n : Nat) :
    termNotices s.cat.slots (s.cat.atClock n).slots = s.termsRaised n := by
  unfold termNotices State.termsRaised Catalogue.atClock
  dsimp only
  induction s.cat.slots with
  | nil => rfl
  | cons sl sls ih =>
    rw [List.map_cons, List.zip_cons_cons, List.filterMap_cons, List.filterMap_cons, ih]
    cases hf : sl.feature <;> simp [FeatureSlot.atClock, hf]

theorem askSave_eq (s : State) : s.askSave = { s with store := s.askSave.store } := by
  rcases s.askSave_cases with ⟨-, e⟩ | ⟨-, e⟩ <;> rw [e]
  rfl

/-- A change of the clock sets the clock alone in the Timebase. -/
theorem changeClock_time (s : State) (n : Nat) : (s.changeClock n).time = { s.time with clock := n } := by
  obtain ⟨h, e⟩ | ⟨-, u, hu, e, e'⟩ := s.changeClock_cases n
  · rw [e, h]
  · by_cases hd : n / 60 = s.time.clock / 60
    · rw [e hd, hu]
    · rw [e' hd, askSave_eq, hu]

/-- A change of the clock touches neither the Demand Watch units nor the window ends nor the staging. -/
theorem changeClock_frame (s : State) (n : Nat) :
    (s.changeClock n).watches = s.watches ∧ (s.changeClock n).due = s.due ∧
    (s.changeClock n).stager = s.stager := by
  obtain ⟨-, e⟩ | ⟨-, u, hu, e, e'⟩ := s.changeClock_cases n
  · rw [e]; exact ⟨rfl, rfl, rfl⟩
  · by_cases hd : n / 60 = s.time.clock / 60
    · rw [e hd, hu]; exact ⟨rfl, rfl, rfl⟩
    · rw [e' hd, askSave_eq, hu]; exact ⟨rfl, rfl, rfl⟩

/-- What follows a change of the clock (R15, R102, R103): the stored term states, TERM notices at every port, and a save
where the hour changes. -/
theorem changeClock_follows {s : State} {n : Nat} (hn : n ≠ s.time.clock) :
    (s.changeClock n).ports = s.ports.map (fun q => q.handAll (s.termsRaised n)) ∧
    (s.changeClock n).cat = s.cat.atClock n ∧
    (n / 60 = s.time.clock / 60 → (s.changeClock n).store = s.store) ∧
    (n / 60 ≠ s.time.clock / 60 → s.store.write = .idle → (s.changeClock n).store = { s.store with
      saveWaiting := false
      write := .saving { clock := n, meters := s.watches.map fun x => x.meter, sequence := s.journal.nextSeq } }) ∧
    (n / 60 ≠ s.time.clock / 60 → s.store.write ≠ .idle →
      (s.changeClock n).store = { s.store with saveWaiting := true }) := by
  obtain ⟨h, -⟩ | ⟨-, u, hu, e, e'⟩ := s.changeClock_cases n
  · exact absurd h hn
  rw [termNotices_atClock] at hu
  have hstore : u.store = s.store := by rw [hu]
  by_cases hd : n / 60 = s.time.clock / 60
  · rw [e hd]
    exact ⟨by rw [hu], by rw [hu], fun _ => hstore, fun h => absurd hd h, fun h => absurd hd h⟩
  · rw [e' hd]
    refine ⟨by rw [askSave_eq, hu], by rw [askSave_eq, hu], fun h => absurd h hd, fun _ hw => ?_, fun _ hw => ?_⟩
    all_goals obtain ⟨hi, h⟩ | ⟨hi, h⟩ := u.askSave_cases
    · rw [h, hu]; rfl
    · exact absurd (hstore ▸ hw) hi
    · exact absurd (hstore ▸ hi) hw
    · rw [h, hu]

/-! ### Second ticks (R87, R88, R156) -/

theorem countMinute_counts {s : State} (h : s.time.minuteCount + 1 < Config.minuteSeconds) :
    s.countMinute = { s with time := { s.time with minuteCount := s.time.minuteCount + 1 } } := if_pos h

theorem countMinute_advances {s : State} (h : ¬ s.time.minuteCount + 1 < Config.minuteSeconds) :
    s.countMinute = ({ s with time := { s.time with minuteCount := 0 } } : State).changeClock
      (min Config.maxWord (s.time.clock + 1)) := if_neg h

/-- The stager after a second tick (R156). -/
def tickedStager (g : Stager) : Stager :=
  if g.state = .opened ∨ g.state = .complete then
    if g.timer < 599 then { g with timer := g.timer + 1 } else Stager.initial
  else g

theorem countStaging_eq (s : State) : s.countStaging = { s with stager := tickedStager s.stager } := by
  have hopen : s.stager.open_ = true ↔ s.stager.state = .opened ∨ s.stager.state = .complete := by
    simp [Stager.open_]
  unfold tickedStager
  obtain ⟨hc, e⟩ | ⟨hc, ht, e⟩ | ⟨hc, ht, e⟩ := s.countStaging_cases
  · rw [if_neg (by simp [← hopen, hc]), e]
  · rw [if_pos (hopen.mp hc), if_pos (Nat.lt_of_succ_lt_succ ht), e]
  · rw [if_pos (hopen.mp hc), if_neg (Nat.not_lt.mpr (Nat.le_of_succ_le_succ ht)), e]

/-- The state after the window timer has counted a tick whose edge wrapped the prescaler. -/
def windowCounted (s : State) : State := ({ s with time := { s.time with prescaler := 0 } } : State).countWindow

theorem windowCounted_eq (s : State) : windowCounted s = { s with
    time := { s.time with prescaler := 0, windowTimer := tickedTimer s.time }
    due := tickedDue s } := countWindow_eq _

theorem tick_eq (s : State) : s.tick =
    { (windowCounted s).countMinute with stager := tickedStager (windowCounted s).countMinute.stager } :=
  countStaging_eq _

/-- A second tick that does not wrap the minute count (R88). -/
theorem tick_within_minute {s : State} (h : s.time.minuteCount + 1 < Config.minuteSeconds) : s.tick = { s with
    time := { s.time with
      prescaler := 0
      windowTimer := tickedTimer s.time
      minuteCount := s.time.minuteCount + 1 }
    due := tickedDue s
    stager := tickedStager s.stager } := by
  rw [tick_eq, countMinute_counts (by rw [windowCounted_eq]; exact h), windowCounted_eq]

/-- The state whose clock the tick that wraps the minute count advances (R88). -/
def minuteWrapped (s : State) : State := { s with
    time := { s.time with
      prescaler := 0
      windowTimer := tickedTimer s.time
      minuteCount := 0 }
    due := tickedDue s }

/-- A second tick that wraps the minute count (R88): the clock rises by one minute, saturating (R97). -/
theorem tick_at_minute {s : State} (h : ¬ s.time.minuteCount + 1 < Config.minuteSeconds) : s.tick =
    { (minuteWrapped s).changeClock (min Config.maxWord (s.time.clock + 1)) with
      stager := tickedStager s.stager } := by
  have hadvance : (windowCounted s).countMinute =
      (minuteWrapped s).changeClock (min Config.maxWord (s.time.clock + 1)) := by
    rw [windowCounted_eq]
    exact countMinute_advances h
  rw [tick_eq, hadvance, (changeClock_frame _ _).2.2]
  rfl

/-- The Timebase after a second tick. -/
theorem tick_time (s : State) : s.tick.time = { s.time with
    prescaler := 0
    windowTimer := tickedTimer s.time
    minuteCount := if s.time.minuteCount + 1 < Config.minuteSeconds then s.time.minuteCount + 1 else 0
    clock := if s.time.minuteCount + 1 < Config.minuteSeconds then s.time.clock
      else min Config.maxWord (s.time.clock + 1) } := by
  by_cases h : s.time.minuteCount + 1 < Config.minuteSeconds
  · rw [tick_within_minute h, if_pos h, if_pos h]
  · rw [tick_at_minute h, if_neg h, if_neg h]
    exact changeClock_time _ _

theorem tick_due (s : State) : s.tick.due = tickedDue s := by
  by_cases h : s.time.minuteCount + 1 < Config.minuteSeconds
  · rw [tick_within_minute h]
  · rw [tick_at_minute h]
    exact (changeClock_frame _ _).2.1

theorem tick_stager (s : State) : s.tick.stager = tickedStager s.stager := by
  by_cases h : s.time.minuteCount + 1 < Config.minuteSeconds
  · rw [tick_within_minute h]
  · rw [tick_at_minute h]

/-! ### The rows of a second tick (R87, R88, R91, R156) -/

theorem whenRunning_running {s : State} (h : s.running = true) (f : State → State) :
    whenRunning s f = .next (f s) := congrArg _ (if_pos h)

/-- A row that names an outcome of a second tick is the tick where that outcome comes (log 6). -/
theorem exec_tickRow {s : State} {i : Instr} (hrun : s.running = true)
    (hi : i = .secondTick ∨ i = .minuteAdvance ∧ s.time.minuteCount = 59 ∨
      i = .windowTimerExpiry ∧ s.time.mode = .auto ∧ min 65535 (s.time.windowTimer + 1) = s.time.length ∨
      i = .stagingTimeout ∧ (s.stager.state = .opened ∨ s.stager.state = .complete) ∧ s.stager.timer = 599) :
    exec i s = .next s.tick := by
  obtain rfl | ⟨rfl, hminute⟩ | ⟨rfl, hmode, htimer⟩ | ⟨rfl, hopen, htimer⟩ := hi
  · exact whenRunning_running hrun _
  · have hdue : s.minuteIsDue = true := by simp [State.minuteIsDue, hminute, Config.minuteSeconds]
    exact (whenRunning_running hrun _).trans (congrArg _ (if_pos hdue))
  · have hdue : s.windowIsDue = true := by simp [State.windowIsDue, hmode, Config.maxWindowTimer, htimer]
    exact (whenRunning_running hrun _).trans (congrArg _ (if_pos hdue))
  · have hdue : s.timeoutIsDue = true := by
      simp [State.timeoutIsDue, Stager.open_, hopen, htimer, Config.stagingSeconds]
    exact (whenRunning_running hrun _).trans (congrArg _ (if_pos hdue))

/-- With no command waiting a step is one TREF edge of a running part (R87, log 1). -/
theorem step_edge {s : State} (hp : s.pending = []) (hrun : s.running = true) : step s = .next s.trefEdge := by
  unfold step State.idle
  rw [hp, if_pos hrun]

/-- Settles O35: the four rows are one second tick where their outcome comes, and an idle step is a TREF edge. -/
theorem secondTickCounts : Obligations.SecondTickCounts := by
  refine ⟨fun s i hrun hi hcount => ⟨s.tick, exec_tickRow hrun hi, ?_, fun hw => ?_, fun hw => ?_, fun hm => ?_,
    fun hm => ?_, tick_stager s, s.tick_frame, ?_⟩, fun s hp => ⟨fun hrun => ?_, fun hrun hedge => ?_,
    fun hrun hedge => ?_⟩⟩
  · rw [tick_time]
  · rw [tick_time, tick_due]
    exact ⟨if_pos hw, if_pos hw⟩
  · rw [tick_time, tick_due]
    exact ⟨if_neg hw, if_neg hw⟩
  · rw [tick_within_minute (show _ < 60 by omega)]
    exact ⟨rfl, rfl, rfl, rfl, rfl⟩
  · have hwrap : ¬ s.time.minuteCount + 1 < Config.minuteSeconds := by rw [hm]; decide
    have hclock : s.tick.time.minuteCount = 0 ∧ s.tick.time.clock = min 4294967295 (s.time.clock + 1) := by
      rw [tick_time]; exact ⟨if_neg hwrap, if_neg hwrap⟩
    refine ⟨hclock.1, hclock.2, fun hlast => ?_, fun hless => ?_⟩
    · rw [tick_at_minute hwrap, State.changeClock, if_pos (by show min 4294967295 _ = s.time.clock; omega)]
      exact ⟨rfl, rfl, rfl⟩
    · have hnext : min Config.maxWord (s.time.clock + 1) = s.time.clock + 1 := Nat.min_eq_right hless
      rw [tick_at_minute hwrap, hnext]
      have hne : s.time.clock + 1 ≠ (minuteWrapped s).time.clock := Nat.succ_ne_self _
      exact changeClock_follows hne
  · rw [tick_time]
    exact ⟨rfl, rfl, rfl⟩
  · unfold step State.idle
    rw [hp, hrun]
    rfl
  · rw [step_edge hp hrun]
    exact congrArg _ (if_pos hedge)
  · have htick : step s = .next s.tick := (step_edge hp hrun).trans (congrArg _ (if_neg (by rw [hedge]; decide)))
    exact ⟨htick.trans (exec_tickRow hrun (.inl rfl)).symm, s.tick, htick, by rw [tick_time]⟩

/-! ### Pin events (R94, R186, R191) -/

theorem wclkRises_spent {s : State} (h : s.time.wclk = .spent) : s.wclkRises = s := by
  unfold State.wclkRises; rw [h]

theorem wclkRises_auto {s : State} (h : s.time.wclk = .armed) (hm : s.time.mode = .auto) :
    s.wclkRises = s.withWclk .spent := by
  unfold State.wclkRises; rw [h, hm]

theorem wclkRises_strobe {s : State} (h : s.time.wclk = .armed) (hm : s.time.mode = .strobe) :
    s.wclkRises = (s.withWclk .spent).produceWindowEnd := by
  unfold State.wclkRises; rw [h, hm]

/-- Settles O8: a rising WCLK edge does nothing when SPENT, and otherwise what the window mode says. -/
theorem pinEventsActAlone : Obligations.PinEventsActAlone := by
  refine ⟨fun _ _ => rfl,
    fun s p hrun => whenRunning_running hrun fun s => s.modifyPort p fun q => { q with pulse := false },
    fun s hrun => whenRunning_running hrun fun s => s.withWclk .armed,
    fun s hrun hw => ?_, fun s hrun hw hm => ?_, fun s hrun hw hm => ?_⟩
  all_goals refine (whenRunning_running hrun State.wclkRises).trans (congrArg _ ?_)
  · exact wclkRises_spent hw
  · exact wclkRises_auto hw hm
  · exact wclkRises_strobe hw hm

/-! ### WINDOW CLOSE (R90, R93) -/

theorem windowCloseWork_admin {r : Request} {s : State} (h : (s.basis r).privileges.admin = true) :
    windowCloseWork r s =
      if r.payload ≠ [] then (s, .bare .badRequest)
      else (s.produceWindowEnd,
        .ok (b1 s.time.mode.code ++ b2 s.time.length ++ b2 s.time.windowTimer ++ b4 s.time.clock)) :=
  needsAdmin_admin h

/-- Settles O34: with ADMIN the payload alone decides. -/
theorem windowCloseEndsWindow : Obligations.WindowCloseEndsWindow := by
  intro s r hr hc hadmin
  have hwork := windowCloseWork_admin (s := s.dropRequest .windowClose r.port) hadmin
  refine ⟨fun hp => serve_answers hr hc ?_, fun hp => serve_gives hr hc ?_⟩
  · rw [hwork, if_pos hp]
  · rw [hwork, if_neg (not_not_intro hp)]
    rfl

end Sys2Proof.Machine.Timekeeping
end

section
/-! SUPPORT. The start of a walk: its limit is the highest HELD slot (R109 to R111; O37). -/

namespace Sys2Proof.Machine.Timekeeping

open Charges

/-! ### The highest HELD slot (R111) -/

theorem mem_heldSlots {s : State} {n : Nat} : n ∈ s.slotsWhere (fun _ => true) ↔ (s.checkoutAt n).isSome = true := by
  rw [mem_slotsWhere, heldWith_iff, Option.isSome_iff_exists]
  simp

theorem highestHeld_none {s : State} (h : ∀ n, s.checkoutAt n = none) : s.highestHeld = none := by
  have hnil : s.slotsWhere (fun _ => true) = [] :=
    List.eq_nil_iff_forall_not_mem.mpr fun n hn => by simpa [h n] using mem_heldSlots.mp hn
  rw [State.highestHeld, hnil, List.getLast?_nil]

/-- The HELD slots stand in slot order. -/
theorem heldSlots_sorted (s : State) : (s.slotsWhere fun _ => true).Pairwise (· < ·) :=
  List.pairwise_lt_range.filter _

/-- The last of an increasing list is the one that none exceeds. -/
theorem getLast?_of_greatest {l : List Nat} (hl : l.Pairwise (· < ·)) {m : Nat} (hm : m ∈ l) (h : ∀ n ∈ l, n ≤ m) :
    l.getLast? = some m := by
  obtain ⟨front, rear, rfl⟩ := List.append_of_mem hm
  have hrear : rear = [] := List.eq_nil_iff_forall_not_mem.mpr fun n hn => by
    have hle : n ≤ m := h n (by simp [hn])
    have hlt : m < n := List.rel_of_pairwise_cons (List.pairwise_append.mp hl).2.1 hn
    omega
  rw [hrear, List.getLast?_concat]

theorem highestHeld_some {s : State} {m : Nat} (hm : (s.checkoutAt m).isSome = true)
    (h : ∀ n, m < n → s.checkoutAt n = none) : s.highestHeld = some m :=
  getLast?_of_greatest (heldSlots_sorted s) (mem_heldSlots.mpr hm) fun n hn => by
    by_contra hlt
    simpa [h n (by omega)] using mem_heldSlots.mp hn

/-! ### The Sweep Unit takes a window end (R110, R111) -/

theorem exec_sweepWindowEnd {s : State} (hrun : s.running = true) :
    exec .sweepWindowEnd s = .next (if 0 < s.due.sweep then s.sweepTakes else s) := whenRunning_running hrun _

theorem sweepTakes_idle {s : State} (h : s.sweep.state = .idle) :
    s.sweepTakes = (s.withDue { s.due with sweep := s.due.sweep - 1 }).startWalk := by
  unfold State.sweepTakes; rw [h]

theorem sweepTakes_sweeping {s : State} (h : s.sweep.state = .sweeping) :
    s.sweepTakes =
      (s.withDue { s.due with sweep := s.due.sweep - 1 }).withSweep { s.sweep with pendingEnd := true } := by
  unfold State.sweepTakes; rw [h]

theorem startWalk_none {s : State} (h : s.highestHeld = none) : s.startWalk = s.withSweep Sweep.initial := by
  unfold State.startWalk; rw [h]

theorem startWalk_some {s : State} {l : Nat} (h : s.highestHeld = some l) :
    s.startWalk = s.withSweep { state := .sweeping, position := 0, limit := some l
                                threshold := s.cat.reclaimThreshold, pendingEnd := false } := by
  unfold State.startWalk; rw [h]

/-- Settles O37, by the highest HELD slot where the Sweep Unit is idle. -/
theorem sweepWindowEndStartsWalk : Obligations.SweepWindowEndStartsWalk := by
  intro s hrun
  refine ⟨fun hdue => ?_, fun hdue hidle hfree => ?_, fun l hdue hidle hheld habove => ?_, fun hdue hwalk => ?_⟩
  all_goals rw [exec_sweepWindowEnd hrun]
  · rw [if_neg (by omega)]
  · have hnone := highestHeld_none (s := s.withDue { s.due with sweep := s.due.sweep - 1 }) hfree
    rw [if_pos hdue, sweepTakes_idle hidle, startWalk_none hnone]
    rfl
  · have hlimit := highestHeld_some (s := s.withDue { s.due with sweep := s.due.sweep - 1 }) hheld habove
    rw [if_pos hdue, sweepTakes_idle hidle, startWalk_some hlimit]
    rfl
  · rw [if_pos hdue, sweepTakes_sweeping hwalk]
    rfl

end Sys2Proof.Machine.Timekeeping
end

section
/-! SUPPORT. The term clock and the overdraft meters do not fall, but at power-on and loss of power (R97, R101, R130;
O36). -/

namespace Sys2Proof.Machine.Timekeeping

open Charges Checkouts

/-! ### Counts that do not fall -/

/-- A 32-bit count that becomes a 32-bit count no smaller. -/
def Rises (a b : Nat) : Prop := a ≤ Config.maxWord → a ≤ b ∧ b ≤ Config.maxWord

theorem Rises.refl (a : Nat) : Rises a a := fun h => ⟨le_rfl, h⟩

theorem Rises.trans {a b c : Nat} (h : Rises a b) (h' : Rises b c) : Rises a c := fun ha =>
  have hb := h ha
  have hc := h' hb.2
  ⟨hb.1.trans hc.1, hc.2⟩

/-- A count that goes up and saturates (R97, R129). -/
theorem Rises.saturating {a b : Nat} (h : a ≤ b) : Rises a (min Config.maxWord b) := fun ha =>
  ⟨le_min ha h, min_le_left _ _⟩

/-- In `t` the term clock and the meters have not fallen from `s`, and stay 32-bit counts (R97, R130). -/
structure Onward (s t : State) : Prop where
  clock : Rises s.time.clock t.time.clock
  meter : ∀ k, Rises (s.watches.get k).meter (t.watches.get k).meter

theorem Onward.refl (s : State) : Onward s s := ⟨.refl _, fun _ => .refl _⟩

theorem Onward.trans {s t u : State} (h : Onward s t) (h' : Onward t u) : Onward s u :=
  ⟨h.clock.trans h'.clock, fun k => (h.meter k).trans (h'.meter k)⟩

/-- With the Demand Watch units as they were, the clock alone is to be seen. -/
theorem Onward.of_clock {s t : State} (hc : Rises s.time.clock t.time.clock) (hw : t.watches = s.watches) :
    Onward s t := ⟨hc, fun k => by rw [hw]; exact .refl _⟩

/-- The clock and the Demand Watch units are as they were. -/
theorem Onward.of_same {s t : State} (hc : t.time.clock = s.time.clock) (hw : t.watches = s.watches) : Onward s t :=
  .of_clock (by rw [hc]; exact .refl _) hw

/-- The values a save would take are as they were (R101, R103). -/
theorem Onward.of_savedNow {s t : State} (h : t.savedNow = s.savedNow) : Onward s t where
  clock := by rw [show t.time.clock = s.time.clock from congrArg SavedValues.clock h]; exact .refl _
  meter k := by
    have hm : (t.watches.map fun w => w.meter).get k = (s.watches.map fun w => w.meter).get k :=
      congrArg (fun v => v.meters.get k) h
    rw [Quad.get_map, Quad.get_map] at hm
    rw [hm]
    exact .refl _

/-- A queue pass changes neither clock nor meters (R73 to R77). -/
theorem Onward.thenPass {s t : State} (h : Onward s t) : Onward s t.queuePass :=
  h.trans (.of_same (by simp) (by simp))

theorem Onward.thenNotify {s t : State} (h : Onward s t) (p : Port) (x : Notice) : Onward s (t.notify p x) :=
  h.trans (.of_same rfl rfl)

theorem Onward.thenEndWaits {s t : State} (h : Onward s t) (c : Option WaitCause) (es : List WaitEntry) :
    Onward s (t.endWaits c es) := h.trans (.of_same (by simp) (by simp))

/-! ### Operations shared by several commands -/

theorem respond_onward (s : State) (r : Request) (x : Reply) : Onward s (s.respond r x) := by
  rcases s.respond_cases r x with ⟨-, e⟩ | ⟨-, e⟩ <;> rw [e]
  · exact .of_same rfl rfl
  · exact .refl s

theorem release_onward (s : State) (n : Nat) (e : Checkout) (k : RecordKind) : Onward s (s.release n e k) :=
  .of_same (by simp) (by simp)

theorem releaseMany_onward (s : State) (slots : List Nat) (es : List WaitEntry) :
    Onward s (s.releaseMany slots es) := by
  have hslots : Onward s (slots.foldl (State.releaseSlot · .returned) s) :=
    List.foldlRecOn _ _ (.refl s) fun t ht n _ => ht.trans <| by
      unfold State.releaseSlot
      split
      · exact release_onward ..
      · exact .refl t
  have hends := hslots.thenEndWaits none es
  exact ite_keeps hends hends.thenPass

theorem abandonStaging_onward (s : State) (p : Port) : Onward s (s.abandonStaging p) :=
  ite_keeps (.of_same rfl rfl) (.refl s)

theorem askImageWrite_onward (s : State) : Onward s s.askImageWrite := by
  rcases s.askImageWrite_cases with ⟨-, e⟩ | ⟨-, e⟩ | ⟨-, e⟩ <;> rw [e] <;> exact .of_same rfl rfl

theorem takeActivation_onward (s : State) : Onward s s.takeActivation :=
  Onward.trans (t := s.withStager { s.stager with state := .writing, timer := 0 }) (.of_same rfl rfl)
    (askImageWrite_onward _)

theorem nextWrite_onward (s : State) : Onward s s.nextWrite := by
  rcases s.nextWrite_cases with ⟨-, e⟩ | ⟨-, -, e⟩ | ⟨-, -, e⟩ <;> rw [e] <;> exact .of_same rfl rfl

theorem changeClock_onward {s : State} {n : Nat} (h : Rises s.time.clock n) : Onward s (s.changeClock n) :=
  .of_clock (by rwa [s.changeClock_clock n]) (changeClock_frame s n).1

/-! ### The commands' works -/

theorem refuse_onward (s : State) (c : Catalogue) (kept : Bool) (g : GrantOrder) (timeout : Nat) (q : QueueReason) :
    Onward s (s.refuse c kept g timeout q).1 := by
  have hmeter (k : Pool) : ((s.handShortfalls c g).watches.get k).meter = (s.watches.get k).meter := by
    rw [State.handShortfalls, Quad.get_ofFn]
    dsimp only
    split <;> rfl
  have hs : Onward s (s.handShortfalls c g) := ⟨.refl _, fun k => by rw [hmeter]; exact .refl _⟩
  unfold State.refuse
  dsimp only
  split
  · split
    · split <;> exact hs.trans (.of_same rfl rfl)
    · exact hs.trans (.of_same rfl rfl)
  · exact hs.trans (.of_same rfl rfl)

theorem checkoutWork_onward (r : Request) (s : State) : Onward s (checkoutWork r s).1 := by
  refine needsCatalogue_keeps (.refl s) ?_
  split
  · exact .refl s
  · split
    · exact .refl s
    · split
      · exact .of_same rfl rfl
      · unfold State.judgeOrder
        split
        · exact refuse_onward ..
        · exact .of_same (congrArg _ (s.grantInto_time ..)) (s.grantInto_watches ..)

theorem returnWork_onward (r : Request) (s : State) : Onward s (returnWork r s).1 := by
  refine needsCatalogue_keeps (.refl s) ?_
  split
  · exact .refl s
  · split
    · exact .refl s
    · split
      · exact (release_onward ..).thenPass
      · split
        · exact ((release_onward ..).thenNotify ..).thenPass
        · exact .refl s

theorem returnTagWork_onward (r : Request) (s : State) : Onward s (returnTagWork r s).1 := by
  refine needsCatalogue_keeps (.refl s) ?_
  split
  · exact .refl s
  · exact releaseMany_onward ..

theorem releasePortWork_onward (r : Request) (s : State) : Onward s (releasePortWork r s).1 := by
  refine needsCatalogue_keeps (.refl s) ?_
  split
  · exact .refl s
  · exact (releaseMany_onward ..).trans (abandonStaging_onward ..)

theorem beatAll_onward (b : Basis) (kept : Bool) (p : Port) :
    ∀ (hs : List Nat) (s : State), Onward s (s.beatAll b kept p hs).1
  | [], s => .refl s
  | h :: hs, s => by
    refine Onward.trans (t := (s.beat b kept p h).1) ?_ (beatAll_onward b kept p hs _)
    unfold State.beat
    split
    · exact .refl s
    · split
      · exact .refl s
      · split
        · exact .refl s
        · exact .of_same rfl rfl

theorem heartbeatWork_onward (r : Request) (s : State) : Onward s (heartbeatWork r s).1 := by
  refine needsCatalogue_keeps (.refl s) ?_
  split
  · exact .refl s
  · exact beatAll_onward ..

theorem cancel_onward (s : State) (c : Option WaitCause) (e : WaitEntry) : Onward s (s.cancel c e).1 :=
  have hend : Onward s (s.endWait c e) := .of_same (by simp) (by simp)
  ite_keeps hend.thenPass hend

theorem cancelWaitWork_onward (r : Request) (s : State) : Onward s (cancelWaitWork r s).1 := by
  refine needsCatalogue_keeps (.refl s) ?_
  split
  · exact .refl s
  · split
    · exact .refl s
    · split
      · exact cancel_onward ..
      · split
        · exact cancel_onward ..
        · exact .refl s

/-- An assertion of a value not below the clock moves it forward, within 32 bits (R98). -/
theorem assertTime_onward (s : State) (p : Port) {v : Nat} (hv : ¬ v < s.time.clock) :
    Onward s (s.assertTime p v) := by
  have hreach : min v (assertReach s.time.clock) = min Config.maxWord (min v (s.time.clock + Config.assertLimit)) :=
    Nat.min_left_comm ..
  have hrises : Rises s.time.clock (min v (assertReach s.time.clock)) := by
    rw [hreach]
    exact .saturating (le_min (Nat.not_lt.mp hv) (Nat.le_add_right _ _))
  exact ite_keeps (.refl s) ((changeClock_onward hrises).trans (.of_same rfl rfl))

theorem timeAssertWork_onward (r : Request) (s : State) : Onward s (timeAssertWork r s).1 := by
  refine needsTime_keeps (.refl s) ?_
  split
  · exact .refl s
  · split
    · exact .refl s
    · exact assertTime_onward _ _ ‹_›

theorem windowCloseWork_onward (r : Request) (s : State) : Onward s (windowCloseWork r s).1 := by
  refine needsAdmin_keeps (.refl s) ?_
  split
  · exact .refl s
  · exact .of_same rfl rfl

theorem staging_onward {stagerOnly : Bool} {r : Request} {s : State} {own : State → State × Reply}
    (h : ∀ t, Onward t (own t).1) : Onward s (staging stagerOnly r s own).1 := by
  have hnote : Onward s (s.noteStaging r.port) := ite_keeps (.of_same rfl rfl) (.refl s)
  refine needsAdmin_keeps (.refl s) ?_
  dsimp only
  split
  · exact hnote
  · split
    · exact hnote
    · exact hnote.trans (h _)

theorem stageBeginWork_onward (r : Request) (s : State) : Onward s (stageBeginWork r s).1 := by
  refine staging_onward fun t => ?_
  split
  · exact .refl t
  · split
    · exact .of_same rfl rfl
    · exact .refl t

theorem stageRecordWork_onward (r : Request) (s : State) : Onward s (stageRecordWork r s).1 := by
  refine staging_onward fun t => ?_
  unfold State.offerRecord
  split
  · split
    · exact .of_same rfl rfl
    · exact .refl t
  · exact .refl t

theorem stageFinishWork_onward (r : Request) (s : State) : Onward s (stageFinishWork r s).1 := by
  refine staging_onward fun t => ?_
  unfold State.verifyStaging
  split
  · exact .refl t
  · split
    · exact .refl t
    · split <;> exact .of_same rfl rfl

theorem activateWork_onward (r : Request) (s : State) : Onward s (activateWork r s).1 := by
  refine staging_onward fun t => ?_
  split
  · exact .refl t
  · split
    · exact .refl t
    · split
      · exact .refl t
      · exact takeActivation_onward t

theorem stageAbortWork_onward (r : Request) (s : State) : Onward s (stageAbortWork r s).1 := by
  refine staging_onward fun t => ?_
  split
  · exact .refl t
  · exact .of_same rfl rfl

theorem policyStageWork_onward (r : Request) (s : State) : Onward s (policyStageWork r s).1 := by
  refine policyCommand_keeps (.refl s) ?_
  split
  · exact .refl s
  · exact .of_same rfl rfl

theorem policyApplyWork_onward (r : Request) (s : State) : Onward s (policyApplyWork r s).1 := by
  refine policyCommand_keeps (.refl s) ?_
  split
  · exact .refl s
  · exact .of_same (by simp) (by simp)

theorem setCeilingWork_onward (r : Request) (s : State) : Onward s (setCeilingWork r s).1 := by
  refine policyCommand_keeps (.refl s) ?_
  split
  · exact .refl s
  · refine ite_keeps (.of_same rfl rfl) ?_
    exact ite_keeps (Onward.thenPass (.of_same rfl rfl)) (.of_same rfl rfl)

theorem setShareWork_onward (r : Request) (s : State) : Onward s (setShareWork r s).1 := by
  refine policyCommand_keeps (.refl s) ?_
  split
  · exact .refl s
  · exact Onward.thenPass (.of_same rfl rfl)

theorem readNoticeWork_onward (r : Request) (s : State) : Onward s (readNoticeWork r s).1 := by
  unfold readNoticeWork
  split
  · exact .refl s
  · exact .of_same rfl rfl

theorem setNoticeWork_onward (r : Request) (s : State) : Onward s (setNoticeWork r s).1 := by
  unfold setNoticeWork
  split
  · exact .refl s
  · exact .of_same rfl rfl

/-- No command's work lowers a count. -/
theorem workOf_onward (c : Command) (r : Request) (s : State) : Onward s (workOf c r s).1 := by
  cases c with
  | checkout => exact checkoutWork_onward r s
  | returnCheckout => exact returnWork_onward r s
  | returnTag => exact returnTagWork_onward r s
  | releasePort => exact releasePortWork_onward r s
  | queryCheckout => exact queryCheckoutWork_keeps r (.refl s)
  | heartbeat => exact heartbeatWork_onward r s
  | cancelWait => exact cancelWaitWork_onward r s
  | queryWait => exact queryWaitWork_keeps r (.refl s)
  | queryFeature => exact queryFeatureWork_keeps r (.refl s)
  | queryPool => exact queryPoolWork_keeps r (.refl s)
  | timeAssert => exact timeAssertWork_onward r s
  | windowClose => exact windowCloseWork_onward r s
  | stageBegin => exact stageBeginWork_onward r s
  | stageRecord => exact stageRecordWork_onward r s
  | stageFinish => exact stageFinishWork_onward r s
  | activate => exact activateWork_onward r s
  | stageAbort => exact stageAbortWork_onward r s
  | policyStage => exact policyStageWork_onward r s
  | policyApply => exact policyApplyWork_onward r s
  | setCeiling => exact setCeilingWork_onward r s
  | setShare => exact setShareWork_onward r s
  | journalStatus => exact journalStatusWork_keeps r (.refl s)
  | readNotice => exact readNoticeWork_onward r s
  | setNotice => exact setNoticeWork_onward r s
  | identify => exact identifyWork_keeps r (.refl s)

theorem carryOut_onward (s : State) (c : Command) (p : Port) (r : Request) :
    Onward s (s.carryOut c p r (workOf c)) :=
  have hdrop : Onward s (s.dropRequest c p) := .of_same rfl rfl
  (hdrop.trans (workOf_onward c r _)).trans (respond_onward ..)

theorem finish_onward (s : State) (due : Request → Bool) : Onward s (s.finish due) :=
  State.finish_induct due (fun _ r _ hu => hu.trans (carryOut_onward _ _ _ r)) s (.refl s)

/-! ### Port events, second ticks and window ends -/

theorem endTransaction_onward (s : State) (p : Port) (bytes : List Byte) : Onward s (s.endTransaction p bytes) := by
  unfold State.endTransaction State.writeTransaction State.takeFrame
  dsimp only
  repeat' split
  all_goals exact .of_same rfl rfl

theorem resetPort_onward (s : State) (p : Port) : Onward s (s.resetPort p) := by
  have hfinish : Onward s ((s.clearPort p).finishStaging p) :=
    Onward.trans (t := s.clearPort p) (.of_same rfl rfl) (finish_onward _ _)
  have hends := hfinish.thenEndWaits none (((s.clearPort p).finishStaging p).entriesOf p)
  exact Onward.trans (t := ((s.clearPort p).finishStaging p).dropEntries p) (ite_keeps hends.thenPass hends)
    (abandonStaging_onward _ p)

/-- A second tick leaves the clock, or moves it on by one minute and no further than 32 bits (R88, R97). -/
theorem tick_onward (s : State) : Onward s s.tick := by
  have hwatches : s.tick.watches = s.watches := by have := congrArg State.watches s.tick_frame; exact this
  refine .of_clock ?_ hwatches
  rw [tick_time]
  dsimp only
  split
  · exact .refl _
  · exact .saturating (Nat.le_succ _)

theorem wclkRises_onward (s : State) : Onward s s.wclkRises := by
  unfold State.wclkRises
  split
  · exact .refl s
  · split <;> exact .of_same rfl rfl

theorem Onward.thenWalk {s t : State} (h : Onward s t) : Onward s t.startWalk := by
  unfold State.startWalk
  split <;> exact h.trans (.of_same rfl rfl)

theorem sweepTakes_onward (s : State) : Onward s s.sweepTakes := by
  unfold State.sweepTakes
  dsimp only
  split
  · exact Onward.thenWalk (.of_same rfl rfl)
  · exact .of_same rfl rfl

theorem visitSlot_onward (s : State) (n : Nat) : Onward s (s.visitSlot n) := by
  unfold State.visitSlot
  split
  · exact .refl s
  · exact ite_keeps ((release_onward ..).thenNotify ..).thenPass (.of_same rfl rfl)

theorem passSlot_onward (s : State) (n : Nat) : Onward s (s.passSlot n) := by
  unfold State.passSlot State.endWalk
  dsimp only
  split
  · exact ite_keeps (Onward.thenWalk (.of_same rfl rfl)) (.of_same rfl rfl)
  · exact .of_same rfl rfl

theorem grantTakes_onward (s : State) : Onward s s.grantTakes :=
  .of_same (by simp [State.grantTakes, State.grantWork]) (by simp [State.grantTakes, State.grantWork])

theorem withWatch_onward {s : State} {k : Pool} {w : Watch} (h : Rises (s.watches.get k).meter w.meter) :
    Onward s (s.withWatch k w) where
  clock := .refl _
  meter j := by
    rw [State.withWatch_watches, Quad.get_set]
    split
    · subst j; exact h
    · exact .refl _

theorem judged_meter (s : State) (k : Pool) (q : PoolRec) : Rises (s.watches.get k).meter (judged s k q).meter :=
  .saturating (Nat.le_add_right _ _)

theorem enterShort_onward {s : State} {k : Pool} {w : Watch} (h : Rises (s.watches.get k).meter w.meter)
    (allowance : Nat) : Onward s (s.enterShort k w allowance) := by
  have hwatch : Onward s (s.withWatch k { w with watch := .short }) := withWatch_onward h
  have hshort : Onward s ((s.withWatch k { w with watch := .short }).notifyAll [.poolShort k]) :=
    hwatch.trans (.of_same rfl rfl)
  refine ite_keeps (Onward.thenPass ?_) hshort
  refine (hshort.trans (withWatch_onward (k := k) (w := { w with watch := .short, overdraft := .opened }) ?_)).trans
    (.of_same rfl rfl)
  simpa using Rises.refl w.meter

theorem enterClear_onward {s : State} {k : Pool} {w : Watch} (h : Rises (s.watches.get k).meter w.meter) :
    Onward s (s.enterClear k w) := by
  have hclear : Onward s (s.withWatch k { w with watch := .clear, overdraft := .closed }) := withWatch_onward h
  unfold State.enterClear
  dsimp only
  split <;> exact hclear.trans (.of_same rfl rfl)

/-- A Demand Watch at its window end adds to its pool's meter alone (R122, R129, R135). -/
theorem watchTakes_onward (s : State) (k : Pool) : Onward s (s.watchTakes k) := by
  have hdue : Onward s (s.withDue { s.due with demand := s.due.demand.modify k (· - 1) }) := .of_same rfl rfl
  refine hdue.trans ?_
  unfold State.watchTakes State.watchWork
  dsimp only
  split
  · exact withWatch_onward (.refl _)
  · split
    · exact enterShort_onward (judged_meter _ k _) _
    · exact enterClear_onward (judged_meter _ k _)
    all_goals exact withWatch_onward (judged_meter _ k _)

theorem takeDue_onward (s : State) : Onward s s.takeDue :=
  State.takeDue_induct (fun u hu => hu.trans (sweepTakes_onward u)) (fun u k hu => hu.trans (watchTakes_onward u k))
    (fun u hu => hu.trans (grantTakes_onward u)) (fun _ _ hu => hu.trans (.of_same rfl rfl)) s (.refl s)

theorem batchBegins_onward (s : State) : Onward s s.batchBegins := by
  unfold State.batchBegins
  split
  · exact .refl s
  · split
    · exact .of_same rfl rfl
    · exact .refl s

/-! ### Reset and activation (R100, R101, R133) -/

/-- The release of RESET keeps the live values (R101, R133). -/
theorem leaveReset_onward (s : State) : Onward s s.leaveReset := .of_savedNow s.leaveReset_savedNow

theorem releaseIfWaiting_onward (s : State) : Onward s s.releaseIfWaiting := by
  unfold State.releaseIfWaiting
  split
  · exact leaveReset_onward s
  all_goals exact .refl s

theorem field_lt (body : List Byte) (off len : Nat) : field body off len < 256 ^ len :=
  (beNat_lt _).trans_le (Nat.pow_le_pow_right (by norm_num) (List.length_take_le _ _))

/-- The floor does not lower the clock, and an issue minute has 32 bits (R2, R100). -/
theorem flooredClock_rises (records : List ImageRecord) (clock : Nat) : Rises clock (flooredClock records clock) :=
  fun h => ⟨le_max_left _ _, max_le h (Nat.le_of_lt_succ (field_lt _ 4 4))⟩

theorem activateAll_counts (s : State) (ahead : Quad Nat) :
    (s.activateAll ahead).time.clock = flooredClock s.stager.image s.time.clock ∧
    (s.activateAll ahead).watches = s.watches.map fun w => Watch.initial w.meter := by
  unfold State.activateAll State.windowAfterImage State.saveAfterImage
  dsimp only
  split <;> split <;> exact ⟨rfl, rfl⟩

/-- An activation raises the clock to its floor and keeps the meters (R100, R133). -/
theorem activateAll_onward (s : State) (ahead : Quad Nat) : Onward s (s.activateAll ahead) := by
  obtain ⟨hclock, hwatches⟩ := activateAll_counts s ahead
  refine ⟨by rw [hclock]; exact flooredClock_rises _ _, fun k => ?_⟩
  rw [hwatches, Quad.get_map]
  exact .refl _

theorem completeActivation_onward (s : State) (ahead : Quad Nat) : Onward s (s.completeActivation ahead) :=
  ((finish_onward s _).trans (takeDue_onward _)).trans (activateAll_onward _ ahead)

theorem completeInReset_onward (s : State) : Onward s s.completeInReset :=
  Onward.trans (t := (s.withClock (flooredClock s.stager.image s.time.clock)).storeImage s.stager.image)
    (.of_clock (flooredClock_rises _ _) rfl) (releaseIfWaiting_onward _)

/-! ### Every command -/

/-- What an event leaves of a running part, or of one that does not run. -/
theorem whenRunning_onward {s t : State} {f : State → State} (he : whenRunning s f = .next t) (hf : Onward s (f s)) :
    Onward s t := by
  rcases whenRunning_cases s f with ⟨-, e⟩ | ⟨-, e⟩ <;> rw [e] at he <;> cases he
  · exact hf
  · exact .refl s

theorem serve_onward {c : Command} {p : Port} {s t : State} (he : serve c p s (workOf c) = .next t) : Onward s t := by
  rcases serve_cases c p s (workOf c) with e | ⟨r, -, -, e⟩ <;> rw [e] at he <;> cases he
  · exact .refl s
  · exact carryOut_onward s c p r

theorem execResetRelease_onward {s t : State} {straps : Quad Straps} (he : execResetRelease straps s = .next t) :
    Onward s t := by
  have hpins : Onward s (s.withStrapPins straps) := .of_same rfl rfl
  cases he
  exact ite_keeps (ite_keeps (.of_same rfl rfl) (hpins.trans (leaveReset_onward _))) (.refl s)

theorem execPrstAssert_onward {s t : State} {p : Port} (he : execPrstAssert p s = .next t) : Onward s t := by
  cases he
  exact ite_keeps (resetPort_onward s p) (.of_same rfl rfl)

theorem execSaveComplete_onward {s t : State} (he : execSaveComplete s = .next t) : Onward s t := by
  cases he
  split
  · rename_i v _ _
    have hsaved : Onward s (s.storeSaved v) := .of_same rfl rfl
    exact (hsaved.trans (nextWrite_onward _)).trans (releaseIfWaiting_onward _)
  · exact .refl s

theorem execImageWriteComplete_onward {s t : State} {ahead : Quad Nat}
    (he : execImageWriteComplete ahead s = .next t) : Onward s t := by
  cases he
  split
  · exact ite_keeps (completeActivation_onward s ahead) (completeInReset_onward s)
  · exact .refl s

/-- No command but those of supply lowers a count. -/
theorem exec_onward {s t : State} (i : Instr) (he : exec i s = .next t) (hon : ∀ x, i ≠ .powerOn x)
    (hloss : i ≠ .powerLoss) : Onward s t := by
  cases i
  case powerOn straps => exact absurd rfl (hon straps)
  case powerLoss => exact absurd rfl hloss
  case resetAssert => cases he; exact ite_keeps (.of_same rfl rfl) (.refl s)
  case resetRelease straps => exact execResetRelease_onward he
  case prstAssert p => exact execPrstAssert_onward he
  case prstRelease p => cases he; exact .of_same rfl rfl
  case requestFrame p bytes =>
    dsimp only [exec, execRequestFrame] at he
    exact whenRunning_onward he (unlessPrst_keeps (endTransaction_onward s p bytes) (.refl s))
  case readTransaction p n answered =>
    dsimp only [exec, execReadTransaction] at he
    exact whenRunning_onward he (unlessPrst_keeps (.of_same rfl rfl) (.refl s))
  case secondTick => exact whenRunning_onward he (tick_onward s)
  case minuteAdvance | windowTimerExpiry | stagingTimeout =>
    exact whenRunning_onward he (ite_keeps (tick_onward s) (.refl s))
  case wclkRisingEdge => exact whenRunning_onward he (wclkRises_onward s)
  case sweepWindowEnd => exact whenRunning_onward he (ite_keeps (sweepTakes_onward s) (.refl s))
  case sweepVisit n | reclaim n =>
    exact whenRunning_onward he (ite_keeps ((visitSlot_onward s n).trans (passSlot_onward _ n)) (.refl s))
  case grantEngineWindowEnd | waitExpiry n =>
    exact whenRunning_onward he (ite_keeps (grantTakes_onward s) (.refl s))
  case demandWatchWindowEnd k => exact whenRunning_onward he (ite_keeps (watchTakes_onward s k) (.refl s))
  case portWindowEnd p first => exact whenRunning_onward he (ite_keeps (.of_same rfl rfl) (.refl s))
  case saveComplete => exact execSaveComplete_onward he
  case imageWriteComplete ahead => exact execImageWriteComplete_onward he
  case batchBegin jend =>
    have hjend : Onward s (s.withJend jend) := .of_same rfl rfl
    exact hjend.trans (whenRunning_onward he (batchBegins_onward _))
  case recordAcknowledge jend =>
    dsimp only [exec, execRecordAcknowledge] at he
    have hjend : Onward s (s.withJend jend) := .of_same rfl rfl
    exact hjend.trans (whenRunning_onward he (.of_same rfl rfl))
  case attnPulseEnd p =>
    dsimp only [exec, execAttnPulseEnd] at he
    exact whenRunning_onward he (.of_same rfl rfl)
  case wclkLowSeen =>
    dsimp only [exec, execWclkLowSeen] at he
    exact whenRunning_onward he (.of_same rfl rfl)
  case jclkRisingEdge =>
    dsimp only [exec, execJclkRisingEdge] at he
    exact whenRunning_onward he (.of_same rfl rfl)
  case checkout p | returnCheckout p | returnTag p | releasePort p | queryCheckout p | heartbeat p | cancelWait p |
      queryWait p | queryFeature p | queryPool p | timeAssert p | windowClose p | stageBegin p | stageRecord p |
      stageFinish p | activate p | stageAbort p | policyStage p | policyApply p | setCeiling p | setShare p |
      journalStatus p | readNotice p | setNotice p | identify p =>
    exact serve_onward he

/-- Settles O36: every command but those of supply leaves each count where it is or raises it. -/
theorem clockAndMetersNeverFall : Obligations.ClockAndMetersNeverFall := by
  intro i s t he hon hloss hclock hmeters
  have h := exec_onward i he hon hloss
  obtain ⟨hrise, hbound⟩ := h.clock hclock
  exact ⟨hrise, hbound, fun k => h.meter k (hmeters k)⟩

end Sys2Proof.Machine.Timekeeping
end

section
/-! SUPPORT. A visit of the walk and the walk's going on after it (R111 to R113; O38). -/

namespace Sys2Proof.Machine.Timekeeping

open Charges

/-! ### The slots a walk reaches (R111; log 13) -/

theorem walkReaches_of_freeBelow {s : State} {n l : Nat} (hwalk : s.sweep.state = .sweeping)
    (hlimit : s.sweep.limit = some l) (hpos : s.sweep.position ≤ n) (hn : n ≤ l)
    (hfree : ∀ m, s.sweep.position ≤ m → m < n → s.checkoutAt m = none) : s.walkReaches n = true := by
  have hall : ((List.range n).all fun i => decide (i < s.sweep.position) || (s.checkoutAt i).isNone) = true := by
    rw [List.all_eq_true]
    intro i hi
    by_cases hlow : i < s.sweep.position
    · simp [hlow]
    · simp [hfree i (by omega) (List.mem_range.mp hi)]
  unfold State.walkReaches
  simp only [hwalk, hlimit, hpos, hn, hall, decide_true, Bool.and_self]

theorem exec_sweepVisit {s : State} {n : Nat} (hrun : s.running = true) (hreach : s.walkReaches n = true) :
    exec (.sweepVisit n) s = .next ((s.visitSlot n).passSlot n) :=
  (whenRunning_running hrun _).trans (congrArg _ (if_pos hreach))

theorem exec_reclaim {s : State} {n : Nat} (hrun : s.running = true) (hreach : s.walkReaches n = true) :
    exec (.reclaim n) s = .next (if s.wouldReclaim n = true then (s.visitSlot n).passSlot n else s) :=
  (whenRunning_running hrun _).trans (by rw [hreach, Bool.true_and])

/-! ### The visit of a slot (R112) -/

theorem overdue_iff (s : State) (e : Checkout) :
    s.overdue e = true ↔ ∃ x, s.sweep.threshold = some x ∧ x ≤ e.visited.missed := by
  unfold State.overdue
  cases s.sweep.threshold <;> simp

theorem wouldReclaim_held {s : State} {n : Nat} {e : Checkout} (he : s.checkoutAt n = some e) :
    s.wouldReclaim n = s.overdue e := by
  unfold State.wouldReclaim; rw [he]

theorem visitSlot_free {s : State} {n : Nat} (h : s.checkoutAt n = none) : s.visitSlot n = s := by
  unfold State.visitSlot; rw [h]

theorem visitSlot_held {s : State} {n : Nat} {e : Checkout} (he : s.checkoutAt n = some e) :
    s.visitSlot n = if s.overdue e = true then s.reclaimSlot n e.visited
      else s.setSlot n { generation := s.generationAt n, entry := some e.visited } := by
  unfold State.visitSlot; rw [he]

/-- A visit leaves the Sweep Unit and the catalogue as they are. -/
theorem visitSlot_sweep_cat (s : State) (n : Nat) :
    (s.visitSlot n).sweep = s.sweep ∧ (s.visitSlot n).cat = s.cat := by
  cases he : s.checkoutAt n with
  | none => rw [visitSlot_free he]; exact ⟨rfl, rfl⟩
  | some e =>
    rw [visitSlot_held he]
    split
    · simp [State.reclaimSlot]
    · exact ⟨rfl, rfl⟩

/-- A release has all the effects of R58 and no other, whichever content the HELD slot's checkout has been given: the
visit counts a missed window first. -/
theorem release_releases_of_held {s : State} {n : Nat} (hheld : (s.checkoutAt n).isSome = true) (e : Checkout)
    (kind : RecordKind) : s.Releases (s.release n e kind) n e kind := by
  obtain ⟨x, hx⟩ := Option.isSome_iff_exists.mp hheld
  obtain ⟨c, hc, -⟩ := checkoutAt_iff.mp hx
  have htable : (s.release n e kind).grant.table =
      s.grant.table.set n { generation := nextGeneration (s.generationAt n), entry := none } := by
    rw [State.release_grant]; rfl
  obtain ⟨hentry, hgen, hothers⟩ := checkoutAt_eq_of_table htable (List.getElem?_eq_some_iff.mp hc).1
  obtain ⟨hqueue, hwait, hframe⟩ := release_frame s n e kind
  refine ⟨hentry, hgen, hothers, release_pool s n e kind, hqueue, hwait, ?_, hframe⟩
  rw [State.release_journal, Checkouts.releaseBody_eq_releaseRecord]

/-! ### The walk past a slot (R111) -/

/-- Going on after a visit touches the Sweep Unit alone. -/
theorem passSlot_eq (s : State) (n : Nat) : s.passSlot n = { s with sweep := (s.passSlot n).sweep } := by
  unfold State.passSlot State.endWalk State.startWalk
  dsimp only
  repeat' split
  all_goals rfl

theorem passSlot_checkoutAt (s : State) (n m : Nat) : (s.passSlot n).checkoutAt m = s.checkoutAt m := by
  rw [State.checkoutAt, Checkouts.passSlot_grant]; rfl

theorem passSlot_before {s : State} {n : Nat} (h : s.sweep.limit ≠ some n) :
    s.passSlot n = s.withSweep { s.sweep with position := n + 1 } := if_neg h

theorem passSlot_ends {s : State} {n : Nat} (h : s.sweep.limit = some n) (hp : s.sweep.pendingEnd = false) :
    (s.passSlot n).sweep = Sweep.initial := by
  rw [show s.passSlot n = (s.withSweep { s.sweep with position := n + 1 }).endWalk from if_pos h, State.endWalk,
    State.withSweep_sweep, hp]
  rfl

theorem passSlot_restarts {s : State} {n : Nat} (h : s.sweep.limit = some n) (hp : s.sweep.pendingEnd = true) :
    s.passSlot n = (s.withSweep { s.sweep with position := n + 1 }).startWalk := by
  rw [show s.passSlot n = (s.withSweep { s.sweep with position := n + 1 }).endWalk from if_pos h, State.endWalk]
  exact if_pos hp

/-- The walk goes on as `WalkPasses` says from any state in which the Sweep Unit and the catalogue are those of the
walk. -/
theorem walkPasses_passSlot {s v : State} {n l : Nat} (hsweep : v.sweep = s.sweep) (hcat : v.cat = s.cat)
    (hlimit : s.sweep.limit = some l) : s.WalkPasses (v.passSlot n) n l := by
  have hl : v.sweep.limit = some l := by rw [hsweep, hlimit]
  refine ⟨fun hne => ?_, ?_, ?_, ?_⟩
  · rw [passSlot_before (by simpa [hl] using Ne.symm hne), State.withSweep_sweep, hsweep]
  · rintro rfl hp
    exact passSlot_ends hl (hsweep ▸ hp)
  · rintro rfl hp hfree
    simp only [passSlot_checkoutAt] at hfree
    have hnone := highestHeld_none (s := v.withSweep { v.sweep with position := n + 1 }) hfree
    rw [passSlot_restarts hl (hsweep ▸ hp), startWalk_none hnone, State.withSweep_sweep]
  · rintro m rfl hp hheld habove
    simp only [passSlot_checkoutAt] at hheld habove
    have hnext := highestHeld_some (s := v.withSweep { v.sweep with position := n + 1 }) hheld habove
    rw [passSlot_restarts hl (hsweep ▸ hp), startWalk_some hnext, State.withSweep_sweep, State.withSweep_cat, hcat]
    rfl

/-! ### The rows (R111 to R113; logs 6 and 13) -/

/-- Settles O38, by what the visited slot holds: nothing, a checkout below the walk's threshold, or one at it. -/
theorem sweepVisitCountsMissedWindows : Obligations.SweepVisitCountsMissedWindows := by
  intro s n l hrun hwalk hlimit hpos hn hfree
  have hreach := walkReaches_of_freeBelow hwalk hlimit hpos hn hfree
  have hvisit := exec_sweepVisit hrun hreach
  have hreclaim := exec_reclaim hrun hreach
  have hpasses : s.WalkPasses ((s.visitSlot n).passSlot n) n l :=
    walkPasses_passSlot (visitSlot_sweep_cat s n).1 (visitSlot_sweep_cat s n).2 hlimit
  refine ⟨fun hnone => ?_, fun e e' he he' => ?_⟩
  · refine ⟨_, hvisit, hpasses, ?_⟩
    rw [visitSlot_free hnone, passSlot_eq]
  obtain rfl : e' = e.visited := he'
  have hslot := visitSlot_held he
  rw [wouldReclaim_held he] at hreclaim
  refine ⟨fun hbelow => ?_, fun x hx hle => ?_⟩
  · have hover : ¬ s.overdue e = true := fun h => by
      obtain ⟨x, hx, hle⟩ := (overdue_iff s e).mp h
      exact absurd (hbelow x hx) (by omega)
    rw [if_neg hover] at hreclaim hslot
    obtain ⟨c, hc, -⟩ := checkoutAt_iff.mp he
    obtain ⟨hentry, hgen, hothers⟩ := checkoutAt_eq_of_table (s := s) (u := (s.visitSlot n).passSlot n) (n := n)
      (c := { generation := s.generationAt n, entry := some e.visited }) (by rw [Checkouts.passSlot_grant, hslot]; rfl)
      (List.getElem?_eq_some_iff.mp hc).1
    refine ⟨hreclaim, _, hvisit, hpasses, hentry, hgen, hothers, ?_⟩
    rw [passSlot_eq, hslot]
    rfl
  · have hover : s.overdue e = true := (overdue_iff s e).mpr ⟨x, hx, hle⟩
    rw [if_pos hover] at hreclaim hslot
    refine ⟨s.release n e.visited .reclaim, _, release_releases_of_held (by rw [he]; rfl) _ _, hpasses, ?_, hvisit,
      hreclaim⟩
    rw [hslot]
    exact passSlot_eq _ n

end Sys2Proof.Machine.Timekeeping
end

section
/-! SUPPORT. A Demand Watch judges its window, moves, and opens and closes the overdraft (R122 to R135; O40). -/

namespace Sys2Proof.Machine.DemandWatch

open Charges Timekeeping

/-! ### Steps 1 and 2: the meter, the verdict and the tally (R122, R123, R129) -/

theorem verdict_iff (w : Watch) (q : PoolRec) :
    w.verdict q = true ↔ q.watchEnable = true ∧ q.threshold ≤ w.tally := by
  simp [Watch.verdict]

theorem judge_eq (w : Watch) (q : PoolRec) (inUse : Nat) :
    w.judge q inUse = { w with
      tally := 0, history := w.verdict q :: w.history.take 7
      meter := min 4294967295 (w.meter + (inUse - q.capacity)) } := rfl

/-! ### Step 3: the hot count moves the watch (R118, R124) -/

theorem hotCount_eq_length (w : Watch) (taps : Nat) :
    w.hotCount taps = ((w.history.take taps).filter fun v => v).length := List.countP_eq_length_filter

theorem moved_of_clear {w : Watch} {q : PoolRec} (h : w.watch = .clear) :
    w.moved q = if q.quorum ≤ w.hotCount q.taps then .short else .clear := by
  rw [Watch.moved, h]

theorem moved_of_short {w : Watch} {q : PoolRec} (h : w.watch = .short) :
    w.moved q = if w.hotCount q.taps = 0 then .clear else .short := by
  rw [Watch.moved, h]

/-- Between its two thresholds the watch holds the state it has (R124). -/
theorem moved_between {w : Watch} {q : PoolRec}
    (h : w.watch = .clear ∧ w.hotCount q.taps < q.quorum ∨ w.watch = .short ∧ 1 ≤ w.hotCount q.taps) :
    w.moved q = w.watch := by
  obtain ⟨hwatch, hcold⟩ | ⟨hwatch, hhot⟩ := h
  · rw [moved_of_clear hwatch, if_neg (by omega), hwatch]
  · rw [moved_of_short hwatch, if_neg (by omega), hwatch]

/-! ### Step 4: the notices and the overdraft (R125 to R127, R132) -/

theorem enterShort_withoutAllowance (s : State) (k : Pool) (w : Watch) :
    s.enterShort k w 0 = { s.withWatch k { w with watch := .short } with
      ports := s.ports.map fun x : PortIf => x.hand (.poolShort k) } := rfl

theorem enterShort_opens (s : State) (k : Pool) (w : Watch) {allowance : Nat} (h : 0 < allowance) :
    s.enterShort k w allowance = ({ s.withWatch k { w with watch := .short, overdraft := .opened } with
      ports := s.ports.map fun x : PortIf => x.hand (.poolShort k)
      journal := s.journal.writeDroppable s.time.clock
        (overdraftBody .overdraftOpen k w.meter (s.pool k).inUse) }).queuePass := by
  have hset := set_set s.watches k { w with watch := .short } { w with watch := .short, overdraft := .opened }
  rw [State.enterShort, if_pos h, State.withWatch, State.notifyAll_watches, State.withWatch_watches, hset]
  rfl

theorem enterClear_eq (s : State) (k : Pool) (w : Watch) :
    s.enterClear k w = { s.withWatch k { w with watch := .clear, overdraft := .closed } with
      ports := s.ports.map fun x : PortIf => x.hand (.poolClear k)
      journal := if w.overdraft = .opened then s.journal.writeDroppable s.time.clock
          (overdraftBody .overdraftClose k w.meter (s.pool k).inUse)
        else s.journal } := by
  unfold State.enterClear
  cases w.overdraft <;> rfl

/-! ### The judgement whole (R122) -/

theorem watchWork_stays {s : State} {k : Pool} {q : PoolRec} {w : Watch} (hw : judged s k q = w)
    (h : w.moved q = w.watch) : s.watchWork k q = s.withWatch k w := by
  unfold judged at hw
  simp only [State.watchWork, hw, h]
  cases w.watch <;> rfl

theorem watchWork_enterShort {s : State} {k : Pool} {q : PoolRec} {w : Watch} (hw : judged s k q = w)
    (hclear : w.watch = .clear) (hquorum : q.quorum ≤ w.hotCount q.taps) :
    s.watchWork k q = s.enterShort k w q.allowance := by
  unfold judged at hw
  simp only [State.watchWork, hw, moved_of_clear hclear, hclear, if_pos hquorum]

theorem watchWork_enterClear {s : State} {k : Pool} {q : PoolRec} {w : Watch} (hw : judged s k q = w)
    (hshort : w.watch = .short) (hcold : w.hotCount q.taps = 0) : s.watchWork k q = s.enterClear k w := by
  unfold judged at hw
  simp only [State.watchWork, hw, moved_of_short hshort, hshort, if_pos hcold]

/-! ### The row (R122, R135; logs 2 and 7) -/

/-- One window end fewer for a pool's Demand Watch to take (log 7). -/
def demandTaken (s : State) (k : Pool) : State :=
  { s with due := { s.due with demand := s.due.demand.set k (s.due.demand.get k - 1) } }

theorem exec_demandWatchWindowEnd {s : State} (hrun : s.running = true) (k : Pool) :
    exec (.demandWatchWindowEnd k) s = .next (if 0 < s.due.demand.get k then s.watchTakes k else s) :=
  whenRunning_running hrun _

theorem watchTakes_withoutImage {s : State} (h : s.cat.head = none) (k : Pool) :
    s.watchTakes k = (demandTaken s k).withWatch k ((s.watches.get k).shift false) := by
  rw [State.watchTakes, Catalogue.poolRec, h]
  rfl

theorem watchTakes_serving {s : State} {h : ImageHead} (hhead : s.cat.head = some h) (k : Pool) :
    s.watchTakes k = (demandTaken s k).watchWork k (h.pools.get k) := by
  rw [State.watchTakes, Catalogue.poolRec, hhead]
  rfl

/-- Settles O40, by the move that the hot count gives the watch. -/
theorem demandWatchJudgesWindow : Obligations.DemandWatchJudgesWindow := by
  intro s d k w hrun hw hd
  obtain rfl : d = demandTaken s k := hd
  have hexec := exec_demandWatchWindowEnd hrun k
  refine ⟨fun hdue => ?_, fun hdue hhead => ?_, fun h q hot hots w' hdue hhead hq hhot hw' hhots => ?_⟩
  · rw [hexec, if_neg (by omega)]
  · rw [hexec, if_pos hdue, watchTakes_withoutImage hhead, hw, Watch.shift]
  have hverdict : hot = w.verdict q := Bool.eq_iff_iff.mpr (hhot.trans (verdict_iff w q).symm)
  have hjudged : judged (demandTaken s k) k q = w' := by
    rw [hw', hverdict, hw]
    exact judge_eq (s.watches.get k) q (s.pool k).inUse
  have hwatch : w.watch = w'.watch := by rw [hw']
  have hoverdraft : w.overdraft = w'.overdraft := by rw [hw']
  rw [hexec, if_pos hdue, watchTakes_serving hhead, ← hq, hhots, ← hotCount_eq_length, hwatch, hoverdraft]
  refine ⟨fun hstays => ?_, fun hclear hquorum hnone => ?_, fun hclear hquorum hsome => ?_, fun hshort hcold => ?_⟩
  · rw [watchWork_stays hjudged (moved_between hstays)]
  · rw [watchWork_enterShort hjudged hclear hquorum, hnone, enterShort_withoutAllowance]
    rfl
  · rw [watchWork_enterShort hjudged hclear hquorum, enterShort_opens _ _ _ hsome]
    rfl
  · rw [watchWork_enterClear hjudged hshort hcold, enterClear_eq]
    rfl

end Sys2Proof.Machine.DemandWatch
end

section
/-! SUPPORT. The verification of a staging, step by step: the trailer, the count, the CRC-32, the issue number and the
first failing record (R147, R148; O46). -/

namespace Sys2Proof.Machine.Images

/-! ### Kinds of record (R144) -/

theorem isKind_iff (r : ImageRecord) {n : Nat} (hn : n < 256) : r.isKind n = true ↔ r.kind = BitVec.ofNat 8 n := by
  rw [ImageRecord.isKind, beq_iff_eq, ← BitVec.toNat_inj, BitVec.toNat_ofNat, Nat.mod_eq_of_lt hn]

theorem isKind_trailer_iff (r : ImageRecord) : r.isKind kindTrailer = true ↔ r.kind = 6#8 := isKind_iff r (by decide)

/-! ### The steps of R147 -/

/-- The active image is as new as the one verified, or newer (R147, step 4). -/
def NotNewer (rs : List ImageRecord) (active : Option Nat) : Prop :=
  ∃ i, active = some i ∧ (headOf rs).header.issue ≤ i

/-- Step 1 of R147: the last record is to be a TRAILER. -/
theorem verifyFault_noTrailer {area : List ImageRecord} (h : ∀ z, area.getLast? = some z → z.isKind kindTrailer = false)
    (active : Option Nat) : verifyFault area active = some (.noTrailer, 0) := by
  unfold verifyFault
  cases hz : area.getLast? with
  | none => rfl
  | some z => exact if_pos (h z hz)

section

variable {rs : List ImageRecord} {z : ImageRecord} {active : Option Nat}

/-- Steps 2 to 5 of R147 on records with a TRAILER behind them. -/
theorem verifyFault_concat (hz : z.isKind kindTrailer = true) : verifyFault (rs ++ [z]) active =
    if field z.body 0 1 ≠ rs.length then some (.countMismatch, rs.length + 1)
    else if field z.body 1 4 ≠ recordsCrc rs then some (.crcMismatch, rs.length + 1)
    else if active.any (fun i => decide ((headOf rs).header.issue ≤ i)) then some (.issueNotNewer, 1)
    else firstRecordFault [] rs := by
  unfold verifyFault
  simp only [List.getLast?_concat, List.dropLast_concat, hz, Bool.true_eq_false, if_false, List.length_append,
    List.length_singleton]
  cases active <;> rfl

theorem verifyFault_count (hz : z.isKind kindTrailer = true) (hn : field z.body 0 1 ≠ rs.length) :
    verifyFault (rs ++ [z]) active = some (.countMismatch, rs.length + 1) := by
  rw [verifyFault_concat hz, if_pos hn]

theorem verifyFault_crc (hz : z.isKind kindTrailer = true) (hn : field z.body 0 1 = rs.length)
    (hc : field z.body 1 4 ≠ recordsCrc rs) :
    verifyFault (rs ++ [z]) active = some (.crcMismatch, rs.length + 1) := by
  rw [verifyFault_concat hz, if_neg (not_not.mpr hn), if_pos hc]

theorem verifyFault_issue (hz : z.isKind kindTrailer = true) (hn : field z.body 0 1 = rs.length)
    (hc : field z.body 1 4 = recordsCrc rs) (hi : NotNewer rs active) :
    verifyFault (rs ++ [z]) active = some (.issueNotNewer, 1) := by
  obtain ⟨i, rfl, hi⟩ := hi
  rw [verifyFault_concat hz, if_neg (not_not.mpr hn), if_neg (not_not.mpr hc), if_pos (by simpa using hi)]

theorem verifyFault_records (hz : z.isKind kindTrailer = true) (hn : field z.body 0 1 = rs.length)
    (hc : field z.body 1 4 = recordsCrc rs) (hi : ¬ NotNewer rs active) :
    verifyFault (rs ++ [z]) active = firstRecordFault [] rs := by
  have hany : ¬ active.any (fun i => decide ((headOf rs).header.issue ≤ i)) = true := by
    rw [Option.any_eq_true]
    exact fun ⟨i, ha, h⟩ => hi ⟨i, ha, of_decide_eq_true h⟩
  rw [verifyFault_concat hz, if_neg (not_not.mpr hn), if_neg (not_not.mpr hc), if_neg hany]

/-- What verification passes (R147): a TRAILER behind records none of which fails a test of its own. -/
theorem trailer_of_verifyFault {area : List ImageRecord} (h : verifyFault area active = none) :
    ∃ z, area.dropLast ++ [z] = area ∧ z.isKind kindTrailer = true ∧ firstRecordFault [] area.dropLast = none := by
  by_cases hlast : ∀ z, area.getLast? = some z → z.isKind kindTrailer = false
  · rw [verifyFault_noTrailer hlast] at h; cases h
  · push Not at hlast
    obtain ⟨z, hz, hkind⟩ := hlast
    have hkind := (Bool.not_eq_false _).mp hkind
    have harea : area.dropLast ++ [z] = area := List.dropLast_append_getLast? z hz
    refine ⟨z, harea, hkind, ?_⟩
    rw [← harea, verifyFault_concat hkind] at h
    split_ifs at h
    exact h

end

/-! ### The first failing record (R147, step 5) -/

/-- Records that each pass their tests after those before them have no first failing one. -/
theorem firstRecordFault_none {rs : List ImageRecord} : ∀ {earlier : List ImageRecord},
    (∀ i, ∀ h : i < rs.length, recordFault (earlier ++ rs.take i) rs[i] = none) → firstRecordFault earlier rs = none := by
  induction rs with
  | nil => exact fun _ => rfl
  | cons r rs ih =>
    intro earlier hpass
    have hr : recordFault earlier r = none := by simpa using hpass 0 (Nat.succ_pos _)
    rw [firstRecordFault, hr]
    refine ih fun i hi => ?_
    simpa using hpass (i + 1) (Nat.succ_lt_succ hi)

/-- The first record that fails gives its code and its number. -/
theorem firstRecordFault_some {rs : List ImageRecord} {c : VerifyCode} : ∀ {earlier : List ImageRecord} {i : Nat}
    (h : i < rs.length), (∀ j, ∀ hj : j < i, recordFault (earlier ++ rs.take j) rs[j] = none) →
    recordFault (earlier ++ rs.take i) rs[i] = some c → firstRecordFault earlier rs = some (c, earlier.length + i + 1) := by
  induction rs with
  | nil => exact fun h => absurd h (Nat.not_lt_zero _)
  | cons r rs ih =>
    intro earlier i hi hpass hfail
    rw [firstRecordFault]
    cases i with
    | zero =>
      have hr : recordFault earlier r = some c := by simpa using hfail
      rw [hr]
    | succ i =>
      have hr : recordFault earlier r = none := by simpa using hpass 0 (Nat.succ_pos _)
      rw [hr]
      dsimp only
      rw [ih (Nat.lt_of_succ_lt_succ hi) (fun j hj => by simpa using hpass (j + 1) (Nat.succ_lt_succ hj))
        (by simpa using hfail), List.length_append, List.length_singleton]
      simp only [Option.some.injEq, Prod.mk.injEq, true_and]
      omega

/-- A failing record is one of those tested. -/
theorem firstRecordFault_number {rs : List ImageRecord} {c : VerifyCode} {n : Nat} : ∀ {earlier : List ImageRecord},
    firstRecordFault earlier rs = some (c, n) → n ≤ earlier.length + rs.length := by
  induction rs with
  | nil => exact nofun
  | cons r rs ih =>
    intro earlier h
    rw [firstRecordFault] at h
    split at h
    · cases h
      exact Nat.add_le_add_left (Nat.succ_pos _) _
    · have := ih h
      simp only [List.length_append, List.length_cons, List.length_nil] at this ⊢
      omega

/-! ### The CRC-32 (R148) -/

/-- One byte is eight places of the shift. -/
theorem crc32Byte_eq (x : BitVec 32) (b : Byte) : crc32Byte x b = crc32Shift^[8] (x ^^^ b.setWidth 32) := rfl

/-- Step 3 of R147 fails exactly where the trailer's CRC is not that of the records before it. -/
theorem verifyFault_crc_iff {rs : List ImageRecord} {z : ImageRecord} {active : Option Nat}
    (hz : z.isKind kindTrailer = true) (hn : field z.body 0 1 = rs.length) :
    verifyFault (rs ++ [z]) active = some (.crcMismatch, rs.length + 1) ↔ field z.body 1 4 ≠ recordsCrc rs := by
  refine ⟨fun h hc => ?_, verifyFault_crc hz hn⟩
  by_cases hi : NotNewer rs active
  · rw [verifyFault_issue hz hn hc hi] at h
    cases h
  · rw [verifyFault_records hz hn hc hi] at h
    have := firstRecordFault_number h
    simp at this

/-- Settles O46. -/
theorem imageCrcAsGiven : Obligations.ImageCrcAsGiven := by
  refine ⟨fun bytes => ?_, fun rs z active crc hcrc hz hn => ?_, by decide +kernel⟩
  · exact congrArg (fun f => ~~~ (bytes.foldl f 0xFFFFFFFF#32)) (funext₂ crc32Byte_eq)
  · subst hcrc
    exact ⟨rfl, verifyFault_crc_iff ((isKind_trailer_iff z).mpr hz) hn⟩

end Sys2Proof.Machine.Images
end

section
/-! SUPPORT. Verified images (R139, R141, R145 to R150): what a staging and the store may hold, and how the operations of
the Image Stager and the Store Controller keep to it (O56). -/

namespace Sys2Proof.Machine.Images

/-! ### Records in sequence and verified (R145, R147) -/

theorem sequenced_nil : Sequenced [] := fun i h => absurd h (Nat.not_lt_zero i)

/-- A record that is accepted next keeps a staging in sequence (R145). -/
theorem sequenced_concat {area : List ImageRecord} {r : ImageRecord} (h : Sequenced area)
    (hr : acceptsRecord area r = true) : Sequenced (area ++ [r]) := by
  intro i hi
  rcases Nat.lt_or_ge i area.length with hlt | hge
  · rw [List.getElem_append_left hlt, List.take_append_of_le_length hlt.le]
    exact h i hlt
  · obtain rfl : i = area.length := by simp at hi; omega
    simpa using hr

/-- A staging in sequence that passes verification holds a verified image before its TRAILER (R139, R146). -/
theorem verified_of_verifyFault {area : List ImageRecord} {active : Option Nat} (hseq : Sequenced area)
    (h : verifyFault area active = none) : Verified area.dropLast := by
  obtain ⟨z, harea, hkind, hfault⟩ := trailer_of_verifyFault h
  exact ⟨hfault, z, hkind, harea.symm ▸ hseq⟩

/-! ### The catalogue in SERVING (R1, R20) -/

/-- In SERVING the catalogue holds a verified image. -/
def CatalogueSound (c : Catalogue) : Prop := c.serving = true → ∃ records, Verified records ∧ c.Holds records

theorem catalogueSound_absent : CatalogueSound Catalogue.absent := fun h => by cases h

/-- The catalogue that image records give holds them (R1, R18, R20). -/
theorem holds_catalogueOf (rs : List ImageRecord) (clock : Nat) (flags : Nat → SiteFlags) :
    (catalogueOf rs clock flags).Holds rs := by
  refine ⟨rfl, fun i hi => ?_, fun i hi => by simp [catalogueOf, hi]⟩
  simp only [Catalogue.feature, Catalogue.slot, catalogueOf, List.getD, List.getElem?_map, List.getElem?_range hi,
    Option.map_some, Option.getD_some]
  cases bodyAt rs kindFeature i <;> rfl

theorem catalogueSound_catalogueOf {rs : List ImageRecord} (h : Verified rs) (clock : Nat) (flags : Nat → SiteFlags) :
    CatalogueSound (catalogueOf rs clock flags) := fun _ => ⟨rs, h, holds_catalogueOf rs clock flags⟩

theorem catalogueSound_loadCatalogue {image : Option (List ImageRecord)} (h : ∀ rs, image = some rs → Verified rs)
    (clock : Nat) : CatalogueSound (loadCatalogue image clock) := by
  cases image with
  | none => exact catalogueSound_absent
  | some rs => exact catalogueSound_catalogueOf (h rs rfl) clock _

/-- A change of site flags and term states leaves what the slots hold of the image (R10, R15). -/
theorem CatalogueSound.of_features {c d : Catalogue} (h : CatalogueSound c) (hhead : d.head = c.head)
    (hbundles : d.bundles = c.bundles) (hfeatures : ∀ i, d.feature i = c.feature i) : CatalogueSound d := by
  intro hd
  obtain ⟨rs, hv, hh, hf, hb⟩ := h (by rwa [Catalogue.serving, ← hhead])
  exact ⟨rs, hv, hhead.trans hh, fun i hi => (hfeatures i).trans (hf i hi), hbundles ▸ hb⟩

theorem atClock_feature (c : Catalogue) (clock i : Nat) : (c.atClock clock).feature i = c.feature i := by
  simp only [Catalogue.feature, Catalogue.slot, Catalogue.atClock, List.getD, List.getElem?_map]
  cases c.slots[i]? <;> rfl

theorem applyFlags_feature (c : Catalogue) (mask : Nat) (m : ApplyMode) (staged : SiteFlags) (i : Nat) :
    (c.applyFlags mask m staged).feature i = c.feature i := by
  simp only [Catalogue.feature, Catalogue.slot, Catalogue.applyFlags, List.getD, List.getElem?_mapIdx]
  cases c.slots[i]? <;> rfl

/-! ### The staging and the store -/

/-- What is staged is in sequence, and verified once it has its summary; only a WRITING staging is written or waits to be;
and a VALID image area holds a verified image (R138, R139, R141, R145, R146, R150). -/
structure StagingSound (g : Stager) (st : Store) : Prop where
  sequenced : Sequenced g.area
  verified : g.state = .complete ∨ g.state = .writing → Verified g.area.dropLast
  written : st.write = .imageWrite → g.state = .writing ∧ st.imageWaiting = false
  waiting : st.imageWaiting = true → g.state = .writing
  stored : ∀ rs, st.image = some rs → Verified rs
  summarised : g.summary.isSome = true → g.state = .complete ∨ g.state = .writing

namespace StagingSound

variable {g g' : Stager} {st st' : Store}

/-- Outside WRITING no image is written and none waits to be. -/
theorem no_write (h : StagingSound g st) (hg : g.state ≠ .writing) :
    st.write ≠ .imageWrite ∧ st.imageWaiting = false :=
  ⟨fun hw => hg (h.written hw).1, Bool.eq_false_iff.mpr fun hw => hg (h.waiting hw)⟩

/-- Where no image is written and none waits to be, the staging may go on as its own records allow. -/
theorem of_no_write (hw : st.write ≠ .imageWrite) (hq : st.imageWaiting = false)
    (hstored : ∀ rs, st.image = some rs → Verified rs) (hseq : Sequenced g.area)
    (hver : g.state = .complete ∨ g.state = .writing → Verified g.area.dropLast)
    (hsum : g.summary.isSome = true → g.state = .complete ∨ g.state = .writing) : StagingSound g st where
  sequenced := hseq
  verified := hver
  written h := absurd h hw
  waiting h := absurd h (Bool.eq_false_iff.mp hq)
  stored := hstored
  summarised := hsum

/-- With no staging, no image is written (R138, R153). -/
theorem initial (hw : st.write ≠ .imageWrite) (hq : st.imageWaiting = false)
    (hstored : ∀ rs, st.image = some rs → Verified rs) : StagingSound Stager.initial st :=
  of_no_write hw hq hstored sequenced_nil (fun h => by rcases h with h | h <;> cases h) fun h => by cases h

/-- A staging that is not WRITING may be replaced by another in order (R143, R145, R146, R153). -/
theorem replace (h : StagingSound g st) (hg : g.state ≠ .writing) (hseq : Sequenced g'.area)
    (hver : g'.state = .complete ∨ g'.state = .writing → Verified g'.area.dropLast)
    (hsum : g'.summary.isSome = true → g'.state = .complete ∨ g'.state = .writing) : StagingSound g' st :=
  of_no_write (h.no_write hg).1 (h.no_write hg).2 h.stored hseq hver hsum

theorem discard (h : StagingSound g st) (hg : g.state ≠ .writing) : StagingSound Stager.initial st :=
  initial (h.no_write hg).1 (h.no_write hg).2 h.stored

/-- The staging timer is free (R142, R156). -/
theorem withTimer (h : StagingSound g st) (n : Nat) : StagingSound { g with timer := n } st :=
  ⟨h.sequenced, h.verified, h.written, h.waiting, h.stored, h.summarised⟩

/-- A change of the store that begins no image write and asks for none (R103, R138, R157). -/
theorem of_store (h : StagingSound g st) (hw : st'.write = .imageWrite → st.write = .imageWrite)
    (hq : st'.imageWaiting = true → st.imageWaiting = true) (hi : ∀ rs, st'.image = some rs → st.image = some rs) :
    StagingSound g st' where
  sequenced := h.sequenced
  verified := h.verified
  written hw' := ⟨(h.written (hw hw')).1,
    Bool.eq_false_iff.mpr fun hq' => Bool.eq_false_iff.mp (h.written (hw hw')).2 (hq hq')⟩
  waiting hq' := h.waiting (hq hq')
  stored rs hi' := h.stored rs (hi rs hi')
  summarised := h.summarised

/-- The write of a WRITING staging begins (R138, R139). -/
theorem beginWrite (h : StagingSound g st) (hg : g.state = .writing) :
    StagingSound g { st with write := .imageWrite, image := none, imageWaiting := false } where
  sequenced := h.sequenced
  verified := h.verified
  written _ := ⟨hg, rfl⟩
  waiting hq := by cases hq
  stored _ hi := by cases hi
  summarised := h.summarised

end StagingSound

/-! ### The whole state -/

/-- The images of a state are verified, and a summary stands in COMPLETE and WRITING alone. -/
structure Sound (s : State) : Prop where
  staging : StagingSound s.stager s.store
  catalogue : CatalogueSound s.cat

/-- A state whose images are verified and whose staging agrees with its state (R141). -/
theorem sound_of_imagesVerified {s : State} (h : s.ImagesVerified) (hg : s.stager.Shaped) : Sound s := by
  obtain ⟨hseq, hver, hwritten, hwaiting, hstored, hserving⟩ := h
  refine ⟨⟨hseq, hver, hwritten, hwaiting, hstored, fun hsum => ?_⟩, hserving⟩
  unfold Stager.Shaped at hg
  split at hg
  · rw [hg.2.2.1] at hsum; cases hsum
  · rw [hg.2.1] at hsum; cases hsum
  · exact .inl ‹_›
  · exact .inr ‹_›

theorem Sound.imagesVerified {s : State} (h : Sound s) : s.ImagesVerified :=
  ⟨h.staging.sequenced, h.staging.verified, h.staging.written, h.staging.waiting, h.staging.stored, h.catalogue⟩

end Sys2Proof.Machine.Images
end

section
/-! SUPPORT. The commands and events that leave the Image Stager, the Store Controller and the Catalogue as they are. -/

namespace Sys2Proof.Machine.Images

open Charges

/-- `t` has the staging, the store and the catalogue of `s`. -/
structure SameImages (s t : State) : Prop where
  stager : t.stager = s.stager
  store : t.store = s.store
  cat : t.cat = s.cat

theorem SameImages.refl (s : State) : SameImages s s := ⟨rfl, rfl, rfl⟩

theorem SameImages.trans {s t u : State} (h : SameImages s t) (h' : SameImages t u) : SameImages s u :=
  ⟨h'.stager.trans h.stager, h'.store.trans h.store, h'.cat.trans h.cat⟩

theorem SameImages.thenPass {s t : State} (h : SameImages s t) : SameImages s t.queuePass :=
  h.trans ⟨by simp, by simp, by simp⟩

theorem SameImages.thenEndWaits {s t : State} (h : SameImages s t) (c : Option WaitCause) (es : List WaitEntry) :
    SameImages s (t.endWaits c es) := h.trans ⟨by simp, by simp, by simp⟩

theorem release_same (s : State) (n : Nat) (e : Checkout) (k : RecordKind) : SameImages s (s.release n e k) :=
  ⟨by simp, by simp, by simp⟩

/-- A release with the notice it raises and the pass that follows (R58, R60, R113). -/
theorem release_notify_pass_same (s : State) (n : Nat) (e : Checkout) (k : RecordKind) (p : Port) (x : Notice) :
    SameImages s ((s.release n e k).notify p x).queuePass :=
  SameImages.thenPass ((release_same s n e k).trans ⟨rfl, rfl, rfl⟩)

theorem releaseMany_same (s : State) (slots : List Nat) (es : List WaitEntry) :
    SameImages s (s.releaseMany slots es) := by
  have hslots : SameImages s (slots.foldl (State.releaseSlot · .returned) s) :=
    List.foldlRecOn _ _ (.refl s) fun t ht n _ => ht.trans <| by
      unfold State.releaseSlot
      split
      · exact release_same ..
      · exact .refl t
  have hends := hslots.thenEndWaits none es
  exact ite_keeps hends hends.thenPass

theorem dropEntries_same (s : State) (p : Port) : SameImages s (s.dropEntries p) :=
  have hends := (SameImages.refl s).thenEndWaits none (s.entriesOf p)
  ite_keeps hends.thenPass hends

theorem respond_same (s : State) (r : Request) (x : Reply) : SameImages s (s.respond r x) := by
  rcases s.respond_cases r x with ⟨-, e⟩ | ⟨-, e⟩ <;> rw [e]
  · exact ⟨rfl, rfl, rfl⟩
  · exact .refl s

/-! ### The commands' works -/

theorem refuse_same (s : State) (c : Catalogue) (kept : Bool) (g : GrantOrder) (timeout : Nat) (q : QueueReason) :
    SameImages s (s.refuse c kept g timeout q).1 := by
  unfold State.refuse
  dsimp only
  split
  · split
    · split <;> exact ⟨rfl, rfl, rfl⟩
    · exact ⟨rfl, rfl, rfl⟩
  · exact ⟨rfl, rfl, rfl⟩

theorem checkoutWork_same (r : Request) (s : State) : SameImages s (checkoutWork r s).1 := by
  refine needsCatalogue_keeps (.refl s) ?_
  split
  · exact .refl s
  · split
    · exact .refl s
    · split
      · exact ⟨rfl, rfl, rfl⟩
      · unfold State.judgeOrder
        split
        · exact refuse_same ..
        · exact ⟨s.grantInto_stager .., s.grantInto_store .., s.grantInto_cat ..⟩

theorem returnWork_same (r : Request) (s : State) : SameImages s (returnWork r s).1 := by
  refine needsCatalogue_keeps (.refl s) ?_
  split
  · exact .refl s
  · split
    · exact .refl s
    · split
      · exact (release_same ..).thenPass
      · split
        · exact release_notify_pass_same ..
        · exact .refl s

theorem returnTagWork_same (r : Request) (s : State) : SameImages s (returnTagWork r s).1 := by
  refine needsCatalogue_keeps (.refl s) ?_
  split
  · exact .refl s
  · exact releaseMany_same ..

theorem beatAll_same (b : Basis) (kept : Bool) (p : Port) (hs : List Nat) (s : State) :
    SameImages s (s.beatAll b kept p hs).1 := by
  induction hs generalizing s with
  | nil => exact .refl s
  | cons n hs ih =>
    refine SameImages.trans (t := (s.beat b kept p n).1) ?_ (ih _)
    unfold State.beat
    split
    · exact .refl s
    · split
      · exact .refl s
      · split
        · exact .refl s
        · exact ⟨rfl, rfl, rfl⟩

theorem heartbeatWork_same (r : Request) (s : State) : SameImages s (heartbeatWork r s).1 := by
  refine needsCatalogue_keeps (.refl s) ?_
  split
  · exact .refl s
  · exact beatAll_same ..

theorem cancel_same (s : State) (c : Option WaitCause) (e : WaitEntry) : SameImages s (s.cancel c e).1 :=
  have hend : SameImages s (s.endWait c e) := ⟨by simp, by simp, by simp⟩
  ite_keeps hend.thenPass hend

theorem cancelWaitWork_same (r : Request) (s : State) : SameImages s (cancelWaitWork r s).1 := by
  refine needsCatalogue_keeps (.refl s) ?_
  split
  · exact .refl s
  · split
    · exact .refl s
    · split
      · exact cancel_same ..
      · split
        · exact cancel_same ..
        · exact .refl s

theorem windowCloseWork_same (r : Request) (s : State) : SameImages s (windowCloseWork r s).1 := by
  refine needsAdmin_keeps (.refl s) ?_
  split
  · exact .refl s
  · exact ⟨rfl, rfl, rfl⟩

theorem policyStageWork_same (r : Request) (s : State) : SameImages s (policyStageWork r s).1 := by
  refine policyCommand_keeps (.refl s) ?_
  split
  · exact .refl s
  · exact ⟨rfl, rfl, rfl⟩

theorem setCeilingWork_same (r : Request) (s : State) : SameImages s (setCeilingWork r s).1 := by
  refine policyCommand_keeps (.refl s) ?_
  split
  · exact .refl s
  · exact ite_keeps ⟨rfl, rfl, rfl⟩ (ite_keeps (SameImages.thenPass ⟨rfl, rfl, rfl⟩) ⟨rfl, rfl, rfl⟩)

theorem setShareWork_same (r : Request) (s : State) : SameImages s (setShareWork r s).1 := by
  refine policyCommand_keeps (.refl s) ?_
  split
  · exact .refl s
  · exact SameImages.thenPass ⟨rfl, rfl, rfl⟩

theorem readNoticeWork_same (r : Request) (s : State) : SameImages s (readNoticeWork r s).1 := by
  unfold readNoticeWork
  split
  · exact .refl s
  · exact ⟨rfl, rfl, rfl⟩

theorem setNoticeWork_same (r : Request) (s : State) : SameImages s (setNoticeWork r s).1 := by
  unfold setNoticeWork
  split
  · exact .refl s
  · exact ⟨rfl, rfl, rfl⟩

/-! ### Port events and window ends -/

theorem endTransaction_same (s : State) (p : Port) (bytes : List Byte) : SameImages s (s.endTransaction p bytes) := by
  unfold State.endTransaction State.writeTransaction State.takeFrame
  dsimp only
  repeat' split
  all_goals exact ⟨rfl, rfl, rfl⟩

theorem wclkRises_same (s : State) : SameImages s s.wclkRises := by
  unfold State.wclkRises
  split
  · exact .refl s
  · split <;> exact ⟨rfl, rfl, rfl⟩

theorem startWalk_same (s : State) : SameImages s s.startWalk := by
  unfold State.startWalk
  split <;> exact ⟨rfl, rfl, rfl⟩

theorem SameImages.thenWalk {s t : State} (h : SameImages s t) : SameImages s t.startWalk := h.trans (startWalk_same t)

theorem sweepTakes_same (s : State) : SameImages s s.sweepTakes := by
  unfold State.sweepTakes
  dsimp only
  split
  · exact SameImages.thenWalk ⟨rfl, rfl, rfl⟩
  · exact ⟨rfl, rfl, rfl⟩

theorem visitSlot_same (s : State) (n : Nat) : SameImages s (s.visitSlot n) := by
  unfold State.visitSlot
  split
  · exact .refl s
  · exact ite_keeps (release_notify_pass_same ..) ⟨rfl, rfl, rfl⟩

theorem passSlot_same (s : State) (n : Nat) : SameImages s (s.passSlot n) := by
  unfold State.passSlot State.endWalk
  dsimp only
  split
  · exact ite_keeps (SameImages.thenWalk ⟨rfl, rfl, rfl⟩) ⟨rfl, rfl, rfl⟩
  · exact ⟨rfl, rfl, rfl⟩

theorem grantTakes_same (s : State) : SameImages s s.grantTakes :=
  ⟨by simp [State.grantTakes, State.grantWork], by simp [State.grantTakes, State.grantWork],
    by simp [State.grantTakes, State.grantWork]⟩

theorem watchTakes_same (s : State) (k : Pool) : SameImages s (s.watchTakes k) := by
  unfold State.watchTakes State.watchWork
  dsimp only
  split
  · exact ⟨rfl, rfl, rfl⟩
  · split
    · exact ite_keeps (SameImages.thenPass ⟨rfl, rfl, rfl⟩) ⟨rfl, rfl, rfl⟩
    · unfold State.enterClear
      dsimp only
      split <;> exact ⟨rfl, rfl, rfl⟩
    all_goals exact ⟨rfl, rfl, rfl⟩

theorem takeDue_same (s : State) : SameImages s s.takeDue :=
  State.takeDue_induct (P := SameImages s) (fun u hu => hu.trans (sweepTakes_same u))
    (fun u k hu => hu.trans (watchTakes_same u k)) (fun u hu => hu.trans (grantTakes_same u))
    (fun _ _ hu => hu.trans ⟨rfl, rfl, rfl⟩) s (.refl s)

theorem batchBegins_same (s : State) : SameImages s s.batchBegins := by
  unfold State.batchBegins
  split
  · exact .refl s
  · split
    · exact ⟨rfl, rfl, rfl⟩
    · exact .refl s

end Sys2Proof.Machine.Images
end

section
/-! SUPPORT. Every command, event and step keeps the images verified (R139, R141, R145 to R150; O56). -/

namespace Sys2Proof.Machine.Images

open Charges

theorem Sound.of_same {s t : State} (h : Sound s) (hst : SameImages s t) : Sound t :=
  ⟨by rw [hst.stager, hst.store]; exact h.staging, by rw [hst.cat]; exact h.catalogue⟩

/-! ### The Store Controller and the term clock (R97, R103, R138) -/

theorem beginSave_sound {s : State} (h : Sound s) : Sound s.beginSave :=
  ⟨h.staging.of_store nofun id fun _ => id, h.catalogue⟩

theorem askSave_sound {s : State} (h : Sound s) : Sound s.askSave := by
  rcases s.askSave_cases with ⟨-, e⟩ | ⟨-, e⟩ <;> rw [e]
  · exact beginSave_sound h
  · exact ⟨h.staging.of_store id id fun _ => id, h.catalogue⟩

/-- A change of the clock stores term states and may ask for a save (R15, R103). -/
theorem changeClock_sound {s : State} (clock : Nat) (h : Sound s) : Sound (s.changeClock clock) := by
  rcases s.changeClock_cases clock with ⟨-, e⟩ | ⟨-, u, hu, e, e'⟩
  · rw [e]; exact h
  · have hsound : Sound u := by
      rw [hu]
      exact ⟨h.staging, h.catalogue.of_features rfl rfl (atClock_feature s.cat clock)⟩
    by_cases hd : clock / 60 = s.time.clock / 60
    · rw [e hd]; exact hsound
    · rw [e' hd]; exact askSave_sound hsound

/-- An image write asked for by a WRITING staging begins or waits (R138, R150). -/
theorem askImageWrite_sound {s : State} (h : Sound s) (hg : s.stager.state = .writing) : Sound s.askImageWrite := by
  rcases s.askImageWrite_cases with ⟨-, e⟩ | ⟨⟨v, hv⟩, e⟩ | ⟨-, e⟩ <;> rw [e]
  · exact ⟨h.staging.beginWrite hg, h.catalogue⟩
  · refine ⟨⟨h.staging.sequenced, h.staging.verified, fun hw => ?_, fun _ => hg, h.staging.stored,
      h.staging.summarised⟩, h.catalogue⟩
    cases hv.symm.trans hw
  · exact h

/-- The next write after a save: an image write that waited is that of a WRITING staging (R138). -/
theorem nextWrite_sound {s : State} (h : Sound s) : Sound s.nextWrite := by
  rcases s.nextWrite_cases with ⟨hq, e⟩ | ⟨-, -, e⟩ | ⟨-, -, e⟩ <;> rw [e]
  · exact ⟨h.staging.beginWrite (h.staging.waiting hq), h.catalogue⟩
  · exact beginSave_sound h
  · exact ⟨h.staging.of_store nofun id fun _ => id, h.catalogue⟩

/-! ### The staging (R142 to R156) -/

theorem withStager_sound {s : State} {g : Stager} (h : Sound s) (hg : StagingSound g s.store) :
    Sound (s.withStager g) := ⟨hg, h.catalogue⟩

theorem discardStaging_sound {s : State} (h : Sound s) (hg : s.stager.state ≠ .writing) : Sound s.discardStaging :=
  ⟨h.staging.discard hg, h.catalogue⟩

theorem not_writing_of_open {g : Stager} (h : g.open_ = true) : g.state ≠ .writing := by
  intro hw
  simp [Stager.open_, hw] at h

theorem abandonStaging_sound {s : State} (p : Port) (h : Sound s) : Sound (s.abandonStaging p) := by
  unfold State.abandonStaging
  split
  · exact discardStaging_sound h (not_writing_of_open (‹_ ∧ _›).2)
  · exact h

theorem countStaging_sound {s : State} (h : Sound s) : Sound s.countStaging := by
  rcases s.countStaging_cases with ⟨-, e⟩ | ⟨-, -, e⟩ | ⟨hopen, -, e⟩ <;> rw [e]
  · exact h
  · exact ⟨h.staging.withTimer _, h.catalogue⟩
  · exact discardStaging_sound h (not_writing_of_open hopen)

theorem noteStaging_sound {s : State} (p : Port) (h : Sound s) : Sound (s.noteStaging p) :=
  ite_keeps (withStager_sound h (h.staging.withTimer 0)) h

/-- A staging command's own work meets a staging that is not WRITING (R142). -/
theorem staging_sound {stagerOnly : Bool} {r : Request} {s : State} {own : State → State × Reply} (h : Sound s)
    (hown : ∀ t, Sound t → t.stager.state ≠ .writing → Sound (own t).1) : Sound (staging stagerOnly r s own).1 := by
  have hnote := noteStaging_sound r.port h
  refine needsAdmin_keeps h ?_
  dsimp only
  split
  · exact hnote
  · split
    · exact hnote
    · exact hown _ hnote ‹_›

theorem stageBeginWork_sound {s : State} (r : Request) (h : Sound s) : Sound (stageBeginWork r s).1 := by
  refine staging_sound h fun t ht hg => ?_
  split
  · exact ht
  · split
    · exact withStager_sound ht <| ht.staging.replace hg sequenced_nil (fun h => by rcases h with h | h <;> cases h)
        fun h => by cases h
    · exact ht

/-- A record accepted next keeps the staging in sequence (R145). -/
theorem stageRecordWork_sound {s : State} (r : Request) (h : Sound s) : Sound (stageRecordWork r s).1 := by
  refine staging_sound h fun t ht hg => ?_
  split
  · rename_i hopen
    unfold State.offerRecord
    split
    · rename_i rec hrec
      have hnot : ¬ (t.stager.state = .complete ∨ t.stager.state = .writing) := by rw [hopen]; simp
      exact withStager_sound ht <| ht.staging.replace hg
        (sequenced_concat ht.staging.sequenced (Option.filter_eq_some_iff.mp hrec).2) (fun h => absurd h hnot)
        fun h => absurd (ht.staging.summarised h) hnot
    · exact ht
  · exact ht

/-- Only a staging that passes verification becomes COMPLETE (R146). -/
theorem stageFinishWork_sound {s : State} (r : Request) (h : Sound s) : Sound (stageFinishWork r s).1 := by
  refine staging_sound h fun t ht hg => ?_
  split
  · exact ht
  · split
    · exact ht
    · unfold State.verifyStaging
      split
      · exact discardStaging_sound ht hg
      · rename_i hpass
        exact withStager_sound ht <| ht.staging.replace hg ht.staging.sequenced
          (fun _ => verified_of_verifyFault ht.staging.sequenced hpass) fun _ => .inl rfl

/-- A staging with a summary is COMPLETE, so that what is written is verified (R150). -/
theorem activateWork_sound {s : State} (r : Request) (h : Sound s) : Sound (activateWork r s).1 := by
  refine staging_sound h fun t ht hg => ?_
  split
  · exact ht
  · split
    · exact ht
    · rename_i x hx
      split
      · exact ht
      · have hver := ht.staging.verified (ht.staging.summarised (by rw [hx]; rfl))
        refine askImageWrite_sound (withStager_sound ht ?_) rfl
        exact ht.staging.replace hg ht.staging.sequenced (fun _ => hver) fun _ => .inr rfl

theorem stageAbortWork_sound {s : State} (r : Request) (h : Sound s) : Sound (stageAbortWork r s).1 := by
  refine staging_sound h fun t ht hg => ?_
  split
  · exact ht
  · exact discardStaging_sound ht hg

/-! ### The other commands' works -/

theorem releasePortWork_sound {s : State} (r : Request) (h : Sound s) : Sound (releasePortWork r s).1 := by
  refine needsCatalogue_keeps h ?_
  split
  · exact h
  · exact abandonStaging_sound _ (h.of_same (releaseMany_same ..))

theorem timeAssertWork_sound {s : State} (r : Request) (h : Sound s) : Sound (timeAssertWork r s).1 := by
  refine needsTime_keeps h ?_
  split
  · exact h
  · split
    · exact h
    · exact ite_keeps h ((changeClock_sound _ h).of_same ⟨rfl, rfl, rfl⟩)

/-- A POLICY APPLY changes site flags, and no image content (R10, R161). -/
theorem policyApplyWork_sound {s : State} (r : Request) (h : Sound s) : Sound (policyApplyWork r s).1 := by
  refine policyCommand_keeps h ?_
  split
  · exact h
  · rename_i mask m _
    have hflags : Sound { s with cat := s.cat.applyFlags mask m (s.policy.get r.port) } :=
      ⟨h.staging, h.catalogue.of_features rfl rfl (applyFlags_feature s.cat mask m _)⟩
    exact hflags.of_same ⟨by simp, by simp, by simp⟩

theorem workOf_sound (c : Command) {s : State} (r : Request) (h : Sound s) : Sound (workOf c r s).1 := by
  cases c with
  | checkout => exact h.of_same (checkoutWork_same r s)
  | returnCheckout => exact h.of_same (returnWork_same r s)
  | returnTag => exact h.of_same (returnTagWork_same r s)
  | releasePort => exact releasePortWork_sound r h
  | queryCheckout => exact queryCheckoutWork_keeps r h
  | heartbeat => exact h.of_same (heartbeatWork_same r s)
  | cancelWait => exact h.of_same (cancelWaitWork_same r s)
  | queryWait => exact queryWaitWork_keeps r h
  | queryFeature => exact queryFeatureWork_keeps r h
  | queryPool => exact queryPoolWork_keeps r h
  | timeAssert => exact timeAssertWork_sound r h
  | windowClose => exact h.of_same (windowCloseWork_same r s)
  | stageBegin => exact stageBeginWork_sound r h
  | stageRecord => exact stageRecordWork_sound r h
  | stageFinish => exact stageFinishWork_sound r h
  | activate => exact activateWork_sound r h
  | stageAbort => exact stageAbortWork_sound r h
  | policyStage => exact h.of_same (policyStageWork_same r s)
  | policyApply => exact policyApplyWork_sound r h
  | setCeiling => exact h.of_same (setCeilingWork_same r s)
  | setShare => exact h.of_same (setShareWork_same r s)
  | journalStatus => exact journalStatusWork_keeps r h
  | readNotice => exact h.of_same (readNoticeWork_same r s)
  | setNotice => exact h.of_same (setNoticeWork_same r s)
  | identify => exact identifyWork_keeps r h

theorem carryOut_sound {s : State} (c : Command) (p : Port) (r : Request) (h : Sound s) :
    Sound (s.carryOut c p r (workOf c)) :=
  (workOf_sound c r (h.of_same (t := s.dropRequest c p) ⟨rfl, rfl, rfl⟩)).of_same (respond_same ..)

theorem finish_sound {s : State} (due : Request → Bool) (h : Sound s) : Sound (s.finish due) :=
  State.finish_induct due (fun _ r _ hu => carryOut_sound _ _ r hu) s h

/-! ### Port resets and second ticks -/

theorem resetPort_sound {s : State} (p : Port) (h : Sound s) : Sound (s.resetPort p) :=
  abandonStaging_sound p <|
    (finish_sound _ (h.of_same (t := s.clearPort p) ⟨rfl, rfl, rfl⟩)).of_same (dropEntries_same _ p)

theorem countWindow_sound {s : State} (h : Sound s) : Sound s.countWindow := by
  rcases s.countWindow_cases with ⟨-, -, e⟩ | ⟨-, e⟩ <;> rw [e] <;> exact h.of_same ⟨rfl, rfl, rfl⟩

theorem countMinute_sound {s : State} (h : Sound s) : Sound s.countMinute :=
  ite_keeps (h.of_same ⟨rfl, rfl, rfl⟩) (changeClock_sound _ (h.of_same ⟨rfl, rfl, rfl⟩))

theorem tick_sound {s : State} (h : Sound s) : Sound s.tick :=
  countStaging_sound (countMinute_sound (countWindow_sound (h.of_same ⟨rfl, rfl, rfl⟩)))

theorem trefEdge_sound {s : State} (h : Sound s) : Sound s.trefEdge :=
  ite_keeps (h.of_same ⟨rfl, rfl, rfl⟩) (tick_sound h)

/-! ### Reset (R18, R140, R157) -/

/-- A part brought up on a store with no write in progress has no staging, and the catalogue of the stored image. -/
theorem bringUp_sound (s : State) {store : Store} (v : SavedValues) (straps : Quad Straps) (hw : store.write = .idle)
    (hq : store.imageWaiting = false) (hi : ∀ rs, store.image = some rs → Verified rs) :
    Sound (s.bringUp store v straps) :=
  ⟨StagingSound.initial (st := store) (by rw [hw]; exact nofun) hq hi, catalogueSound_loadCatalogue hi v.clock⟩

/-- A loss of power leaves a stored image as it was, or none (R157). -/
theorem afterLoss_stored {s : State} (h : Sound s) : ∀ rs, s.store.afterLoss.image = some rs → Verified rs := by
  intro rs hrs
  rw [Store.afterLoss_image] at hrs
  split at hrs
  · cases hrs
  · exact h.staging.stored rs hrs

theorem powerOn_sound {s : State} (straps : Quad Straps) (h : Sound s) :
    Sound (s.bringUp s.store.afterLoss s.store.afterLoss.restored straps) :=
  bringUp_sound s _ straps rfl rfl (afterLoss_stored h)

theorem goDark_sound {s : State} (h : Sound s) : Sound s.goDark :=
  ⟨StagingSound.initial (st := s.store.afterLoss) nofun rfl (afterLoss_stored h), catalogueSound_absent⟩

theorem leaveReset_sound {s : State} (h : Sound s) : Sound s.leaveReset :=
  bringUp_sound s s.savedNow _ rfl rfl h.staging.stored

theorem releaseIfWaiting_sound {s : State} (h : Sound s) : Sound s.releaseIfWaiting := by
  unfold State.releaseIfWaiting
  split
  · exact leaveReset_sound h
  all_goals exact h

theorem enterReset_sound {s : State} (h : Sound s) : Sound s.enterReset :=
  ⟨h.staging.of_store id (fun hq => by cases hq) fun _ => id, h.catalogue⟩

/-! ### Completed writes (R137 to R140, R152) -/

theorem storeSaved_sound {s : State} (v : SavedValues) (h : Sound s) : Sound (s.storeSaved v) :=
  ⟨h.staging.of_store id id fun _ => id, h.catalogue⟩

/-- While its image is written a staging is verified and no other write of an image waits (R138, R150). -/
theorem written_verified {s : State} (h : Sound s) (hw : s.store.write = .imageWrite) :
    Verified s.stager.image ∧ s.store.imageWaiting = false := by
  obtain ⟨hg, hq⟩ := h.staging.written hw
  exact ⟨h.staging.verified (.inr hg), hq⟩

/-- The stored image and the catalogue after an activation are the verified records that were written (R20, R139, R152). -/
theorem activateAll_sound {s : State} (ahead : Quad Nat) (h : Sound s) (hw : s.store.write = .imageWrite) :
    Sound (s.activateAll ahead) := by
  obtain ⟨hver, hq⟩ := written_verified h hw
  have hstored : Sound (((s.activateBlocks ahead).recordDroppable
      (imageBody (s.stager.port.getD 0) (headOf s.stager.image).header.issue)).storeImage s.stager.image) :=
    ⟨StagingSound.initial (st := { s.store with image := some s.stager.image, write := .idle }) nofun hq
      fun rs hrs => by cases hrs; exact hver, catalogueSound_catalogueOf hver _ _⟩
  unfold State.activateAll
  dsimp only
  generalize ((s.activateBlocks ahead).recordDroppable _).storeImage _ = t at hstored
  have hsaved : Sound (t.saveAfterImage (flooredClock s.stager.image s.time.clock / 60 != s.time.clock / 60)) :=
    ite_keeps (beginSave_sound hstored) hstored
  exact ite_keeps (hsaved.of_same ⟨rfl, rfl, rfl⟩) hsaved

/-- What is finished before a completion leaves the image write to complete (R90, R169). -/
theorem taken_imageWrite {s : State} (hw : s.store.write = .imageWrite) :
    s.finishTaken.takeDue.store.write = .imageWrite := by
  rw [(takeDue_same _).store]
  exact State.finish_induct (P := fun u => u.store.write = .imageWrite) _
    (fun u r _ hu => (u.carryOut_sameRun r.command r.port r).imageWrite hu) s hw

theorem completeActivation_sound {s : State} (ahead : Quad Nat) (h : Sound s) (hw : s.store.write = .imageWrite) :
    Sound (s.completeActivation ahead) :=
  activateAll_sound ahead ((finish_sound _ h).of_same (takeDue_same _)) (taken_imageWrite hw)

/-- In RESET the image area alone takes the records, and the catalogue stays until the release (R140). -/
theorem completeInReset_sound {s : State} (h : Sound s) (hw : s.store.write = .imageWrite) :
    Sound s.completeInReset := by
  obtain ⟨hver, -⟩ := written_verified h hw
  refine releaseIfWaiting_sound ⟨?_, h.catalogue⟩
  exact ⟨h.staging.sequenced, h.staging.verified, nofun, h.staging.waiting, fun rs hrs => by cases hrs; exact hver,
    h.staging.summarised⟩

/-! ### Every command -/

theorem whenRunning_sound {s t : State} {f : State → State} (he : whenRunning s f = .next t) (h : Sound s)
    (hf : Sound (f s)) : Sound t := by
  rcases whenRunning_cases s f with ⟨-, e⟩ | ⟨-, e⟩ <;> rw [e] at he <;> cases he
  · exact hf
  · exact h

theorem serve_sound {c : Command} {p : Port} {s t : State} (he : serve c p s (workOf c) = .next t) (h : Sound s) :
    Sound t := by
  rcases serve_cases c p s (workOf c) with e | ⟨r, -, -, e⟩ <;> rw [e] at he <;> cases he
  · exact h
  · exact carryOut_sound c p r h

theorem execResetRelease_sound {s t : State} {straps : Quad Straps} (he : execResetRelease straps s = .next t)
    (h : Sound s) : Sound t := by
  have hpins : Sound (s.withStrapPins straps) := h.of_same ⟨rfl, rfl, rfl⟩
  cases he
  exact ite_keeps (ite_keeps (hpins.of_same ⟨rfl, rfl, rfl⟩) (leaveReset_sound hpins)) h

theorem execSaveComplete_sound {s t : State} (he : execSaveComplete s = .next t) (h : Sound s) : Sound t := by
  cases he
  split
  · exact releaseIfWaiting_sound (nextWrite_sound (storeSaved_sound _ h))
  · exact h

theorem execImageWriteComplete_sound {s t : State} {ahead : Quad Nat}
    (he : execImageWriteComplete ahead s = .next t) (h : Sound s) : Sound t := by
  cases he
  split
  · rename_i hw
    exact ite_keeps (completeActivation_sound ahead h hw) (completeInReset_sound h hw)
  · exact h

theorem exec_sound {s t : State} (i : Instr) (he : exec i s = .next t) (h : Sound s) : Sound t := by
  cases i
  case powerOn straps => cases he; exact powerOn_sound straps h
  case powerLoss => cases he; exact ite_keeps (goDark_sound h) h
  case resetAssert => cases he; exact ite_keeps (enterReset_sound h) h
  case resetRelease straps => exact execResetRelease_sound he h
  case prstAssert p => cases he; exact ite_keeps (resetPort_sound p h) (h.of_same ⟨rfl, rfl, rfl⟩)
  case prstRelease p => cases he; exact h.of_same ⟨rfl, rfl, rfl⟩
  case requestFrame p bytes =>
    dsimp only [exec, execRequestFrame] at he
    exact whenRunning_sound he h (unlessPrst_keeps (h.of_same (endTransaction_same s p bytes)) h)
  case readTransaction p n answered =>
    dsimp only [exec, execReadTransaction] at he
    exact whenRunning_sound he h (unlessPrst_keeps (h.of_same ⟨rfl, rfl, rfl⟩) h)
  case attnPulseEnd p =>
    dsimp only [exec, execAttnPulseEnd] at he
    exact whenRunning_sound he h (h.of_same ⟨rfl, rfl, rfl⟩)
  case secondTick => exact whenRunning_sound he h (tick_sound h)
  case minuteAdvance | windowTimerExpiry | stagingTimeout =>
    exact whenRunning_sound he h (ite_keeps (tick_sound h) h)
  case wclkRisingEdge => exact whenRunning_sound he h (h.of_same (wclkRises_same s))
  case wclkLowSeen =>
    dsimp only [exec, execWclkLowSeen] at he
    exact whenRunning_sound he h (h.of_same ⟨rfl, rfl, rfl⟩)
  case sweepWindowEnd => exact whenRunning_sound he h (ite_keeps (h.of_same (sweepTakes_same s)) h)
  case sweepVisit n | reclaim n =>
    exact whenRunning_sound he h (ite_keeps (h.of_same ((visitSlot_same s n).trans (passSlot_same _ n))) h)
  case grantEngineWindowEnd | waitExpiry n =>
    exact whenRunning_sound he h (ite_keeps (h.of_same (grantTakes_same s)) h)
  case demandWatchWindowEnd k => exact whenRunning_sound he h (ite_keeps (h.of_same (watchTakes_same s k)) h)
  case portWindowEnd p first => exact whenRunning_sound he h (ite_keeps (h.of_same ⟨rfl, rfl, rfl⟩) h)
  case saveComplete => exact execSaveComplete_sound he h
  case imageWriteComplete ahead => exact execImageWriteComplete_sound he h
  case batchBegin jend =>
    have hjend : Sound (s.withJend jend) := h.of_same ⟨rfl, rfl, rfl⟩
    exact whenRunning_sound he hjend (hjend.of_same (batchBegins_same _))
  case recordAcknowledge jend =>
    dsimp only [exec, execRecordAcknowledge] at he
    have hjend : Sound (s.withJend jend) := h.of_same ⟨rfl, rfl, rfl⟩
    exact whenRunning_sound he hjend (hjend.of_same ⟨rfl, rfl, rfl⟩)
  case jclkRisingEdge =>
    dsimp only [exec, execJclkRisingEdge] at he
    exact whenRunning_sound he h (h.of_same ⟨rfl, rfl, rfl⟩)
  case checkout p | returnCheckout p | returnTag p | releasePort p | queryCheckout p | heartbeat p | cancelWait p |
      queryWait p | queryFeature p | queryPool p | timeAssert p | windowClose p | stageBegin p | stageRecord p |
      stageFinish p | activate p | stageAbort p | policyStage p | policyApply p | setCeiling p | setShare p |
      journalStatus p | readNotice p | setNotice p | identify p =>
    exact serve_sound he h

/-- Settles O56: what is verified, staged in sequence and summarised stays so through every command and TREF edge. -/
theorem onlyVerifiedImagesServe : Obligations.OnlyVerifiedImagesServe := by
  intro s t himages hshaped hstep
  have h := sound_of_imagesVerified himages hshaped
  refine Sound.imagesVerified ?_
  cases hp : s.pending with
  | nil =>
    unfold step at hstep
    rw [hp] at hstep
    cases hstep
    exact ite_keeps (trefEdge_sound h) h
  | cons c rest =>
    rw [step_front s c rest hp] at hstep
    exact exec_sound c hstep (h.of_same ⟨rfl, rfl, rfl⟩)

end Sys2Proof.Machine.Images
end

section
/-! SUPPORT. The staging commands, each outcome said once, and their rows (R142 to R154; O42, O43). -/

namespace Sys2Proof.Machine.Images

open Charges WaitQueue

/-! ### The tests before a staging command (R142) -/

/-- The staging after a command from port `p`: the stager's commands return its timer to 0. -/
def heard (g : Stager) (p : Port) : Stager := if g.port = some p then { g with timer := 0 } else g

theorem noteStaging_eq (s : State) (p : Port) : s.noteStaging p = s.withStager (heard s.stager p) := by
  unfold State.noteStaging heard
  split <;> rfl

section

variable {s v : State} {r : Request} {stagerOnly : Bool} {own : State → State × Reply}

theorem staging_admin (ha : (s.basis r).privileges.admin = true) (hv : s.noteStaging r.port = v) :
    staging stagerOnly r s own =
      if v.stager.state = .writing then (v, .bare .storeBusy)
      else if stagerOnly && decide (v.stager.port ≠ some r.port) then (v, .bare .notPermitted)
      else own v := by
  subst hv
  exact needsAdmin_admin ha

theorem staging_busy (ha : (s.basis r).privileges.admin = true) (hv : s.noteStaging r.port = v)
    (hw : v.stager.state = .writing) : staging stagerOnly r s own = (v, .bare .storeBusy) := by
  rw [staging_admin ha hv, if_pos hw]

theorem staging_foreign (ha : (s.basis r).privileges.admin = true) (hv : s.noteStaging r.port = v)
    (hw : v.stager.state ≠ .writing) (hp : v.stager.port ≠ some r.port) :
    staging true r s own = (v, .bare .notPermitted) := by
  rw [staging_admin ha hv, if_neg hw, if_pos (by simpa using hp)]

theorem staging_own (ha : (s.basis r).privileges.admin = true) (hv : s.noteStaging r.port = v)
    (hw : v.stager.state ≠ .writing) (hp : stagerOnly = true → v.stager.port = some r.port) :
    staging stagerOnly r s own = own v := by
  rw [staging_admin ha hv, if_neg hw, if_neg]
  cases stagerOnly with
  | false => exact Bool.false_ne_true
  | true => simpa using hp rfl

end

/-- Every staging command but STAGE BEGIN is the stager's alone (R142). -/
theorem workOf_staging {c : Command} (hc : c ∈ stagingCommands) (r : Request) :
    ∃ own, ∀ s, workOf c r s = staging (decide (c ≠ .stageBegin)) r s own := by
  cases c
  case stageBegin => exact ⟨_, fun s => by unfold workOf stageBeginWork; rfl⟩
  case stageRecord => exact ⟨_, fun s => by unfold workOf stageRecordWork; rfl⟩
  case stageFinish => exact ⟨_, fun s => by unfold workOf stageFinishWork; rfl⟩
  case activate => exact ⟨_, fun s => by unfold workOf activateWork; rfl⟩
  case stageAbort => exact ⟨_, fun s => by unfold workOf stageAbortWork; rfl⟩
  all_goals exact absurd hc (by decide)

/-! ### The rows of the staging commands -/

/-- The request for `c` is ready, its port has ADMIN, and `v` is the state without it in which the staging has heard of
it. -/
structure Staged (s : State) (c : Command) (r : Request) (v : State) : Prop where
  ready : s.Ready r
  command : r.command = c
  admin : (s.basis r).privileges.admin = true
  noted : (s.dropRequest c r.port).noteStaging r.port = v

section

variable {s v u : State} {c : Command} {r : Request} {x : Reply}

theorem Staged.row (h : Staged s c r v) (hw : workOf c r (s.dropRequest c r.port) = (u, x)) :
    exec (commandRow c r.port) s = .next (u.respond r x) :=
  (exec_commandRow c r.port s).trans (serve_gives h.ready h.command hw)

theorem Staged.busy (h : Staged s c r v) (hc : c ∈ stagingCommands) (hw : v.stager.state = .writing) :
    exec (commandRow c r.port) s = .next (v.respond r (.bare .storeBusy)) := by
  obtain ⟨own, hown⟩ := workOf_staging hc r
  exact h.row ((hown _).trans (staging_busy h.admin h.noted hw))

theorem Staged.foreign (h : Staged s c r v) (hc : c ∈ stagingCommands) (hbegin : c ≠ .stageBegin)
    (hw : v.stager.state ≠ .writing) (hp : v.stager.port ≠ some r.port) :
    exec (commandRow c r.port) s = .next (v.respond r (.bare .notPermitted)) := by
  obtain ⟨own, hown⟩ := workOf_staging hc r
  rw [decide_eq_true hbegin] at hown
  exact h.row ((hown _).trans (staging_foreign h.admin h.noted hw hp))

/-- STAGE BEGIN (R143). -/
theorem Staged.stageBegin (h : Staged s .stageBegin r v) (hw : v.stager.state ≠ .writing) :
    workOf .stageBegin r (s.dropRequest .stageBegin r.port) =
      if r.payload ≠ [] then (v, .bare .badRequest)
      else if v.stager.state = .idle then
        (v.withStager { state := .opened, port := some r.port, area := [], summary := none, timer := 0 },
          .ok (b1 r.port.val ++ b1 0))
      else (v, { status := .stageHeld, payload :=
        v.stager.portByte ++ b1 v.stager.state.code ++ b1 v.stager.area.length }) := by
  unfold workOf stageBeginWork
  exact staging_own h.admin h.noted hw nofun

/-- STAGE RECORD (R145, log 16). -/
theorem Staged.stageRecord (h : Staged s .stageRecord r v) (hw : v.stager.state ≠ .writing)
    (hp : v.stager.port = some r.port) : workOf .stageRecord r (s.dropRequest .stageRecord r.port) =
      if v.stager.state = .opened then v.offerRecord r.payload else (v, .bare .badRequest) := by
  unfold workOf stageRecordWork
  exact staging_own h.admin h.noted hw fun _ => hp

/-- STAGE FINISH (R146). -/
theorem Staged.stageFinish (h : Staged s .stageFinish r v) (hw : v.stager.state ≠ .writing)
    (hp : v.stager.port = some r.port) : workOf .stageFinish r (s.dropRequest .stageFinish r.port) =
      if r.payload ≠ [] then (v, .bare .badRequest)
      else match v.stager.summary with
        | some x => (v, .ok x.bytes)
        | none => v.verifyStaging (v.basis r).catalogue := by
  unfold workOf stageFinishWork
  exact staging_own h.admin h.noted hw fun _ => hp

/-- ACTIVATE (R150). -/
theorem Staged.activate (h : Staged s .activate r v) (hw : v.stager.state ≠ .writing)
    (hp : v.stager.port = some r.port) : workOf .activate r (s.dropRequest .activate r.port) =
      match parseNumber 4 r.payload with
      | none => (v, .bare .badRequest)
      | some issue => match v.stager.summary with
        | none => (v, .bare .badRequest)
        | some x =>
          if issue ≠ x.issue then (v, .bare .badRequest)
          else (v.takeActivation, .ok (b4 issue ++ indication v.store.isSaving)) := by
  unfold workOf activateWork
  exact staging_own h.admin h.noted hw fun _ => hp

/-- STAGE ABORT (R154). -/
theorem Staged.stageAbort (h : Staged s .stageAbort r v) (hw : v.stager.state ≠ .writing)
    (hp : v.stager.port = some r.port) : workOf .stageAbort r (s.dropRequest .stageAbort r.port) =
      if r.payload ≠ [] then (v, .bare .badRequest)
      else (v.discardStaging, .ok (b1 v.stager.area.length)) := by
  unfold workOf stageAbortWork
  exact staging_own h.admin h.noted hw fun _ => hp

end

/-! ### A record offered (R145) -/

theorem offerRecord_accepted {v : State} {kind : Byte} {body : List Byte}
    (h : acceptsRecord v.stager.area { kind := kind, body := body } = true) : v.offerRecord (kind :: body) =
      (v.withStager { v.stager with area := v.stager.area ++ [{ kind := kind, body := body }] },
        .ok (b1 (v.stager.area.length + 1))) := by
  rw [State.offerRecord, parseRecord, Option.filter_some_pos h]

theorem offerRecord_refused {v : State} {payload : List Byte}
    (h : ∀ kind body, payload = kind :: body →
      acceptsRecord v.stager.area { kind := kind, body := body } = false) :
    v.offerRecord payload = (v, { status := .badRequest, payload := refusalBytes v.stager.area }) := by
  have hnone : (parseRecord payload).filter (acceptsRecord v.stager.area) = none := by
    cases payload with
    | nil => rfl
    | cons kind body => exact Option.filter_some_neg (by simpa using h kind body rfl)
  rw [State.offerRecord, hnone]

/-! ### Activation (R138, R150) -/

theorem indication_saving {st : Store} {values : SavedValues} (h : st.write = .saving values) :
    indication st.isSaving = [1#8] := by
  have hsaving : st.isSaving = true := by rw [Store.isSaving, h]
  rw [hsaving]
  decide

theorem indication_idle {st : Store} (h : st.write = .idle) : indication st.isSaving = [0#8] := by
  rw [Store.isSaving, h]
  decide

/-- An activation in an idle Store Controller begins the image write at once. -/
theorem takeActivation_idle {v : State} (ht : v.stager.timer = 0) (hw : v.store.write = .idle) : v.takeActivation =
    { v with stager := { v.stager with state := .writing }
             store := { v.store with write := .imageWrite, image := none, imageWaiting := false } } := by
  rw [State.takeActivation, ← ht, State.askImageWrite, State.withStager_store, hw]
  rfl

/-- An activation during a save waits behind it. -/
theorem takeActivation_saving {v : State} {values : SavedValues} (ht : v.stager.timer = 0)
    (hw : v.store.write = .saving values) : v.takeActivation =
    { v with stager := { v.stager with state := .writing }, store := { v.store with imageWaiting := true } } := by
  rw [State.takeActivation, ← ht, State.askImageWrite, State.withStager_store, hw]
  rfl

end Sys2Proof.Machine.Images
end

section
/-! SUPPORT. The place of a record in an image (R144, R145), and STAGE BEGIN, STAGE RECORD and STAGE ABORT (O42). -/

namespace Sys2Proof.Machine.Images

/-! ### The table of R145 -/

section

variable {area : List ImageRecord} {kind index : Nat}

theorem placeAccepts_empty : placeAccepts [] kind index = true ↔ kind = kindHeader := by
  simp [placeAccepts, lastIs]

theorem placeAccepts_closed (h : lastIs area kindTrailer = true) : placeAccepts area kind index = false := by
  rw [placeAccepts]
  exact if_pos h

theorem placeAccepts_class (h : lastIs area kindTrailer = false) (h1 : 1 ≤ area.length) (h4 : area.length ≤ 4) :
    placeAccepts area kind index = true ↔ kind = kindClass ∧ index = area.length - 1 := by
  simp only [placeAccepts, h, Bool.false_eq_true, if_false, show area.length ≠ 0 by omega, h4, if_true,
    Bool.and_eq_true, beq_iff_eq]

theorem placeAccepts_pool (h : lastIs area kindTrailer = false) (h5 : 5 ≤ area.length) (h8 : area.length ≤ 8) :
    placeAccepts area kind index = true ↔ kind = kindPool ∧ index = area.length - 5 := by
  simp only [placeAccepts, h, Bool.false_eq_true, if_false, show area.length ≠ 0 by omega,
    show ¬ area.length ≤ 4 by omega, h8, if_true, Bool.and_eq_true, beq_iff_eq]

theorem placeAccepts_late (h : lastIs area kindTrailer = false) (h9 : 9 ≤ area.length) :
    placeAccepts area kind index = true ↔
      (kind = kindFeature ∧ lastIs area kindBundle = false ∧ index < Config.featureSlots ∧
        isAbove (lastIndex area kindFeature) index = true) ∨
      (kind = kindBundle ∧ index < Config.bundleSlots ∧ isAbove (lastIndex area kindBundle) index = true) ∨
      kind = kindTrailer := by
  simp only [placeAccepts, h, Bool.false_eq_true, if_false, show area.length ≠ 0 by omega,
    show ¬ area.length ≤ 4 by omega, show ¬ area.length ≤ 8 by omega]
  by_cases hf : kind = kindFeature
  · subst hf
    simp [kindFeature, kindBundle, kindTrailer, and_assoc]
  · by_cases hb : kind = kindBundle
    · subst hb
      simp [kindFeature, kindBundle, kindTrailer]
    · simp [hf, hb]

/-- Whatever index a kind is accepted with, some index of six bits is accepted (R145). -/
theorem placeAccepts_small (h : placeAccepts area kind index = true) :
    ∃ i < 64, placeAccepts area kind i = true := by
  cases hl : lastIs area kindTrailer with
  | true => rw [placeAccepts_closed hl] at h; cases h
  | false =>
    rcases Nat.lt_or_ge area.length 1 with h0 | h1
    · obtain rfl : area = [] := List.length_eq_zero_iff.mp (by omega)
      exact ⟨0, by decide, placeAccepts_empty.mpr (placeAccepts_empty.mp h)⟩
    · rcases Nat.lt_or_ge area.length 5 with h4 | h5
      · have := (placeAccepts_class hl h1 (by omega)).mp h
        exact ⟨index, by omega, h⟩
      · rcases Nat.lt_or_ge area.length 9 with h8 | h9
        · have := (placeAccepts_pool hl h5 (by omega)).mp h
          exact ⟨index, by omega, h⟩
        · rcases (placeAccepts_late hl h9).mp h with ⟨-, -, hi, -⟩ | ⟨-, hi, -⟩ | ht
          · exact ⟨index, hi, h⟩
          · exact ⟨index, Nat.lt_trans hi (by decide), h⟩
          · exact ⟨0, by decide, (placeAccepts_late hl h9).mpr (.inr (.inr ht))⟩

end

/-! ### The last records held (R145) -/

theorem lastIs_iff (area : List ImageRecord) {n : Nat} (hn : n < 256) :
    lastIs area n = true ↔ ∃ z, area.getLast? = some z ∧ z.kind = BitVec.ofNat 8 n := by
  unfold lastIs
  split
  · rename_i z hz
    rw [isKind_iff z hn, hz]
    simp
  · rename_i hz
    simp [hz]

theorem lastIs_some {area : List ImageRecord} {z : ImageRecord} (hz : area.getLast? = some z) {n : Nat} (hn : n < 256) :
    lastIs area n = false ↔ z.kind ≠ BitVec.ofNat 8 n := by
  rw [← Bool.not_eq_true, lastIs_iff area hn, hz]
  simp

theorem isKind_eq (n : Nat) (hn : n < 256) :
    (fun r : ImageRecord => r.isKind n) = fun r => r.kind == BitVec.ofNat 8 n :=
  funext fun r => Bool.eq_iff_iff.mpr <| (isKind_iff r hn).trans beq_iff_eq.symm

/-- An index is above the last one held of a kind: above that of the last record of the kind, where there is one. -/
theorem isAbove_lastIndex (area : List ImageRecord) (i : Nat) {n : Nat} (hn : n < 256) :
    isAbove (lastIndex area n) i = true ↔
      ∀ x, (area.filter fun y => y.kind == BitVec.ofNat 8 n).getLast? = some x → x.index < i := by
  have hlast : area.reverse.find? (fun r => r.isKind n) =
      (area.filter fun y => y.kind == BitVec.ofNat 8 n).getLast? := by
    rw [isKind_eq n hn, ← List.head?_filter, List.filter_reverse, List.head?_reverse]
  rw [lastIndex, hlast]
  cases (area.filter fun y => y.kind == BitVec.ofNat 8 n).getLast? with
  | none => simp [isAbove]
  | some x => simp [isAbove]

/-! ### Records accepted (R144, R145) -/

theorem acceptsRecord_iff (area : List ImageRecord) (r : ImageRecord) :
    acceptsRecord area r = true ↔
      bodyLength r.kind.toNat = some r.body.length ∧ placeAccepts area r.kind.toNat r.index = true := by
  rw [acceptsRecord, Bool.and_eq_true, beq_iff_eq]

/-- The length of a known kind's body (R144) goes with the kind. -/
theorem kind_and_length (r : ImageRecord) {n len : Nat} (hn : n < 256) (hlen : bodyLength n = some len) :
    bodyLength r.kind.toNat = some r.body.length ∧ r.kind.toNat = n ↔
      r.kind = BitVec.ofNat 8 n ∧ r.body.length = len := by
  have hkind : r.kind.toNat = n ↔ r.kind = BitVec.ofNat 8 n := by
    rw [← isKind_iff r hn, ImageRecord.isKind, beq_iff_eq]
  rw [← hkind]
  constructor
  · rintro ⟨hl, hk⟩
    rw [hk, hlen] at hl
    exact ⟨hk, (Option.some.inj hl).symm⟩
  · rintro ⟨hk, rfl⟩
    exact ⟨hk ▸ hlen, hk⟩

theorem kind_length_and (r : ImageRecord) {n len : Nat} {p : Prop} (hn : n < 256) (hlen : bodyLength n = some len) :
    bodyLength r.kind.toNat = some r.body.length ∧ r.kind.toNat = n ∧ p ↔
      r.kind = BitVec.ofNat 8 n ∧ r.body.length = len ∧ p := by
  rw [← and_assoc, kind_and_length r hn hlen, and_assoc]

section

variable {area : List ImageRecord} {z : ImageRecord}

theorem acceptsRecord_empty (r : ImageRecord) :
    acceptsRecord [] r = true ↔ r.kind = 1#8 ∧ r.body.length = 17 := by
  rw [acceptsRecord_iff, placeAccepts_empty]
  exact kind_and_length r (by decide) rfl

theorem acceptsRecord_closed (hz : area.getLast? = some z) (hk : z.kind = 6#8) (r : ImageRecord) :
    acceptsRecord area r = false := by
  rw [acceptsRecord, placeAccepts_closed ((lastIs_iff area (by decide)).mpr ⟨z, hz, hk⟩), Bool.and_false]

variable (hz : area.getLast? = some z) (hk : z.kind ≠ 6#8)
include hz hk

theorem acceptsRecord_class (h1 : 1 ≤ area.length) (h4 : area.length ≤ 4) (r : ImageRecord) :
    acceptsRecord area r = true ↔ r.kind = 2#8 ∧ r.body.length = 2 ∧ r.index = area.length - 1 := by
  rw [acceptsRecord_iff, placeAccepts_class ((lastIs_some hz (by decide)).mpr hk) h1 h4]
  exact kind_length_and r (by decide) rfl

theorem acceptsRecord_pool (h5 : 5 ≤ area.length) (h8 : area.length ≤ 8) (r : ImageRecord) :
    acceptsRecord area r = true ↔ r.kind = 3#8 ∧ r.body.length = 13 ∧ r.index = area.length - 5 := by
  rw [acceptsRecord_iff, placeAccepts_pool ((lastIs_some hz (by decide)).mpr hk) h5 h8]
  exact kind_length_and r (by decide) rfl

theorem acceptsRecord_late (h9 : 9 ≤ area.length) (r : ImageRecord) :
    acceptsRecord area r = true ↔
      (r.kind = 4#8 ∧ r.body.length = 21 ∧ z.kind ≠ 5#8 ∧ r.index < 64 ∧
        ∀ x, (area.filter fun y => y.kind == 4#8).getLast? = some x → x.index < r.index) ∨
      (r.kind = 5#8 ∧ r.body.length = 20 ∧ r.index < 32 ∧
        ∀ x, (area.filter fun y => y.kind == 5#8).getLast? = some x → x.index < r.index) ∨
      (r.kind = 6#8 ∧ r.body.length = 5) := by
  rw [acceptsRecord_iff, placeAccepts_late ((lastIs_some hz (by decide)).mpr hk) h9,
    lastIs_some hz (n := kindBundle) (by decide), isAbove_lastIndex area r.index (n := kindFeature) (by decide),
    isAbove_lastIndex area r.index (n := kindBundle) (by decide), and_or_left, and_or_left]
  exact or_congr (kind_length_and r (n := kindFeature) (by decide) rfl)
    (or_congr (kind_length_and r (n := kindBundle) (by decide) rfl)
      (kind_and_length r (n := kindTrailer) (by decide) rfl))

end

/-! ### The kinds accepted next (R193, log 16) -/

theorem flagBits_testBit (l : List Bool) (i : Nat) : (flagBits l).testBit i = l.getD i false := by
  induction l generalizing i with
  | nil => simp [flagBits]
  | cons b l ih =>
    have hnat : flagBits (b :: l) = 2 * flagBits l + b.toNat := by
      rw [flagBits, Nat.add_comm]
      cases b <;> rfl
    cases i with
    | zero => rw [hnat]; cases b <;> simp
    | succ i =>
      rw [Nat.testBit_succ, hnat, show (2 * flagBits l + b.toNat) / 2 = flagBits l by have := b.toNat_lt; omega, ih]
      rfl

/-- A record of a kind with an index of six bits (R144). -/
def sampleRecord (kind index len : Nat) : ImageRecord :=
  { kind := BitVec.ofNat 8 kind, body := BitVec.ofNat 8 index :: List.replicate (len - 1) 0#8 }

theorem sampleRecord_index {kind index len : Nat} (h : index < 64) : (sampleRecord kind index len).index = index := by
  show (0 * 256 + (BitVec.ofNat 8 index).toNat) = index
  rw [BitVec.toNat_ofNat]
  omega

/-- A kind is accepted next with some index exactly where some record of it is accepted. -/
theorem some_accepted {kind len : Nat} (hk : kind < 256) (hlen : bodyLength kind = some len) (hpos : 1 ≤ len)
    (area : List ImageRecord) : ((List.range 64).any fun i => placeAccepts area kind i) = true ↔
      ∃ r, r.kind = BitVec.ofNat 8 kind ∧ acceptsRecord area r = true := by
  rw [List.any_eq_true]
  constructor
  · rintro ⟨i, hi, hplace⟩
    have hnat : (sampleRecord kind i len).kind.toNat = kind := by
      show (BitVec.ofNat 8 kind).toNat = kind
      rw [BitVec.toNat_ofNat, Nat.mod_eq_of_lt hk]
    refine ⟨sampleRecord kind i len, rfl, (acceptsRecord_iff _ _).mpr ⟨?_, ?_⟩⟩
    · rw [hnat, hlen]
      simp [sampleRecord]
      omega
    · rw [hnat, sampleRecord_index (List.mem_range.mp hi)]
      exact hplace
  · rintro ⟨r, hr, hacc⟩
    obtain ⟨-, hplace⟩ := (acceptsRecord_iff _ _).mp hacc
    rw [hr, BitVec.toNat_ofNat, Nat.mod_eq_of_lt hk] at hplace
    obtain ⟨i, hi, h⟩ := placeAccepts_small hplace
    exact ⟨i, List.mem_range.mpr hi, h⟩

/-- The kinds accepted next stand in one byte, one bit for each (R193). -/
theorem kindsNext_bits (area : List ImageRecord) :
    ∃ b : Byte, kindsNext area = [b] ∧ ∀ i, i < 8 → b.getLsbD i =
      ([1, 2, 3, 4, 5, 6].map fun kind => (List.range 64).any fun j => placeAccepts area kind j).getD i false := by
  refine ⟨_, congrArg (fun n => [BitVec.ofNat 8 n]) (Nat.div_one _), fun i hi => ?_⟩
  rw [BitVec.getLsbD_ofNat, flagBits_testBit, decide_eq_true hi, Bool.true_and]

/-- Each bit of the kinds accepted next says whether some record of its kind would be accepted. -/
theorem kindsNext_iff (area : List ImageRecord) : ∃ b : Byte,
    kindsNext area = [b] ∧ b.getLsbD 6 = false ∧ b.getLsbD 7 = false ∧
    ∀ i, i < 6 → (b.getLsbD i = true ↔ ∃ r, r.kind = BitVec.ofNat 8 (i + 1) ∧ acceptsRecord area r = true) := by
  obtain ⟨b, hb, hbits⟩ := kindsNext_bits area
  refine ⟨b, hb, hbits 6 (by decide), hbits 7 (by decide), fun i hi => ?_⟩
  rw [hbits i (by omega)]
  match i, hi with
  | 0, _ => exact some_accepted (kind := 1) (by decide) rfl (by decide) area
  | 1, _ => exact some_accepted (kind := 2) (by decide) rfl (by decide) area
  | 2, _ => exact some_accepted (kind := 3) (by decide) rfl (by decide) area
  | 3, _ => exact some_accepted (kind := 4) (by decide) rfl (by decide) area
  | 4, _ => exact some_accepted (kind := 5) (by decide) rfl (by decide) area
  | 5, _ => exact some_accepted (kind := 6) (by decide) rfl (by decide) area

/-! ### The rows (R142 to R145, R153, R154) -/

/-- The stager as the statements on staging commands write it. -/
theorem staged_of_ready {s v : State} {r : Request} {t : Stager} {c : Command} (hready : s.Ready r)
    (hadmin : (s.basis r).privileges.admin = true)
    (ht : t = if s.stager.port = some r.port then { s.stager with timer := 0 } else s.stager)
    (hv : v = { s.dropRequest r.command r.port with stager := t }) (hc : r.command = c) : Staged s c r v := by
  subst hc hv ht
  exact ⟨hready, rfl, hadmin, noteStaging_eq _ _⟩

/-- Settles O42. -/
theorem stagingBuildsInSequence : Obligations.StagingBuildsInSequence := by
  refine ⟨fun s r t v hready hadmin ht hv => ?_, kindsNext_iff, fun area r => ⟨?_, fun z hz hk => ?_, fun z hz hk =>
    ⟨fun h1 h4 => ?_, fun h5 h8 => ?_, fun h9 => ?_⟩⟩⟩
  · have hstaged {c : Command} (hc : r.command = c) : Staged s c r v := staged_of_ready hready hadmin ht hv hc
    obtain rfl : v.stager = t := by rw [hv]
    clear ht hv
    refine ⟨fun c hmem hc => ⟨(hstaged hc).busy hmem, fun hw hbegin hp => (hstaged hc).foreign hmem hbegin hw hp⟩,
      fun hc hw => ?_, fun hc hp => ?_, fun hc hp hw => ?_⟩
    · have h := hstaged hc
      have hwork := h.stageBegin hw
      refine ⟨fun hpay => h.row ?_, fun hpay hidle => h.row ?_, fun p hpay hidle hp => h.row ?_⟩
      · rw [hwork, if_pos hpay]
      · rw [hwork, if_neg (not_not.mpr hpay), if_pos hidle]
        rfl
      · rw [hwork, if_neg (not_not.mpr hpay), if_neg hidle, Stager.portByte, hp]
    · have h := hstaged hc
      have hopened (ho : v.stager.state = .opened) := h.stageRecord (by rw [ho]; decide) hp
      refine ⟨fun hcomplete => h.row ?_, fun kind body ho hpay hacc => h.row ?_, fun ho hrefused => h.row ?_⟩
      · rw [h.stageRecord (by rw [hcomplete]; decide) hp, if_neg (by rw [hcomplete]; decide)]
      · rw [hopened ho, if_pos ho, hpay, offerRecord_accepted hacc]
        rfl
      · rw [hopened ho, if_pos ho, offerRecord_refused hrefused]
        rfl
    · have h := hstaged hc
      have hwork := h.stageAbort hw hp
      refine ⟨fun hpay => h.row ?_, fun hpay => h.row ?_⟩
      · rw [hwork, if_pos hpay]
      · rw [hwork, if_neg (not_not.mpr hpay)]
        rfl
  · rintro rfl
    exact acceptsRecord_empty r
  · exact acceptsRecord_closed hz hk r
  · exact acceptsRecord_class hz hk h1 h4 r
  · exact acceptsRecord_pool hz hk h5 h8 r
  · exact acceptsRecord_late hz hk h9 r

end Sys2Proof.Machine.Images
end

section
/-! SUPPORT. STAGE FINISH and ACTIVATE (R146, R147, R150; O43). -/

namespace Sys2Proof.Machine.Images

open Charges

theorem isKind_kindFeature : (fun r : ImageRecord => r.isKind kindFeature) = fun r => r.kind == 4#8 :=
  isKind_eq kindFeature (by decide)

theorem isKind_kindBundle : (fun r : ImageRecord => r.isKind kindBundle) = fun r => r.kind == 5#8 :=
  isKind_eq kindBundle (by decide)

/-- The verified summary of a staging, each field from its records (R146). -/
theorem summaryOf_eq (area : List ImageRecord) : summaryOf area =
    { issue := (headOf area).header.issue, records := area.length
      features := (area.filter fun y => y.kind == 4#8).length
      bundles := (area.filter fun y => y.kind == 5#8).length, crc := recordsCrc area.dropLast } := by
  rw [summaryOf, isKind_kindFeature, isKind_kindBundle]

theorem verifyStaging_fails {v : State} {c : Catalogue} {code : VerifyCode} {n : Nat}
    (h : verifyFault v.stager.area c.activeIssue = some (code, n)) :
    v.verifyStaging c = (v.discardStaging, { status := .badRequest, payload := b1 code.code ++ b1 n }) := by
  rw [State.verifyStaging, h]

theorem verifyStaging_passes {v : State} {c : Catalogue} (h : verifyFault v.stager.area c.activeIssue = none) :
    v.verifyStaging c = (v.withStager { v.stager with state := .complete, summary := some (summaryOf v.stager.area) },
      .ok (summaryOf v.stager.area).bytes) := by
  rw [State.verifyStaging, h]

/-- Settles O43. -/
theorem finishVerifiesAndActivateWrites : Obligations.FinishVerifiesAndActivateWrites := by
  refine ⟨fun payload n => parseNumber_iff, fun s r t v hready hadmin hp hw ht hv => ⟨fun hc => ?_, fun hc => ?_⟩,
    fun area active hlast => ?_, fun rs z active hz => ?_⟩
  · have h : Staged s .stageFinish r v := staged_of_ready hready hadmin (ht.trans (if_pos hp).symm) hv hc
    have hbasis : v.basis r = s.basis r := by rw [hv]; rfl
    obtain rfl : v.stager = t := by rw [hv]
    have hwork := h.stageFinish (by rw [ht]; exact hw) (by rw [ht]; exact hp)
    refine ⟨fun hpay => h.row ?_, fun x hpay hx => h.row ?_, fun c n hpay hx hfault => h.row ?_,
      fun x hpay hx hfault hsum => h.row ?_⟩
    · rw [hwork, if_pos hpay]
    all_goals rw [hwork, if_neg (not_not.mpr hpay), hx]
    · rfl
    · exact verifyStaging_fails (hbasis ▸ hfault)
    · rw [hsum, ← summaryOf_eq]
      exact verifyStaging_passes (hbasis ▸ hfault)
  · have h : Staged s .activate r v := staged_of_ready hready hadmin (ht.trans (if_pos hp).symm) hv hc
    have hstore : v.store = s.store := by rw [hv]; rfl
    obtain rfl : v.stager = t := by rw [hv]
    have hwork := h.activate (by rw [ht]; exact hw) (by rw [ht]; exact hp)
    have htimer : v.stager.timer = 0 := by rw [ht]
    refine ⟨fun hbad => h.row ?_, fun x hn hx hidle => h.row ?_, fun x values hn hx hsaving => h.row ?_⟩
    · rw [hwork]
      obtain hn | hx | ⟨issue, x, hn, hx, hne⟩ := hbad
      · rw [hn]
      · rw [hx]
        cases parseNumber 4 r.payload <;> rfl
      · rw [hn, hx]
        exact if_pos hne
    all_goals
      have htaken : workOf .activate r (s.dropRequest .activate r.port) =
          (v.takeActivation, .ok (b4 x.issue ++ indication v.store.isSaving)) := by
        rw [hwork, hn, hx]
        exact if_neg (not_not.mpr rfl)
    · rw [htaken, takeActivation_idle htimer (hstore ▸ hidle), hstore, indication_idle hidle]
    · rw [htaken, takeActivation_saving htimer (hstore ▸ hsaving), hstore, indication_saving hsaving]
  · refine verifyFault_noTrailer (fun z hz => ?_) active
    exact Bool.eq_false_iff.mpr fun h => hlast z hz ((isKind_trailer_iff z).mp h)
  · have hz := (isKind_trailer_iff z).mpr hz
    refine ⟨verifyFault_count hz, verifyFault_crc hz, fun i hn hc ha hi => verifyFault_issue hz hn hc ⟨i, ha, hi⟩,
      fun hn hc hnewer => ?_⟩
    rw [verifyFault_records hz hn hc fun ⟨i, ha, hi⟩ => absurd (hnewer i ha) (Nat.not_lt.mpr hi)]
    refine ⟨fun hpass => firstRecordFault_none (earlier := []) hpass, fun i c hi hpass hfail => ?_⟩
    rw [firstRecordFault_some (earlier := []) hi hpass hfail, List.length_nil, Nat.zero_add]

end Sys2Proof.Machine.Images
end

section
/-! SUPPORT. A part without supply or held in RESET takes no event (R140, R157; O3). -/

namespace Sys2Proof.Machine.Images

/-- `t` is `s` but for the levels of the PRST pins and of the recorder's JEND (log 12). -/
structure LevelsOnly (s t : State) : Prop where
  rest : { t with ports := s.ports, journal := s.journal } = s
  journal : t.journal = { s.journal with jendRecorder := t.journal.jendRecorder }
  port : ∀ p, t.ports.get p = { s.ports.get p with prst := (t.ports.get p).prst }

theorem LevelsOnly.refl (s : State) : LevelsOnly s s := ⟨rfl, rfl, fun _ => rfl⟩

theorem levelsOnly_prst (s : State) (p : Port) (b : Bool) :
    LevelsOnly s (s.modifyPort p fun q => { q with prst := b }) := by
  refine ⟨rfl, rfl, fun k => ?_⟩
  rw [State.modifyPort_ports, Quad.get_modify]
  split
  · rename_i h
    rw [h]
  · rfl

theorem levelsOnly_jend (s : State) (b : Bool) : LevelsOnly s (s.withJend b) := ⟨rfl, rfl, fun _ => rfl⟩

/-- What an event answers, with nothing but levels changed. -/
abbrev TakesLevels (s : State) (o : Host.Outcome State Fault Refusal) : Prop := ∃ t, o = .next t ∧ LevelsOnly s t

theorem takesLevels_same {s : State} {o : Host.Outcome State Fault Refusal} (h : o = .next s) : TakesLevels s o :=
  ⟨s, h, .refl s⟩

section

variable {s : State} (hrun : s.running = false)
include hrun

theorem whenRunning_held (f : State → State) : whenRunning s f = .next s := by
  rw [whenRunning, hrun]; rfl

theorem serve_held (c : Command) (p : Port) (work : Request → State → State × Reply) : serve c p s work = .next s :=
  whenRunning_held hrun _

theorem execPrstAssert_held (p : Port) :
    execPrstAssert p s = .next (s.modifyPort p fun q => { q with prst := true }) := by
  rw [execPrstAssert, hrun]; rfl

/-- An event at the journal port moves the level of JEND alone. -/
theorem jendEvent_held (b : Bool) (f : State → State) : TakesLevels s (whenRunning (s.withJend b) f) :=
  ⟨_, whenRunning_held (s := s.withJend b) hrun f, levelsOnly_jend s b⟩

end

theorem execSaveComplete_idle {s : State} (h : s.store.write = .idle) : execSaveComplete s = .next s := by
  rw [execSaveComplete, h]
  cases s.powered <;> rfl

theorem execImageWriteComplete_idle {s : State} (h : s.store.write = .idle) (ahead : Quad Nat) :
    execImageWriteComplete ahead s = .next s := by
  rw [execImageWriteComplete, h]
  cases s.powered <;> rfl

/-- Settles O3. -/
theorem heldPartTakesNothing : Obligations.HeldPartTakesNothing := by
  intro i s hrun hwrite hon hloss hassert hrelease
  suffices h : TakesLevels s (exec i s) by
    obtain ⟨t, ht, hlevels⟩ := h
    exact ⟨t, ht, hlevels.rest, hlevels.journal, hlevels.port⟩
  cases i
  case powerOn x => exact absurd rfl (hon x)
  case powerLoss => exact absurd rfl hloss
  case resetAssert => exact absurd rfl hassert
  case resetRelease x => exact absurd rfl (hrelease x)
  case prstAssert p => exact ⟨_, execPrstAssert_held hrun p, levelsOnly_prst s p true⟩
  case prstRelease p => exact ⟨_, rfl, levelsOnly_prst s p false⟩
  case batchBegin b => exact jendEvent_held hrun b _
  case recordAcknowledge b =>
    dsimp only [exec, execRecordAcknowledge]
    exact jendEvent_held hrun b _
  case saveComplete => exact takesLevels_same (execSaveComplete_idle hwrite)
  case imageWriteComplete ahead => exact takesLevels_same (execImageWriteComplete_idle hwrite ahead)
  case requestFrame | readTransaction | attnPulseEnd | wclkLowSeen | jclkRisingEdge =>
    dsimp only [exec, execRequestFrame, execReadTransaction, execAttnPulseEnd, execWclkLowSeen, execJclkRisingEdge]
    exact takesLevels_same (whenRunning_held hrun _)
  case secondTick | minuteAdvance | windowTimerExpiry | stagingTimeout | wclkRisingEdge | sweepWindowEnd | sweepVisit |
      reclaim | grantEngineWindowEnd | waitExpiry | demandWatchWindowEnd | portWindowEnd =>
    exact takesLevels_same (whenRunning_held hrun _)
  all_goals exact takesLevels_same (serve_held hrun _ _ _)

end Sys2Proof.Machine.Images
end

section
/-! SUPPORT. The tests of each kind of image record (R149, R193; O44). -/

namespace Sys2Proof.Machine.Images

open Timekeeping

/-! ### Fields (R193) -/

theorem field_zero (body : List Byte) (off : Nat) : field body off 0 = 0 := by simp [field, beNat]

/-- One byte more at the low end. -/
theorem field_succ {body : List Byte} {off n : Nat} {b : Byte} (h : body[off + n]? = some b) :
    field body off (n + 1) = field body off n * 256 + b.toNat := by
  have htake : (body.drop off).take (n + 1) = (body.drop off).take n ++ [b] := by
    rw [List.take_add_one, List.getElem?_drop, h]; rfl
  rw [field, htake, beNat, List.foldl_append]
  rfl

/-! ### Ranges -/

theorem within_iff {lo hi n : Nat} : within lo hi n = true ↔ lo ≤ n ∧ n ≤ hi := by simp [within]

theorem fours_all (f : Fin 4 → Bool) : fours.all f = true ↔ ∀ p : Fin 4, f p = true := by
  simp [fours, Fin.forall_fin_succ]

theorem headerInRange_iff (body : List Byte) : headerInRange body = true ↔
    field body 8 1 ≤ 5 ∧ field body 9 1 ≤ 3 ∧ 1 ≤ field body 10 1 ∧ field body 10 1 ≤ 8 ∧ field body 11 1 ≤ 64 ∧
    (∀ p, p < 4 → field body (12 + p) 1 ≤ 3 ∨ field body (12 + p) 1 = 0x80) ∧
    1 ≤ field body 16 1 ∧ field body 16 1 ≤ 64 := by
  simp only [headerInRange, Bool.and_eq_true, within_iff, fours_all, Bool.or_eq_true, beq_iff_eq, Nat.zero_le, true_and,
    and_assoc, Fin.forall_iff]

theorem poolInRange_iff (body : List Byte) : poolInRange body = true ↔
    field body 1 3 ≤ 1048575 ∧ field body 4 3 ≤ 262143 ∧ field body 7 1 ≤ 1 ∧ 1 ≤ field body 8 3 ∧
    field body 8 3 ≤ 1048575 ∧ 1 ≤ field body 11 1 ∧ field body 11 1 ≤ 8 ∧ 1 ≤ field body 12 1 ∧
    field body 12 1 ≤ field body 11 1 := by
  simp only [poolInRange, Bool.and_eq_true, within_iff, Nat.zero_le, true_and, and_assoc]

theorem featureInRange_iff (body : List Byte) : featureInRange body = true ↔
    field body 3 1 ≤ 3 ∧ 1 ≤ field body 4 1 ∧ (∀ c, c < 4 → field body (5 + c) 1 ≤ 64) ∧ 1 ≤ field body 9 1 ∧
    field body 9 1 ≤ 64 ∧ field body 20 1 ≤ 7 := by
  have hbyte : field body 4 1 ≤ 255 := Nat.le_of_lt_succ (field_lt body 4 1)
  simp only [featureInRange, Bool.and_eq_true, within_iff, fours_all, Nat.zero_le, true_and, and_assoc, Fin.forall_iff,
    hbyte]

theorem isCode_iff (n : Nat) : isCode n = true ↔ 1 ≤ n ∧ n ≤ 65534 := within_iff

/-- A code stands on no earlier record of the kind (R149). -/
theorem codeRepeated_iff (earlier : List ImageRecord) (body : List Byte) {kind : Nat} (hk : kind < 256) :
    codeRepeated earlier kind body = false ↔
      ∀ x ∈ earlier, x.kind = BitVec.ofNat 8 kind → field x.body 1 2 ≠ field body 1 2 := by
  simp only [codeRepeated, List.any_eq_false, Bool.and_eq_true, isKind_iff _ hk, beq_iff_eq, not_and, ne_eq]

/-! ### Records with ranges alone (R149) -/

/-- A record that one range test judges. -/
theorem of_range_test {x : Option VerifyCode} {b : Bool} {ok : Prop} (hx : x = if b then none else some .fieldRange)
    (hb : b = true ↔ ok) : (ok → x = none) ∧ (¬ ok → x = some .fieldRange) := by
  rw [← hb, hx]
  exact ⟨fun h => if_pos h, fun h => if_neg h⟩

section

variable (earlier : List ImageRecord) {r : ImageRecord}

theorem recordFault_header (h : r.kind = 1#8) :
    recordFault earlier r = if headerInRange r.body then none else some .fieldRange := by
  rw [recordFault, h]; rfl

theorem recordFault_class (h : r.kind = 2#8) :
    recordFault earlier r = if within 0 3 (field r.body 1 1) then none else some .fieldRange := by
  rw [recordFault, h]; rfl

theorem recordFault_pool (h : r.kind = 3#8) :
    recordFault earlier r = if poolInRange r.body then none else some .fieldRange := by
  rw [recordFault, h]; rfl

theorem recordFault_feature (h : r.kind = 4#8) : recordFault earlier r = featureFault earlier r.body := by
  rw [recordFault, h]; rfl

theorem recordFault_bundle (h : r.kind = 5#8) : recordFault earlier r = bundleFault earlier r.body := by
  rw [recordFault, h]; rfl

end

/-! ### The held lines of a BUNDLE (R12, R149) -/

/-- The first `m` of the eight positions are held: feature indices stand there, and 255 at every other (R12, R149). -/
def HoldsLines (body : List Byte) (m : Nat) : Prop :=
  ∀ i, i < 8 → (i < m → field body (4 + 2 * i) 1 < 64) ∧ (m ≤ i → field body (4 + 2 * i) 1 = 255)

/-- A test takes the start of a range where it holds there and fails right behind. -/
theorem takeWhile_map_range {α : Type} {p : α → Bool} {g : Nat → α} {m n : Nat} (hmn : m ≤ n)
    (hp : ∀ i, i < m → p (g i) = true) (hend : m < n → p (g m) = false) :
    ((List.range n).map g).takeWhile p = (List.range m).map g := by
  obtain ⟨k, rfl⟩ := Nat.exists_eq_add_of_le hmn
  rw [List.range_add, List.map_append, List.takeWhile_append_of_pos (by simpa using hp)]
  cases k with
  | zero => simp
  | succ k => simp [List.range_succ_eq_map, hend (by omega)]

theorem HoldsLines.held {body : List Byte} {m : Nat} (h : HoldsLines body m) (hm : m ≤ 8) :
    (∀ i, i < m → (field body (4 + 2 * i) 1 != 255) = true) ∧
    (m < 8 → (field body (4 + 2 * m) 1 != 255) = false) := by
  refine ⟨fun i hi => ?_, fun hlt => by simp [(h m hlt).2 le_rfl]⟩
  have := (h i (by omega)).1 hi
  simp only [bne_iff_ne]
  omega

/-- The line at a position of a BUNDLE body (R193). -/
def lineAt (body : List Byte) (i : Nat) : BundleLine :=
  { feature := field body (4 + 2 * i) 1, base := field body (5 + 2 * i) 1 }

theorem bundleLines_eq {body : List Byte} {m : Nat} (h : HoldsLines body m) (hm : m ≤ 8) :
    bundleLines body = (List.range m).map (lineAt body) := by
  obtain ⟨hheld, hend⟩ := h.held hm
  rw [bundleLines, bundlePositions, takeWhile_map_range (p := fun x : Nat × Nat => x.1 != 255) hm hheld hend,
    List.map_map]
  rfl

/-- The feature indices of the eight positions. -/
def lineIndices (body : List Byte) : List Nat := (List.range 8).map fun i => field body (4 + 2 * i) 1

theorem lineIndices_eq (body : List Byte) : (bundlePositions body).map (·.1) = lineIndices body := by
  rw [bundlePositions, List.map_map]; rfl

theorem lineIndices_getElem {body : List Byte} {i : Nat} (h : i < (lineIndices body).length) :
    (lineIndices body)[i] = field body (4 + 2 * i) 1 := by
  simp [lineIndices]

/-- The positions before the first 255 are the first so many. -/
theorem holdsLines_iff_split (body : List Byte) {m : Nat} (hm : m ≤ 8) : HoldsLines body m ↔
    (∀ x ∈ (lineIndices body).take m, x < 64) ∧ ∀ x ∈ (lineIndices body).drop m, x = 255 := by
  have hlen : (lineIndices body).length = 8 := by simp [lineIndices]
  simp only [List.mem_take_iff_getElem, List.mem_drop_iff_getElem, lineIndices_getElem, hlen]
  constructor
  · intro h
    refine ⟨?_, ?_⟩
    · rintro x ⟨i, hi, rfl⟩
      exact (h i (by omega)).1 (by omega)
    · rintro x ⟨i, hi, rfl⟩
      exact (h (m + i) (by omega)).2 (by omega)
  · rintro ⟨hheld, hrest⟩ i hi
    refine ⟨fun him => hheld _ ⟨i, by omega, rfl⟩, fun hmi => hrest _ ⟨i - m, by omega, ?_⟩⟩
    rw [Nat.add_sub_cancel' hmi]

/-- The lines are shaped where some number of positions, at least one, is held (R149). -/
theorem linesShaped_iff (body : List Byte) : linesShaped body = true ↔ ∃ m, 1 ≤ m ∧ m ≤ 8 ∧ HoldsLines body m := by
  have hshaped : linesShaped body = true ↔
      let held := (lineIndices body).takeWhile fun i => i != 255
      held ≠ [] ∧ (∀ x ∈ held, x < Config.featureSlots) ∧ ∀ x ∈ (lineIndices body).drop held.length, x = 255 := by
    rw [linesShaped, lineIndices_eq]
    simp [and_assoc]
  rw [hshaped]
  dsimp only
  constructor
  · rintro ⟨hne, hheld, hrest⟩
    have hprefix := List.takeWhile_prefix (fun i => i != 255) (l := lineIndices body)
    have hle : ((lineIndices body).takeWhile fun i => i != 255).length ≤ 8 := by
      simpa [lineIndices] using hprefix.length_le
    refine ⟨_, List.length_pos_iff.mpr hne, hle, (holdsLines_iff_split body hle).mpr ⟨?_, hrest⟩⟩
    rwa [← List.prefix_iff_eq_take.mp hprefix]
  · rintro ⟨m, h1, hm, h⟩
    obtain ⟨hheld, hend⟩ := h.held hm
    have htake : ((lineIndices body).takeWhile fun i => i != 255) =
        (List.range m).map fun i => field body (4 + 2 * i) 1 := takeWhile_map_range hm hheld hend
    have hlen : ((lineIndices body).takeWhile fun i => i != 255).length = m := by simp [htake]
    obtain ⟨-, hrest⟩ := (holdsLines_iff_split body hm).mp h
    refine ⟨List.length_pos_iff.mp (hlen.symm ▸ h1), ?_, hlen.symm ▸ hrest⟩
    rw [htake]
    simp only [List.mem_map, List.mem_range]
    rintro x ⟨i, hi, rfl⟩
    exact (h i (by omega)).1 hi

/-- The tests of one held line, in order, behind lines of the features given (R149). -/
def lineFault (earlier : List ImageRecord) (seen : List Nat) (l : BundleLine) : Option VerifyCode :=
  match bodyAt earlier kindFeature l.feature with
  | none => some .lineAbsent
  | some body =>
    if seen.contains l.feature then some .lineRepeated
    else if within 1 64 l.base = false then some .fieldRange
    else if field body 9 1 < l.base then some .lineQuantity
    else none

section

variable {earlier : List ImageRecord}

theorem lineFaults_cons (seen : List Nat) (l : BundleLine) (ls : List BundleLine) :
    lineFaults earlier seen (l :: ls) =
      (lineFault earlier seen l).or (lineFaults earlier (l.feature :: seen) ls) := by
  rw [lineFaults, lineFault]
  cases bodyAt earlier kindFeature l.feature with
  | none => rfl
  | some body =>
    dsimp only
    split_ifs <;> rfl

/-- Only which features came before matters to a line, not their order. -/
theorem lineFault_congr {seen seen' : List Nat} {l : BundleLine} (h : l.feature ∈ seen ↔ l.feature ∈ seen') :
    lineFault earlier seen l = lineFault earlier seen' l := by
  simp only [lineFault, List.contains_iff_mem, h]

/-- The lines before line `i + 1` of a list are its first line and those before line `i` of the rest. -/
theorem lineFault_tail (seen : List Nat) (l l' : BundleLine) (ls : List BundleLine) (i : Nat) :
    lineFault earlier (seen ++ ((l :: ls).take (i + 1)).map (·.feature)) l' =
      lineFault earlier ((l.feature :: seen) ++ (ls.take i).map (·.feature)) l' :=
  lineFault_congr (by simp only [List.take_succ_cons, List.map_cons, List.mem_append, List.mem_cons]; tauto)

/-- Lines that each pass behind those before them have no fault. -/
theorem lineFaults_none {ls : List BundleLine} : ∀ {seen : List Nat},
    (∀ i, ∀ h : i < ls.length, lineFault earlier (seen ++ (ls.take i).map (·.feature)) ls[i] = none) →
    lineFaults earlier seen ls = none := by
  induction ls with
  | nil => exact fun _ => rfl
  | cons l ls ih =>
    intro seen hpass
    have hl : lineFault earlier seen l = none := by simpa using hpass 0 (Nat.succ_pos _)
    rw [lineFaults_cons, hl, Option.none_or]
    exact ih fun i hi => (lineFault_tail ..).symm.trans (hpass (i + 1) (Nat.succ_lt_succ hi))

/-- The first line that fails gives its code. -/
theorem lineFaults_some {ls : List BundleLine} {c : VerifyCode} : ∀ {seen : List Nat} {i : Nat} (h : i < ls.length),
    (∀ j, ∀ hj : j < i, lineFault earlier (seen ++ (ls.take j).map (·.feature)) ls[j] = none) →
    lineFault earlier (seen ++ (ls.take i).map (·.feature)) ls[i] = some c → lineFaults earlier seen ls = some c := by
  induction ls with
  | nil => exact fun h => absurd h (Nat.not_lt_zero _)
  | cons l ls ih =>
    intro seen i hi hpass hfail
    rw [lineFaults_cons]
    cases i with
    | zero =>
      have hl : lineFault earlier seen l = some c := by simpa using hfail
      rw [hl, Option.some_or]
    | succ i =>
      have hl : lineFault earlier seen l = none := by simpa using hpass 0 (Nat.succ_pos _)
      rw [hl, Option.none_or]
      exact ih (Nat.lt_of_succ_lt_succ hi)
        (fun j hj => (lineFault_tail ..).symm.trans (hpass (j + 1) (Nat.succ_lt_succ hj)))
        ((lineFault_tail ..).symm.trans hfail)

end

/-- The feature record with an index, found by its kind byte (R193). -/
theorem bodyAt_feature (rs : List ImageRecord) (index : Nat) : bodyAt rs kindFeature index =
    (rs.find? fun x => x.kind == 4#8 && field x.body 0 1 == index).map (·.body) := by
  have hkind (x : ImageRecord) : x.isKind kindFeature = (x.kind == 4#8) := congrFun isKind_kindFeature x
  simp only [bodyAt, hkind, ImageRecord.index]

/-- Line `i` of a bundle body, tested behind the lines before it, as R149 words it. -/
theorem lineFault_position (earlier : List ImageRecord) (body : List Byte) (i : Nat) :
    lineFault earlier ((List.range i).map fun j => (lineAt body j).feature) (lineAt body i) =
      match earlier.find? (fun x => x.kind == 4#8 && field x.body 0 1 == field body (4 + 2 * i) 1) with
      | none => some .lineAbsent
      | some x =>
        if (List.range i).any fun j => field body (4 + 2 * j) 1 == field body (4 + 2 * i) 1 then some .lineRepeated
        else if field body (5 + 2 * i) 1 = 0 ∨ 64 < field body (5 + 2 * i) 1 then some .fieldRange
        else if field x.body 9 1 < field body (5 + 2 * i) 1 then some .lineQuantity
        else none := by
  have hseen : ((List.range i).map fun j => field body (4 + 2 * j) 1).contains (field body (4 + 2 * i) 1) =
      (List.range i).any fun j => field body (4 + 2 * j) 1 == field body (4 + 2 * i) 1 := by
    rw [Bool.eq_iff_iff]
    simp
  have hbase : within 1 64 (field body (5 + 2 * i) 1) = false ↔
      field body (5 + 2 * i) 1 = 0 ∨ 64 < field body (5 + 2 * i) 1 := by
    rw [← Bool.not_eq_true, within_iff]
    omega
  simp only [lineFault, lineAt, bodyAt_feature, hseen, hbase]
  cases earlier.find? fun x => x.kind == 4#8 && field x.body 0 1 == field body (4 + 2 * i) 1 <;> rfl

/-! ### Records with a code (R149) -/

/-- The first three tests of a FEATURE or BUNDLE: its code, its being new, its ranges. -/
theorem of_coded_tests {x rest : Option VerifyCode} {isNumber repeated inRange : Bool} {code fresh ok : Prop}
    (hx : x = if isNumber = false then some .codeInvalid else if repeated then some .codeRepeated
      else if inRange = false then some .fieldRange else rest)
    (hcode : isNumber = true ↔ code) (hfresh : repeated = false ↔ fresh) (hok : inRange = true ↔ ok) :
    (¬ code → x = some .codeInvalid) ∧ (code → ¬ fresh → x = some .codeRepeated) ∧
    (code → fresh → ¬ ok → x = some .fieldRange) ∧ (code → fresh → ok → x = rest) := by
  subst hx
  rw [← hcode, ← hfresh, ← hok]
  refine ⟨fun hc => ?_, fun hc hf => ?_, fun hc hf ho => ?_, fun hc hf ho => ?_⟩
  · rw [if_pos ((Bool.not_eq_true _).mp hc)]
  · rw [if_neg (by simp [hc]), if_pos ((Bool.not_eq_false _).mp hf)]
  · rw [if_neg (by simp [hc]), if_neg (by simp [hf]), if_pos ((Bool.not_eq_true _).mp ho)]
  · rw [if_neg (by simp [hc]), if_neg (by simp [hf]), if_neg (by simp [ho])]

section

variable {earlier : List ImageRecord} {body : List Byte} {m : Nat}

/-- A bundle without shape fails LINE_SHAPE (R149). -/
theorem bundleRest_unshaped (h : ¬ ∃ m, 1 ≤ m ∧ m ≤ 8 ∧ HoldsLines body m) :
    (if linesShaped body = false then some .lineShape else lineFaults earlier [] (bundleLines body)) =
      some .lineShape :=
  if_pos (Bool.eq_false_iff.mpr fun hs => h ((linesShaped_iff body).mp hs))

/-- A shaped bundle is tested line by line (R149, log 17). -/
theorem bundleRest_shaped (h1 : 1 ≤ m) (h8 : m ≤ 8) (h : HoldsLines body m) :
    (if linesShaped body = false then some .lineShape else lineFaults earlier [] (bundleLines body)) =
      lineFaults earlier [] ((List.range m).map (lineAt body)) := by
  rw [if_neg (by simpa using (linesShaped_iff body).mpr ⟨m, h1, h8, h⟩), bundleLines_eq h h8]

/-- The lines before line `i` of a bundle are its first `i`. -/
theorem lineFault_take {i : Nat} (hi : i < m) (l : BundleLine) :
    lineFault earlier ([] ++ (((List.range m).map (lineAt body)).take i).map (·.feature)) l =
      lineFault earlier ((List.range i).map fun j => (lineAt body j).feature) l := by
  rw [List.nil_append, ← List.map_take, List.take_range, Nat.min_eq_left hi.le, List.map_map]
  rfl

variable {bad : Nat → Option VerifyCode}
  (hbad : ∀ i, bad i = lineFault earlier ((List.range i).map fun j => (lineAt body j).feature) (lineAt body i))
include hbad

theorem lineFaults_positions_none (h : ∀ i, i < m → bad i = none) :
    lineFaults earlier [] ((List.range m).map (lineAt body)) = none := by
  refine lineFaults_none fun i hi => ?_
  have him : i < m := by simpa using hi
  rw [lineFault_take him, List.getElem_map, List.getElem_range, ← hbad, h i him]

theorem lineFaults_positions_some {i : Nat} {c : VerifyCode} (hi : i < m) (hc : bad i = some c)
    (h : ∀ j, j < i → bad j = none) : lineFaults earlier [] ((List.range m).map (lineAt body)) = some c := by
  refine lineFaults_some (by simpa using hi) (fun j hj => ?_) ?_
  · rw [lineFault_take (hj.trans hi), List.getElem_map, List.getElem_range, ← hbad, h j hj]
  · rw [lineFault_take hi, List.getElem_map, List.getElem_range, ← hbad, hc]

end

/-- Settles O44. -/
theorem imageRecordsTested : Obligations.ImageRecordsTested := by
  refine ⟨fun body off n b => ⟨field_zero body off, field_succ⟩, fun earlier r f code fresh ok hf hcode hfresh =>
    ⟨fun hk hok => ?_, fun hk => ?_, fun hk hok => ?_, fun hk hok => ?_, fun hk hok => ?_⟩⟩
  all_goals obtain rfl : f = field r.body := funext₂ hf
  · exact of_range_test (recordFault_header earlier hk) ((headerInRange_iff r.body).trans hok.symm)
  · have hclass := of_range_test (recordFault_class earlier hk) (within_iff.trans (and_iff_right (Nat.zero_le _)))
    exact ⟨hclass.1, fun h => hclass.2 (Nat.not_le.mpr h)⟩
  · exact of_range_test (recordFault_pool earlier hk) ((poolInRange_iff r.body).trans hok.symm)
  · have hcode := (isCode_iff (field r.body 1 2)).trans hcode.symm
    have hfresh := (codeRepeated_iff earlier r.body (kind := kindFeature) (by decide)).trans (hk ▸ hfresh).symm
    have hok := (featureInRange_iff r.body).trans hok.symm
    obtain ⟨hinvalid, hrepeated, hrange, hrest⟩ :=
      of_coded_tests ((recordFault_feature earlier hk).trans rfl) hcode hfresh hok
    refine ⟨hinvalid, hrepeated, hrange, fun h h' h'' hterm => ?_, fun h h' h'' hterm => ?_⟩
    · exact (hrest h h' h'').trans (if_pos hterm)
    · exact (hrest h h' h'').trans (if_neg (Nat.not_le.mpr hterm))
  · have hcode := (isCode_iff (field r.body 1 2)).trans hcode.symm
    have hfresh := (codeRepeated_iff earlier r.body (kind := kindBundle) (by decide)).trans (hk ▸ hfresh).symm
    have hok := (within_iff.trans (and_iff_right (Nat.zero_le _))).trans hok.symm
    obtain ⟨hinvalid, hrepeated, hrange, hrest⟩ :=
      of_coded_tests ((recordFault_bundle earlier hk).trans rfl) hcode hfresh hok
    refine ⟨hinvalid, hrepeated, hrange, fun h h' h'' hshape => ?_, fun m bad h h' h'' h1 h8 hshape hbad => ?_⟩
    · exact (hrest h h' h'').trans (bundleRest_unshaped hshape)
    · have hbad (i : Nat) := (hbad i).trans (lineFault_position earlier r.body i).symm
      rw [(hrest h h' h'').trans (bundleRest_shaped h1 h8 hshape)]
      exact ⟨lineFaults_positions_none hbad, fun i c hi hc hj => lineFaults_positions_some hbad hi hc hj⟩

end Sys2Proof.Machine.Images
end

section
/-! SUPPORT. Records written, skipped and counted (R171 to R173; O52), and the journal port: when a batch begins, how
the recorder's clock and acknowledgement move it, and the bytes it reads (R174, R176 to R179, R193; O53). -/

namespace Sys2Proof.Machine.Logging

open Timekeeping

/-! ### Records (R171 to R173) -/

/-- The next sequence number, below the wrap and at it (R171). -/
theorem nextSeq_wraps {n : Nat} (h : n ≤ 4294967295) :
    (n + 1) % (Config.maxWord + 1) = if n = 4294967295 then 0 else n + 1 := by
  simp only [Config.maxWord]
  split <;> omega

/-- The gap count below its limit and at it (R173). -/
theorem gap_saturates {n : Nat} (h : n ≤ 65535) :
    min Config.maxGap (n + 1) = if n = 65535 then 65535 else n + 1 := by
  simp only [Config.maxGap]
  split <;> omega

theorem writeDroppable_of_room {j : Journal} (h : j.fifo.length + j.rv + 1 ≤ 512) (m : Nat) (b : RecordBody) :
    j.writeDroppable m b = j.write m b :=
  if_pos ((j.room_iff 1).mpr h)

theorem writeDroppable_of_full {j : Journal} (h : 512 < j.fifo.length + j.rv + 1) (m : Nat) (b : RecordBody) :
    j.writeDroppable m b = { j with gap := min Config.maxGap (j.gap + 1) } :=
  if_neg fun hroom => Nat.not_le.mpr h ((j.room_iff 1).mp hroom)

/-- Settles O52: a record written, the two conversions of a reservation, and the two outcomes of a droppable record. -/
theorem droppableRecordsKeepPlaces : Obligations.DroppableRecordsKeepPlaces := by
  intro j m b
  refine ⟨fun hseq => ⟨j.record m b, ?_, rfl⟩, fun s hj hm => ?_, fun h => writeDroppable_of_room h m b,
    fun h hgap => ?_⟩
  · rw [← nextSeq_wraps hseq]; rfl
  · subst hj hm; exact ⟨rfl, rfl⟩
  · rw [writeDroppable_of_full h, gap_saturates hgap]

/-! ### The batch (R176 to R179) -/

/-- While no batch runs, the recorder alone drives JEND (R179). -/
theorem jend_of_idle {j : Journal} (h : j.batch = .idle) : j.jend = j.jendRecorder := by
  simp [Journal.jend, Journal.jendDriven, h]

/-- Before the last record of a batch the recorder alone drives JEND (R179). -/
theorem jend_of_more {j : Journal} (h : 2 ≤ j.remaining) : j.jend = j.jendRecorder := by
  simp [Journal.jend, Journal.jendDriven, show j.remaining ≠ 1 by omega]

/-- A batch begins in a part with a catalogue, out of a journal that holds records and whose JEND is released (R176). -/
theorem batchBegins_of_ready {s : State} {h : ImageHead} (hcat : s.cat.head = some h) (hidle : s.journal.batch = .idle)
    (hfifo : s.journal.fifo ≠ []) (hjend : s.journal.jendRecorder = false) :
    s.batchBegins = s.withJournal (s.journal.beginBatch h.header.batchLimit h.header.requestMode) := by
  rw [State.batchBegins, hcat]
  exact if_pos ⟨hidle, List.length_pos_of_ne_nil hfifo, (jend_of_idle hidle).trans hjend⟩

/-- A running batch, an empty journal and an asserted JEND each hold a batch back (R176). -/
theorem batchBegins_of_hindered {s : State}
    (h : s.journal.batch = .running ∨ s.journal.fifo = [] ∨ s.journal.jendRecorder = true) : s.batchBegins = s := by
  rw [State.batchBegins]
  split
  · rfl
  · refine if_neg fun ⟨hidle, hfifo, hjend⟩ => ?_
    rcases h with h | h | h
    · cases hidle.symm.trans h
    · rw [h] at hfifo; cases hfifo
    · cases ((jend_of_idle hidle).trans h).symm.trans hjend

theorem batchBegins_of_noImage {s : State} (h : s.cat.head = none) : s.batchBegins = s := by
  rw [State.batchBegins, h]

/-- JCLK moves a running batch to the next byte of its record, as far as the end of it (R177). -/
theorem jclk_of_running {j : Journal} (hrun : j.batch = .running) (hpos : j.bytePos < 32) :
    j.jclk = { j with bytePos := j.bytePos + 1 } := by
  rw [Journal.jclk, hrun]
  exact if_pos hpos

theorem jclk_of_still {j : Journal} (h : j.batch = .idle ∨ 32 ≤ j.bytePos) : j.jclk = j := by
  rw [Journal.jclk]
  cases hbatch : j.batch with
  | idle => rfl
  | running => exact if_neg (Nat.not_lt.mpr (h.resolve_left fun hidle => by cases hidle.symm.trans hbatch))

theorem jack_of_idle {j : Journal} (h : j.batch = .idle) : j.jack = j := by rw [Journal.jack, h]

/-- An early JACK presents the same record again (R177). -/
theorem jack_of_early {j : Journal} (hrun : j.batch = .running) (hpos : j.bytePos ≠ 32) : j.jack = j.present := by
  rw [Journal.jack, hrun]
  exact if_neg hpos

theorem jack_of_whole {j : Journal} (hrun : j.batch = .running) (hpos : j.bytePos = 32) : j.jack = j.acknowledge := by
  rw [Journal.jack, hrun]
  exact if_pos hpos

/-- A record acknowledged before the last of its batch, with JEND released: the next one is presented (R177, R179). -/
theorem acknowledge_of_more {j : Journal} (hmore : 2 ≤ j.remaining) (hjend : j.jendRecorder = false) :
    j.acknowledge = ({ j with fifo := j.fifo.tail, remaining := j.remaining - 1 }).present := by
  rcases j.acknowledge_cases with ⟨h, -⟩ | ⟨-, -, e⟩
  · rw [jend_of_more hmore, hjend] at h
    rcases h with h | h
    · omega
    · cases h
  · exact e

/-- The last record of a batch acknowledged, or any with JEND asserted: the batch ends (R179). -/
theorem acknowledge_of_last {j : Journal} (h : j.remaining ≤ 1 ∨ j.jendRecorder = true) :
    j.acknowledge = { j with fifo := j.fifo.tail, batch := .idle, remaining := 0, bytePos := 0 } := by
  rcases j.acknowledge_cases with ⟨-, e⟩ | ⟨hmore, hjend, -⟩
  · exact e
  · rcases h with h | h
    · omega
    · simp [Journal.jend, h] at hjend

/-! ### The pins (R177 to R179) -/

theorem presented_of_running {j : Journal} (h : j.batch = .running) : j.presented = j.fifo.head? := by
  rw [Journal.presented, h]

theorem presented_of_idle {j : Journal} (h : j.batch = .idle) : j.presented = none := by
  rw [Journal.presented, h]

/-! ### The events of the journal port -/

theorem execBatchBegin_running {s : State} (h : s.running = true) (jend : Bool) :
    exec (.batchBegin jend) s = .next (s.withJend jend).batchBegins :=
  whenRunning_running (s := s.withJend jend) h _

theorem execRecordAcknowledge_running {s : State} (h : s.running = true) (jend : Bool) :
    exec (.recordAcknowledge jend) s = .next (s.withJournal ({ s.journal with jendRecorder := jend } : Journal).jack) :=
  whenRunning_running (s := s.withJend jend) h fun s => s.withJournal s.journal.jack

theorem execJclkRisingEdge_running {s : State} (h : s.running = true) :
    exec .jclkRisingEdge s = .next (s.withJournal s.journal.jclk) :=
  whenRunning_running h fun s => s.withJournal s.journal.jclk

/-! ### The bytes of a record (R174, R193) -/

/-- The byte at a place of a number, the most significant first (R193). -/
theorem beBytes_getElem? (n : Nat) : ∀ {width i : Nat}, i < width →
    (beBytes width n)[i]? = some (BitVec.ofNat 8 (n / 256 ^ (width - 1 - i)))
  | width + 1, 0, _ => by rw [beBytes]; rfl
  | width + 1, i + 1, h => by
    rw [beBytes, List.getElem?_cons_succ, beBytes_getElem? n (Nat.lt_of_succ_lt_succ h)]
    congr 4
    omega

theorem b1_def (n : Nat) : b1 n = [BitVec.ofNat 8 n] := by simp [b1, beBytes]

/-- The flags of a record stand in bits 2 to 5 above its port (R174). -/
theorem flagBits_record (overdraft grace orphan forced : Bool) :
    4 * flagBits [overdraft, grace, orphan, forced] = (if overdraft then 4 else 0) + (if grace then 8 else 0) +
      (if orphan then 16 else 0) + (if forced then 32 else 0) := by
  revert overdraft grace orphan forced
  decide

/-- The fields of a record in their order (R193). -/
theorem record_bytes (x : JournalRecord) : x.bytes =
    beBytes 4 x.sequence ++
      [BitVec.ofNat 8 x.kind.code,
       BitVec.ofNat 8 (x.port.val + (if x.overdraft then 4 else 0) + (if x.grace then 8 else 0) +
         (if x.orphan then 16 else 0) + (if x.forced then 32 else 0))] ++
      beBytes 2 x.gap ++ beBytes 4 x.minute ++ beBytes 2 x.handle ++ beBytes 4 x.tag ++ beBytes 2 x.code ++
      beBytes 3 (x.charges.get 0) ++ beBytes 3 (x.charges.get 1) ++ beBytes 3 (x.charges.get 2) ++
      beBytes 3 (x.charges.get 3) := by
  simp only [JournalRecord.bytes, b1_def, b2, b3, b4, flagBits_record, tokens, Quad.toList, Quad.get, Nat.add_assoc,
    List.append_assoc, List.flatMap_cons, List.flatMap_nil, List.append_nil, List.cons_append, List.nil_append]

theorem record_bytes_length (x : JournalRecord) : x.bytes.length = 32 := by
  simp [JournalRecord.bytes, tokens, Quad.toList, b1, b2, b3, b4]

/-- Settles O53, clause by clause from what each event of the journal port does, what the pins show and the bytes of a
record. -/
theorem batchDeliversRecords : Obligations.BatchDeliversRecords := by
  refine ⟨fun s jend h j hrun hcat hj => ?_, fun s jend hrun hcat => ?_, fun s hrun => ?_,
    fun s jend j pulses hrun hj hpulses => ?_, fun j x hrun hx => ?_, fun j hidle => ?_, fun j => ?_, fun x => ?_,
    fun width n i => ⟨beBytes_length width n, beBytes_getElem? n⟩⟩
  · subst hj
    rw [execBatchBegin_running hrun]
    refine ⟨fun hidle hfifo hjend => ?_, fun hhindered => ?_⟩
    · rw [batchBegins_of_ready (s := s.withJend jend) hcat hidle hfifo hjend]; rfl
    · rw [batchBegins_of_hindered (s := s.withJend jend) hhindered]; rfl
  · rw [execBatchBegin_running hrun, batchBegins_of_noImage (s := s.withJend jend) hcat]; rfl
  · rw [execJclkRisingEdge_running hrun]
    refine ⟨fun hbatch hpos => ?_, fun hstill => ?_⟩
    · rw [jclk_of_running hbatch hpos]; rfl
    · rw [jclk_of_still hstill]; rfl
  · rw [execRecordAcknowledge_running hrun, ← hj, hpulses]
    have hrec : j.jendRecorder = jend := by rw [hj]
    refine ⟨fun hidle => ?_, fun hbatch hpos => ?_, fun hbatch hpos hmore hjend => ?_, fun hbatch hpos hlast => ?_⟩
    · rw [jack_of_idle hidle]; rfl
    · rw [jack_of_early hbatch hpos]; rfl
    · rw [jack_of_whole hbatch hpos, acknowledge_of_more hmore (hrec.trans hjend)]; rfl
    · rw [jack_of_whole hbatch hpos, acknowledge_of_last (by rwa [hrec])]; rfl
  · rw [Journal.jd, presented_of_running hrun, hx]
    simp [Journal.jendDriven, Journal.jreqLevel, hrun]
  · rw [Journal.jd, presented_of_idle hidle]
    simp [Journal.jendDriven, Journal.jreqLevel, hidle]
  · simp [Journal.jend]
  · refine ⟨record_bytes_length x, (record_bytes x).trans ?_⟩
    cases x.kind <;> rfl

end Sys2Proof.Machine.Logging
end

section
/-! SUPPORT. The Journal in order: its records numbered without a hole and its batch within bounds, through every
operation of the Journal (R170, R171, R176 to R179), and the batch limit of a verified image (R145, R149). -/

namespace Sys2Proof.Machine.Logging

open Charges Images

/-! ### The Journal's operations -/

/-- The two invariants of O57 together. -/
def Ordered (j : Journal) : Prop := j.Numbered ∧ j.BatchShaped

theorem batchShaped_of_idle {j : Journal} (h : j.batch = .idle) (hremaining : j.remaining = 0) (hpos : j.bytePos = 0) :
    j.BatchShaped := by
  rw [Journal.BatchShaped, h]; exact ⟨hremaining, hpos⟩

theorem batchShaped_of_running {j : Journal} (h : j.batch = .running) (hlow : 1 ≤ j.remaining)
    (hhigh : j.remaining ≤ j.fifo.length) (hpos : j.bytePos ≤ Config.recordBytes) : j.BatchShaped := by
  rw [Journal.BatchShaped, h]; exact ⟨hlow, hhigh, hpos⟩

/-- What the shape of a running batch says (R170, R176). -/
theorem running_of_batchShaped {j : Journal} (hj : j.BatchShaped) (h : j.batch = .running) :
    1 ≤ j.remaining ∧ j.remaining ≤ j.fifo.length ∧ j.bytePos ≤ Config.recordBytes := by
  rw [Journal.BatchShaped, h] at hj; exact hj

/-- A record more at the end takes the next number, and every other stands one further from it (R171). -/
theorem numbered_write {j : Journal} (h : j.Numbered) (m : Nat) (b : RecordBody) : (j.write m b).Numbered := by
  intro i hi
  have hlast : i < j.fifo.length ∨ i = j.fifo.length := by
    simpa [Nat.le_iff_lt_or_eq] using hi
  simp only [Journal.write_fifo, Journal.write_nextSeq, List.length_append, List.length_singleton]
  rcases hlast with hlt | rfl
  · have hnext := h i hlt
    rw [List.getElem_append_left hlt, ← hnext, Nat.mod_add_mod, Nat.add_assoc, Nat.sub_add_comm hlt.le]
  · rw [List.getElem_concat_length rfl, Journal.record_sequence, Nat.add_sub_cancel_left]

/-- The oldest record taken away leaves the others numbered as they were (R171, R177). -/
theorem numbered_tail {j j' : Journal} (h : j.Numbered) (hfifo : j'.fifo = j.fifo.tail)
    (hseq : j'.nextSeq = j.nextSeq) : j'.Numbered := by
  intro i hi
  simp only [hfifo, List.length_tail] at hi
  have hnext := h (i + 1) (Nat.add_lt_of_lt_sub hi)
  simp only [hfifo, hseq, List.getElem_tail, List.length_tail]
  rwa [show j.fifo.length - 1 - i = j.fifo.length - (i + 1) by omega]

/-- A record more leaves a running batch within the records (R176). -/
theorem batchShaped_write {j : Journal} (h : j.BatchShaped) (m : Nat) (b : RecordBody) : (j.write m b).BatchShaped := by
  cases hbatch : j.batch with
  | idle => rw [Journal.BatchShaped, hbatch] at h; exact batchShaped_of_idle hbatch h.1 h.2
  | running =>
    obtain ⟨hlow, hhigh, hpos⟩ := running_of_batchShaped h hbatch
    exact batchShaped_of_running hbatch hlow (by simp; omega) hpos

theorem Ordered.write {j : Journal} (h : Ordered j) (m : Nat) (b : RecordBody) : Ordered (j.write m b) :=
  ⟨numbered_write h.1 m b, batchShaped_write h.2 m b⟩

/-- The reservations, the gap count and the recorder's JEND do not enter. -/
theorem Ordered.withCounts {j : Journal} (h : Ordered j) (rv gap : Nat) (jend : Bool) :
    Ordered { j with rv := rv, gap := gap, jendRecorder := jend } := h

theorem Ordered.writeDroppable {j : Journal} (h : Ordered j) (m : Nat) (b : RecordBody) :
    Ordered (j.writeDroppable m b) := by
  rcases j.writeDroppable_cases m b with ⟨-, e⟩ | ⟨-, e⟩ <;> rw [e]
  · exact h.write m b
  · exact h.withCounts j.rv _ j.jendRecorder

/-- A record presented from its first byte keeps the shape of a running batch (R177). -/
theorem Ordered.present {j : Journal} (h : j.Numbered) (hbatch : j.batch = .running) (hlow : 1 ≤ j.remaining)
    (hhigh : j.remaining ≤ j.fifo.length) : Ordered j.present :=
  ⟨h, batchShaped_of_running hbatch hlow hhigh (Nat.zero_le _)⟩

/-- An acknowledged record leaves the rest of its batch behind it, or ends the batch (R177, R179). -/
theorem Ordered.acknowledge {j : Journal} (h : Ordered j) (hbatch : j.batch = .running) : Ordered j.acknowledge := by
  obtain ⟨-, hhigh, -⟩ := running_of_batchShaped h.2 hbatch
  rcases j.acknowledge_cases with ⟨-, e⟩ | ⟨hmore, -, e⟩ <;> rw [e]
  · exact ⟨numbered_tail h.1 rfl rfl, batchShaped_of_idle rfl rfl rfl⟩
  · refine Ordered.present (numbered_tail h.1 rfl rfl) hbatch (Nat.one_le_iff_ne_zero.mpr hmore) ?_
    exact (Nat.sub_le_sub_right hhigh 1).trans_eq List.length_tail.symm

theorem Ordered.jack {j : Journal} (h : Ordered j) : Ordered j.jack := by
  unfold Journal.jack
  split
  · exact h
  · rename_i hbatch
    obtain ⟨hlow, hhigh, -⟩ := running_of_batchShaped h.2 hbatch
    split
    · exact h.acknowledge hbatch
    · exact .present h.1 hbatch hlow hhigh

theorem Ordered.jclk {j : Journal} (h : Ordered j) : Ordered j.jclk := by
  unfold Journal.jclk
  split
  · exact h
  · rename_i hbatch
    obtain ⟨hlow, hhigh, -⟩ := running_of_batchShaped h.2 hbatch
    split
    · rename_i hpos
      exact ⟨h.1, batchShaped_of_running hbatch hlow hhigh hpos⟩
    · exact h

/-- A batch begins with at least one record, and with no more than the journal holds (R176). -/
theorem Ordered.beginBatch {j : Journal} (h : Ordered j) {limit : Nat} (mode : SignalMode) (hlimit : 1 ≤ limit)
    (hfifo : 1 ≤ j.fifo.length) : Ordered (j.beginBatch limit mode) :=
  .present (j := { j with batch := .running, remaining := min j.fifo.length limit, batchMode := mode }) h.1 rfl
    (Nat.le_min.mpr ⟨hfifo, hlimit⟩) (Nat.min_le_left _ _)

/-- A journal at its values after a reset is in order (R181). -/
theorem ordered_initial (n : Nat) : Ordered (Journal.initial n) :=
  ⟨fun _ h => absurd h (Nat.not_lt_zero _), batchShaped_of_idle rfl rfl rfl⟩

/-! ### The batch limit (R149, R176) -/

/-- A verified image holds a HEADER record (R145). -/
theorem header_mem_of_verified {records : List ImageRecord} (h : Verified records) :
    ∃ r ∈ records, r.isKind kindHeader = true := by
  obtain ⟨r, hr, -⟩ := pool_mem_of_verified h 0
  have hfirst : 0 < records.length := List.length_pos_of_mem hr
  obtain ⟨-, t, -, hseq⟩ := h
  have hheader := hseq 0 (by simp)
  simp only [List.getElem_append_left hfirst, acceptsRecord, Bool.and_eq_true, List.take_zero] at hheader
  exact ⟨records[0], List.getElem_mem hfirst, by simpa [ImageRecord.isKind] using placeAccepts_empty.mp hheader.2⟩

/-- The batch limit of a verified image is at least 1 (R149). -/
theorem batchLimit_pos_of_verified {records : List ImageRecord} (h : Verified records) :
    1 ≤ (headOf records).header.batchLimit := by
  obtain ⟨r, hr, hkind⟩ := header_mem_of_verified h
  obtain ⟨x, hx⟩ : ∃ x, records.find? (fun r => r.isKind kindHeader) = some x :=
    Option.isSome_iff_exists.mp (List.find?_isSome.mpr ⟨r, hr, hkind⟩)
  have hxkind : x.isKind kindHeader = true := List.find?_some (p := (ImageRecord.isKind · kindHeader)) hx
  obtain ⟨before, hfault⟩ := recordFault_of_mem (List.mem_of_find?_eq_some hx) [] h.1
  have hheader : x.kind = 1#8 := (isKind_iff x (by decide)).mp hxkind
  have hrange : headerInRange x.body = true := by
    rw [recordFault_header before hheader] at hfault
    by_contra hbad
    rw [if_neg hbad] at hfault
    cases hfault
  obtain ⟨-, -, -, -, -, -, hlimit, -⟩ := (headerInRange_iff x.body).mp hrange
  rw [headOf, hx]
  exact hlimit

/-- In a part that serves only verified images, the batch limit is at least 1 (R149, R176). -/
theorem batchLimit_pos {s : State} (hs : s.ImagesVerified) {h : ImageHead} (hcat : s.cat.head = some h) :
    1 ≤ h.header.batchLimit := by
  obtain ⟨-, -, -, -, -, hserves⟩ := hs
  obtain ⟨records, hverified, hhead, -⟩ := hserves (by simp [State.serving, Catalogue.serving, hcat])
  cases hcat.symm.trans hhead
  exact batchLimit_pos_of_verified hverified

end Sys2Proof.Machine.Logging
end

section
/-! SUPPORT. Every operation, command and event keeps the Journal in order (R170, R171, R176; O57): those that write
records do so by the Journal's own operations, and the others leave it as it is. -/

namespace Sys2Proof.Machine.Logging

open Charges

/-- The Journal of the part is in order. -/
def InOrder (s : State) : Prop := Ordered s.journal

theorem InOrder.of_journal {s t : State} (h : InOrder s) (e : t.journal = s.journal) : InOrder t := by
  rw [InOrder, e]; exact h

/-! ### The Grant Engine -/

theorem endWait_inOrder {s : State} (c : Option WaitCause) (e : WaitEntry) (h : InOrder s) :
    InOrder (s.endWait c e) := by
  rw [InOrder, State.endWait_journal]; exact h.writeDroppable _ _

theorem endWaits_inOrder {s : State} (c : Option WaitCause) (es : List WaitEntry) (h : InOrder s) :
    InOrder (s.endWaits c es) :=
  State.endWaits_induct c (fun _ e hs => endWait_inOrder c e hs) es s h

theorem grantInto_inOrder {s : State} (n : Nat) (g : GrantOrder) (h : InOrder s) : InOrder (s.grantInto n g) := by
  rw [InOrder, State.grantInto_journal]
  split
  · exact (h.write _ _).withCounts _ 0 _
  · exact h

theorem release_inOrder {s : State} (n : Nat) (e : Checkout) (k : RecordKind) (h : InOrder s) :
    InOrder (s.release n e k) := by
  rw [InOrder, State.release_journal]
  split
  · exact (h.write _ _).withCounts _ 0 _
  · exact h

theorem grantWaiting_inOrder {s : State} (n : Nat) (e : WaitEntry) (h : InOrder s) : InOrder (s.grantWaiting n e) :=
  (grantInto_inOrder n (s.orderOf e) h).of_journal (s.grantWaiting_journal n e)

theorem queuePass_inOrder {s : State} (h : InOrder s) : InOrder s.queuePass :=
  State.queuePass_induct (fun _ e _ hs => endWait_inOrder _ e hs) (fun _ _ _ _ hs => hs)
    (fun _ n e _ _ _ _ hs => grantWaiting_inOrder n e hs) s h

theorem applyPass_inOrder {s : State} (h : InOrder s) : InOrder s.applyPass :=
  endWaits_inOrder _ _ (queuePass_inOrder h)

theorem releaseMany_inOrder {s : State} (slots : List Nat) (es : List WaitEntry) (h : InOrder s) :
    InOrder (s.releaseMany slots es) := by
  have hslots : InOrder (slots.foldl (State.releaseSlot · .returned) s) :=
    List.foldlRecOn _ _ h fun t ht n _ => by
      unfold State.releaseSlot
      split
      · exact release_inOrder _ _ _ ht
      · exact ht
  have hends := endWaits_inOrder none es hslots
  exact ite_keeps hends (queuePass_inOrder hends)

theorem cancel_inOrder {s : State} (c : Option WaitCause) (e : WaitEntry) (h : InOrder s) : InOrder (s.cancel c e).1 :=
  have hend := endWait_inOrder c e h
  ite_keeps (queuePass_inOrder hend) hend

theorem refuse_inOrder {s : State} (c : Catalogue) (kept : Bool) (g : GrantOrder) (timeout : Nat) (q : QueueReason)
    (h : InOrder s) : InOrder (s.refuse c kept g timeout q).1 := by
  unfold State.refuse
  dsimp only
  split
  · split
    · split
      · exact h
      · exact h.writeDroppable _ _
    · exact h.writeDroppable _ _
  · exact h.writeDroppable _ _

theorem judgeOrder_inOrder {s : State} (c : Catalogue) (kept : Bool) (g : GrantOrder) (timeout : Nat) (h : InOrder s) :
    InOrder (s.judgeOrder c kept g timeout).1 := by
  unfold State.judgeOrder
  split
  · exact refuse_inOrder _ _ _ _ _ h
  · exact grantInto_inOrder _ _ h

/-! ### Operations that leave the Journal as it is -/

theorem respond_journal (s : State) (r : Request) (x : Reply) : (s.respond r x).journal = s.journal := by
  rcases s.respond_cases r x with ⟨-, e⟩ | ⟨-, e⟩ <;> rw [e]
  rfl

theorem abandonStaging_journal (s : State) (p : Port) : (s.abandonStaging p).journal = s.journal := by
  unfold State.abandonStaging; split <;> rfl

theorem noteStaging_journal (s : State) (p : Port) : (s.noteStaging p).journal = s.journal := by
  unfold State.noteStaging; split <;> rfl

theorem askSave_journal (s : State) : s.askSave.journal = s.journal := by
  rcases s.askSave_cases with ⟨-, e⟩ | ⟨-, e⟩ <;> rw [e]
  rfl

theorem askImageWrite_journal (s : State) : s.askImageWrite.journal = s.journal := by
  rcases s.askImageWrite_cases with ⟨-, e⟩ | ⟨-, e⟩ | ⟨-, e⟩ <;> rw [e]
  rfl

theorem nextWrite_journal (s : State) : s.nextWrite.journal = s.journal := by
  rcases s.nextWrite_cases with ⟨-, e⟩ | ⟨-, -, e⟩ | ⟨-, -, e⟩ <;> rw [e] <;> rfl

theorem changeClock_journal (s : State) (n : Nat) : (s.changeClock n).journal = s.journal := by
  rcases s.changeClock_cases n with ⟨-, e⟩ | ⟨-, u, hu, e, e'⟩
  · rw [e]
  · have hjournal : u.journal = s.journal := by rw [hu]
    by_cases hd : n / 60 = s.time.clock / 60
    · rw [e hd, hjournal]
    · rw [e' hd, askSave_journal, hjournal]

theorem tick_journal (s : State) : s.tick.journal = s.journal := by
  have := congrArg State.journal s.tick_frame; exact this

theorem trefEdge_journal (s : State) : s.trefEdge.journal = s.journal := by
  unfold State.trefEdge; split
  · rfl
  · exact tick_journal s

theorem wclkRises_journal (s : State) : s.wclkRises.journal = s.journal := by
  unfold State.wclkRises
  split
  · rfl
  · split <;> rfl

theorem startWalk_journal (s : State) : s.startWalk.journal = s.journal := by
  unfold State.startWalk; split <;> rfl

theorem sweepTakes_journal (s : State) : s.sweepTakes.journal = s.journal := by
  unfold State.sweepTakes
  dsimp only
  split
  · rw [startWalk_journal]; rfl
  · rfl

theorem passSlot_journal (s : State) (n : Nat) : (s.passSlot n).journal = s.journal := by
  unfold State.passSlot State.endWalk
  dsimp only
  split
  · split
    · rw [startWalk_journal]; rfl
    · rfl
  · rfl

theorem endTransaction_journal (s : State) (p : Port) (bytes : List Byte) :
    (s.endTransaction p bytes).journal = s.journal := by
  unfold State.endTransaction State.writeTransaction State.takeFrame
  dsimp only
  repeat' split
  all_goals rfl

theorem beatAll_journal (b : Basis) (kept : Bool) (p : Port) :
    ∀ (hs : List Nat) (s : State), (s.beatAll b kept p hs).1.journal = s.journal
  | [], _ => rfl
  | n :: hs, s => by
    refine (beatAll_journal b kept p hs (s.beat b kept p n).1).trans ?_
    unfold State.beat
    split
    · rfl
    · split
      · rfl
      · split <;> rfl

theorem saveAfterImage_journal (s : State) (crossed : Bool) : (s.saveAfterImage crossed).journal = s.journal := by
  unfold State.saveAfterImage; split <;> rfl

theorem windowAfterImage_journal (s : State) : s.windowAfterImage.journal = s.journal := by
  unfold State.windowAfterImage; split <;> rfl

/-! ### The commands' works -/

theorem checkoutWork_inOrder {s : State} (r : Request) (h : InOrder s) : InOrder (checkoutWork r s).1 := by
  refine needsCatalogue_keeps h ?_
  split
  · exact h
  · split
    · exact h
    · split
      · exact h.writeDroppable _ _
      · exact judgeOrder_inOrder _ _ _ _ h

theorem returnWork_inOrder {s : State} (r : Request) (h : InOrder s) : InOrder (returnWork r s).1 := by
  refine needsCatalogue_keeps h ?_
  split
  · exact h
  · split
    · exact h
    · split
      · exact queuePass_inOrder (release_inOrder _ _ _ h)
      · split
        · exact queuePass_inOrder (InOrder.of_journal (release_inOrder _ _ _ h) rfl)
        · exact h

theorem returnTagWork_inOrder {s : State} (r : Request) (h : InOrder s) : InOrder (returnTagWork r s).1 := by
  refine needsCatalogue_keeps h ?_
  split
  · exact h
  · exact releaseMany_inOrder _ _ h

theorem releasePortWork_inOrder {s : State} (r : Request) (h : InOrder s) : InOrder (releasePortWork r s).1 := by
  refine needsCatalogue_keeps h ?_
  split
  · exact h
  · exact (releaseMany_inOrder _ _ h).of_journal (abandonStaging_journal _ _)

theorem heartbeatWork_inOrder {s : State} (r : Request) (h : InOrder s) : InOrder (heartbeatWork r s).1 := by
  refine needsCatalogue_keeps h ?_
  split
  · exact h
  · exact h.of_journal (beatAll_journal ..)

theorem cancelWaitWork_inOrder {s : State} (r : Request) (h : InOrder s) : InOrder (cancelWaitWork r s).1 := by
  refine needsCatalogue_keeps h ?_
  split
  · exact h
  · split
    · exact h
    · split
      · exact cancel_inOrder _ _ h
      · split
        · exact cancel_inOrder _ _ h
        · exact h

theorem assertTime_inOrder {s : State} (p : Port) (v : Nat) (h : InOrder s) : InOrder (s.assertTime p v) := by
  have hclock (n : Nat) : InOrder (s.changeClock n) := h.of_journal (changeClock_journal s n)
  exact ite_keeps h ((hclock _).writeDroppable _ _)

theorem timeAssertWork_inOrder {s : State} (r : Request) (h : InOrder s) : InOrder (timeAssertWork r s).1 := by
  refine needsTime_keeps h ?_
  split
  · exact h
  · split
    · exact h
    · exact assertTime_inOrder _ _ h

theorem windowCloseWork_inOrder {s : State} (r : Request) (h : InOrder s) : InOrder (windowCloseWork r s).1 := by
  refine needsAdmin_keeps h ?_
  split <;> exact h

theorem staging_inOrder {stagerOnly : Bool} {r : Request} {s : State} {own : State → State × Reply} (h : InOrder s)
    (hown : ∀ t, InOrder t → InOrder (own t).1) : InOrder (staging stagerOnly r s own).1 := by
  have hnote : InOrder (s.noteStaging r.port) := h.of_journal (noteStaging_journal s r.port)
  refine needsAdmin_keeps h ?_
  dsimp only
  split
  · exact hnote
  · split
    · exact hnote
    · exact hown _ hnote

theorem stageBeginWork_inOrder {s : State} (r : Request) (h : InOrder s) : InOrder (stageBeginWork r s).1 := by
  refine staging_inOrder h fun t ht => ?_
  split
  · exact ht
  · split <;> exact ht

theorem stageRecordWork_inOrder {s : State} (r : Request) (h : InOrder s) : InOrder (stageRecordWork r s).1 := by
  refine staging_inOrder h fun t ht => ?_
  unfold State.offerRecord
  split
  · split <;> exact ht
  · exact ht

theorem stageFinishWork_inOrder {s : State} (r : Request) (h : InOrder s) : InOrder (stageFinishWork r s).1 := by
  refine staging_inOrder h fun t ht => ?_
  unfold State.verifyStaging
  split
  · exact ht
  · split
    · exact ht
    · split <;> exact ht

theorem activateWork_inOrder {s : State} (r : Request) (h : InOrder s) : InOrder (activateWork r s).1 := by
  refine staging_inOrder h fun t ht => ?_
  split
  · exact ht
  · split
    · exact ht
    · split
      · exact ht
      · exact ht.of_journal (askImageWrite_journal _)

theorem stageAbortWork_inOrder {s : State} (r : Request) (h : InOrder s) : InOrder (stageAbortWork r s).1 := by
  refine staging_inOrder h fun t ht => ?_
  split <;> exact ht

theorem policyStageWork_inOrder {s : State} (r : Request) (h : InOrder s) : InOrder (policyStageWork r s).1 := by
  refine policyCommand_keeps h ?_
  split <;> exact h

theorem policyApplyWork_inOrder {s : State} (r : Request) (h : InOrder s) : InOrder (policyApplyWork r s).1 := by
  refine policyCommand_keeps h ?_
  split
  · exact h
  · exact applyPass_inOrder h

theorem setCeilingWork_inOrder {s : State} (r : Request) (h : InOrder s) : InOrder (setCeilingWork r s).1 := by
  refine policyCommand_keeps h ?_
  split
  · exact h
  · exact ite_keeps h (ite_keeps (queuePass_inOrder h) h)

theorem setShareWork_inOrder {s : State} (r : Request) (h : InOrder s) : InOrder (setShareWork r s).1 := by
  refine policyCommand_keeps h ?_
  split
  · exact h
  · exact queuePass_inOrder h

theorem readNoticeWork_inOrder {s : State} (r : Request) (h : InOrder s) : InOrder (readNoticeWork r s).1 := by
  unfold readNoticeWork; split <;> exact h

theorem setNoticeWork_inOrder {s : State} (r : Request) (h : InOrder s) : InOrder (setNoticeWork r s).1 := by
  unfold setNoticeWork; split <;> exact h

/-- Every command's work keeps the Journal in order. -/
theorem workOf_inOrder (c : Command) {s : State} (r : Request) (h : InOrder s) : InOrder (workOf c r s).1 := by
  cases c with
  | checkout => exact checkoutWork_inOrder r h
  | returnCheckout => exact returnWork_inOrder r h
  | returnTag => exact returnTagWork_inOrder r h
  | releasePort => exact releasePortWork_inOrder r h
  | queryCheckout => exact queryCheckoutWork_keeps r h
  | heartbeat => exact heartbeatWork_inOrder r h
  | cancelWait => exact cancelWaitWork_inOrder r h
  | queryWait => exact queryWaitWork_keeps r h
  | queryFeature => exact queryFeatureWork_keeps r h
  | queryPool => exact queryPoolWork_keeps r h
  | timeAssert => exact timeAssertWork_inOrder r h
  | windowClose => exact windowCloseWork_inOrder r h
  | stageBegin => exact stageBeginWork_inOrder r h
  | stageRecord => exact stageRecordWork_inOrder r h
  | stageFinish => exact stageFinishWork_inOrder r h
  | activate => exact activateWork_inOrder r h
  | stageAbort => exact stageAbortWork_inOrder r h
  | policyStage => exact policyStageWork_inOrder r h
  | policyApply => exact policyApplyWork_inOrder r h
  | setCeiling => exact setCeilingWork_inOrder r h
  | setShare => exact setShareWork_inOrder r h
  | journalStatus => exact journalStatusWork_keeps r h
  | readNotice => exact readNoticeWork_inOrder r h
  | setNotice => exact setNoticeWork_inOrder r h
  | identify => exact identifyWork_keeps r h

theorem carryOut_inOrder {s : State} (c : Command) (p : Port) (r : Request) (h : InOrder s) :
    InOrder (s.carryOut c p r (workOf c)) :=
  have hdrop : InOrder (s.dropRequest c p) := h
  (workOf_inOrder c r hdrop).of_journal (respond_journal ..)

theorem finish_inOrder {s : State} (due : Request → Bool) (h : InOrder s) : InOrder (s.finish due) :=
  State.finish_induct due (fun _ r _ hu => carryOut_inOrder _ _ r hu) s h

/-! ### Port resets and window ends -/

theorem resetPort_inOrder {s : State} (p : Port) (h : InOrder s) : InOrder (s.resetPort p) := by
  have hclear : InOrder (s.clearPort p) := h
  have hfinish : InOrder ((s.clearPort p).finishStaging p) := finish_inOrder _ hclear
  have hends := endWaits_inOrder none (((s.clearPort p).finishStaging p).entriesOf p) hfinish
  have hdrop : InOrder (((s.clearPort p).finishStaging p).dropEntries p) := ite_keeps (queuePass_inOrder hends) hends
  exact hdrop.of_journal (abandonStaging_journal _ p)

theorem visitSlot_inOrder {s : State} (n : Nat) (h : InOrder s) : InOrder (s.visitSlot n) := by
  unfold State.visitSlot
  split
  · exact h
  · exact ite_keeps (queuePass_inOrder (InOrder.of_journal (release_inOrder _ _ _ h) rfl)) h

theorem visit_inOrder {s : State} (n : Nat) (h : InOrder s) : InOrder ((s.visitSlot n).passSlot n) :=
  (visitSlot_inOrder n h).of_journal (passSlot_journal _ n)

theorem sweepTakes_inOrder {s : State} (h : InOrder s) : InOrder s.sweepTakes := h.of_journal (sweepTakes_journal s)

theorem grantTakes_inOrder {s : State} (h : InOrder s) : InOrder s.grantTakes := by
  have hcount : InOrder (s.withDue { s.due with grant := s.due.grant - 1 }).countDown := h
  exact queuePass_inOrder (InOrder.of_journal (endWaits_inOrder _ _ hcount) rfl)

theorem watchTakes_inOrder {s : State} (k : Pool) (h : InOrder s) : InOrder (s.watchTakes k) := by
  unfold State.watchTakes State.watchWork
  dsimp only
  split
  · exact h
  · split
    · exact ite_keeps (queuePass_inOrder (h.writeDroppable _ _)) h
    · unfold State.enterClear
      dsimp only
      split
      · exact h.writeDroppable _ _
      · exact h
    all_goals exact h

theorem takeDue_inOrder {s : State} (h : InOrder s) : InOrder s.takeDue :=
  State.takeDue_induct (fun _ hu => sweepTakes_inOrder hu) (fun _ k hu => watchTakes_inOrder k hu)
    (fun _ hu => grantTakes_inOrder hu) (fun _ _ hu => hu) s h

/-! ### Reset and activation (R140, R152, R181) -/

/-- A part brought up has an empty Journal and no batch (R181). -/
theorem bringUp_inOrder (s : State) (store : Store) (v : SavedValues) (straps : Quad Straps) :
    InOrder (s.bringUp store v straps) :=
  (ordered_initial v.sequence).withCounts 0 0 _

theorem goDark_inOrder (s : State) : InOrder s.goDark :=
  (bringUp_inOrder s { s.store.afterLoss with image := none } SavedValues.zero
    (s.ports.map (·.strapPins))).of_journal rfl

theorem releaseIfWaiting_inOrder {s : State} (h : InOrder s) : InOrder s.releaseIfWaiting := by
  unfold State.releaseIfWaiting
  split
  · exact bringUp_inOrder ..
  all_goals exact h

theorem activateAll_inOrder {s : State} (ahead : Quad Nat) (h : InOrder s) : InOrder (s.activateAll ahead) := by
  have himage : InOrder (((s.activateBlocks ahead).recordDroppable
      (imageBody (s.stager.port.getD 0) (headOf s.stager.image).header.issue)).storeImage s.stager.image) :=
    h.writeDroppable _ _
  exact himage.of_journal ((windowAfterImage_journal _).trans (saveAfterImage_journal _ _))

theorem completeActivation_inOrder {s : State} (ahead : Quad Nat) (h : InOrder s) :
    InOrder (s.completeActivation ahead) :=
  activateAll_inOrder ahead (takeDue_inOrder (finish_inOrder _ h))

theorem completeInReset_inOrder {s : State} (h : InOrder s) : InOrder s.completeInReset :=
  releaseIfWaiting_inOrder h

/-! ### Every command -/

/-- What an event leaves of a running part, or of one that does not run. -/
theorem whenRunning_inOrder {s t : State} {f : State → State} (he : whenRunning s f = .next t) (h : InOrder s)
    (hf : InOrder (f s)) : InOrder t := by
  rcases whenRunning_cases s f with ⟨-, e⟩ | ⟨-, e⟩ <;> rw [e] at he <;> cases he
  · exact hf
  · exact h

theorem serve_inOrder {c : Command} {p : Port} {s t : State} (he : serve c p s (workOf c) = .next t) (h : InOrder s) :
    InOrder t := by
  rcases serve_cases c p s (workOf c) with e | ⟨r, -, -, e⟩ <;> rw [e] at he <;> cases he
  · exact h
  · exact carryOut_inOrder c p r h

theorem execResetRelease_inOrder {s t : State} {straps : Quad Straps} (he : execResetRelease straps s = .next t)
    (h : InOrder s) : InOrder t := by
  cases he
  exact ite_keeps (ite_keeps h (bringUp_inOrder ..)) h

theorem execSaveComplete_inOrder {s t : State} (he : execSaveComplete s = .next t) (h : InOrder s) : InOrder t := by
  cases he
  split
  · exact releaseIfWaiting_inOrder (h.of_journal (nextWrite_journal _))
  · exact h

theorem execImageWriteComplete_inOrder {s t : State} {ahead : Quad Nat}
    (he : execImageWriteComplete ahead s = .next t) (h : InOrder s) : InOrder t := by
  cases he
  split
  · exact ite_keeps (completeActivation_inOrder ahead h) (completeInReset_inOrder h)
  · exact h

/-- BATCH_BEGIN keeps the Journal in order where the batch limit is at least 1 (R176). -/
theorem batchBegins_inOrder {s : State} (hlimit : ∀ x, s.cat.head = some x → 1 ≤ x.header.batchLimit) (h : InOrder s) :
    InOrder s.batchBegins := by
  unfold State.batchBegins
  split
  · exact h
  · rename_i x hcat
    split
    · rename_i hready
      obtain ⟨-, hfifo, -⟩ := hready
      exact Ordered.beginBatch h _ (hlimit x hcat) hfifo
    · exact h

/-- Every command keeps the Journal in order, under a batch limit of at least 1. -/
theorem exec_inOrder {s t : State} (i : Instr) (he : exec i s = .next t)
    (hlimit : ∀ x, s.cat.head = some x → 1 ≤ x.header.batchLimit) (h : InOrder s) : InOrder t := by
  cases i
  case powerOn straps => cases he; exact bringUp_inOrder ..
  case powerLoss => cases he; exact ite_keeps (goDark_inOrder s) h
  case resetAssert => cases he; exact ite_keeps h h
  case resetRelease straps => exact execResetRelease_inOrder he h
  case prstAssert p => cases he; exact ite_keeps (resetPort_inOrder p h) h
  case prstRelease p => cases he; exact h
  case requestFrame p bytes =>
    dsimp only [exec, execRequestFrame] at he
    exact whenRunning_inOrder he h (unlessPrst_keeps (h.of_journal (endTransaction_journal s p bytes)) h)
  case readTransaction p n answered =>
    dsimp only [exec, execReadTransaction] at he
    exact whenRunning_inOrder he h (unlessPrst_keeps h h)
  case secondTick => exact whenRunning_inOrder he h (h.of_journal (tick_journal s))
  case minuteAdvance | windowTimerExpiry | stagingTimeout =>
    exact whenRunning_inOrder he h (ite_keeps (h.of_journal (tick_journal s)) h)
  case wclkRisingEdge => exact whenRunning_inOrder he h (h.of_journal (wclkRises_journal s))
  case sweepWindowEnd => exact whenRunning_inOrder he h (ite_keeps (sweepTakes_inOrder h) h)
  case sweepVisit n | reclaim n => exact whenRunning_inOrder he h (ite_keeps (visit_inOrder n h) h)
  case grantEngineWindowEnd | waitExpiry n => exact whenRunning_inOrder he h (ite_keeps (grantTakes_inOrder h) h)
  case demandWatchWindowEnd k => exact whenRunning_inOrder he h (ite_keeps (watchTakes_inOrder k h) h)
  case portWindowEnd p first => exact whenRunning_inOrder he h (ite_keeps h h)
  case saveComplete => exact execSaveComplete_inOrder he h
  case imageWriteComplete ahead => exact execImageWriteComplete_inOrder he h
  case batchBegin jend => exact whenRunning_inOrder he h (batchBegins_inOrder (s := s.withJend jend) hlimit h)
  case recordAcknowledge jend =>
    dsimp only [exec, execRecordAcknowledge] at he
    exact whenRunning_inOrder he h (Ordered.jack h)
  case attnPulseEnd p =>
    dsimp only [exec, execAttnPulseEnd] at he
    exact whenRunning_inOrder he h h
  case wclkLowSeen =>
    dsimp only [exec, execWclkLowSeen] at he
    exact whenRunning_inOrder he h h
  case jclkRisingEdge =>
    dsimp only [exec, execJclkRisingEdge] at he
    exact whenRunning_inOrder he h (Ordered.jclk h)
  case checkout p | returnCheckout p | returnTag p | releasePort p | queryCheckout p | heartbeat p | cancelWait p |
      queryWait p | queryFeature p | queryPool p | timeAssert p | windowClose p | stageBegin p | stageRecord p |
      stageFinish p | activate p | stageAbort p | policyStage p | policyApply p | setCeiling p | setShare p |
      journalStatus p | readNotice p | setNotice p | identify p =>
    exact serve_inOrder he h

/-- Settles O57: every command and every TREF edge keeps the Journal in order, under the batch limit that a verified
image gives. -/
theorem journalStaysInOrder : Obligations.JournalStaysInOrder := by
  intro s t himages hnumbered hshaped hstep
  have h : InOrder s := ⟨hnumbered, hshaped⟩
  cases hp : s.pending with
  | nil =>
    rw [step, hp] at hstep
    cases hstep
    exact ite_keeps (h.of_journal (trefEdge_journal s)) h
  | cons c rest =>
    rw [step_front s c rest hp] at hstep
    exact exec_inOrder c hstep (fun _ hcat => batchLimit_pos himages hcat) h

end Sys2Proof.Machine.Logging
end

section
/-! SUPPORT. Operations that reach a port by its notices and notice settings alone, and leave the requests passed on as
they are: what the commands' works and the window ends do to the ports (R185, R187, R190; O59). -/

namespace Sys2Proof.Machine.Links

open Charges

/-! ### Ports told of something -/

/-- `q` has the state, response and overrun mark of `p`, and a notice list within the bound where that of `p` is (R185,
R187). -/
structure ToldPort (p q : PortIf) : Prop where
  state : q.state = p.state
  response : q.response = p.response
  overrun : q.overrun = p.overrun
  notices : p.notices.length ≤ Config.noticePlaces → q.notices.length ≤ Config.noticePlaces

theorem ToldPort.refl (p : PortIf) : ToldPort p p := ⟨rfl, rfl, rfl, id⟩

theorem ToldPort.trans {p q r : PortIf} (h : ToldPort p q) (h' : ToldPort q r) : ToldPort p r :=
  ⟨h'.state.trans h.state, h'.response.trans h.response, h'.overrun.trans h.overrun, fun hp => h'.notices (h.notices hp)⟩

theorem toldPort_handAll (p : PortIf) (xs : List Notice) : ToldPort p (p.handAll xs) :=
  ⟨by simp, by simp, by simp, p.handAll_notices_le xs⟩

theorem toldPort_takeNotice (p : PortIf) : ToldPort p p.takeNotice :=
  ⟨rfl, rfl, rfl, fun h => by simp only [PortIf.takeNotice, List.length_tail]; omega⟩

/-- From `s` to `t` every port has been told something at most, and the requests passed on are the same. -/
structure Told (s t : State) : Prop where
  requests : t.requests = s.requests
  port : ∀ p, ToldPort (s.ports.get p) (t.ports.get p)

theorem Told.refl (s : State) : Told s s := ⟨rfl, fun _ => .refl _⟩

variable {o s t : State}

theorem Told.trans (h : Told o s) (h' : Told s t) : Told o t :=
  ⟨h'.requests.trans h.requests, fun p => (h.port p).trans (h'.port p)⟩

/-- With requests and ports as they were, nothing has been told. -/
theorem Told.of_same (h : Told o s) (hr : t.requests = s.requests) (hp : t.ports = s.ports) : Told o t :=
  ⟨hr.trans h.requests, fun p => by rw [hp]; exact h.port p⟩

/-- A port may be told something. -/
theorem Told.modifyPort (h : Told o s) (p : Port) {f : PortIf → PortIf} (hf : ∀ q, ToldPort q (f q)) :
    Told o (s.modifyPort p f) := by
  refine h.trans ⟨rfl, fun k => ?_⟩
  rw [State.modifyPort_ports, Quad.get_modify]
  split
  · exact hf _
  · exact .refl _

theorem Told.notify (h : Told o s) (p : Port) (x : Notice) : Told o (s.notify p x) :=
  h.modifyPort p fun q => toldPort_handAll q [x]

theorem Told.notifyAll (h : Told o s) (xs : List Notice) : Told o (s.notifyAll xs) :=
  h.trans ⟨rfl, fun p => by rw [State.notifyAll_ports, Quad.get_map]; exact toldPort_handAll _ xs⟩

/-! ### The Grant Engine -/

theorem endWait_told (c : Option WaitCause) (e : WaitEntry) (h : Told o s) : Told o (s.endWait c e) := by
  have hleave : Told o (s.leaveQueue e) := h.of_same rfl rfl
  cases c with
  | none => exact hleave.of_same rfl rfl
  | some x => exact (hleave.notify e.port _).of_same rfl rfl

theorem endWaits_told (c : Option WaitCause) (es : List WaitEntry) (h : Told o s) : Told o (s.endWaits c es) :=
  State.endWaits_induct c (fun _ e hs => endWait_told c e hs) es s h

theorem grantInto_told (n : Nat) (g : GrantOrder) (h : Told o s) : Told o (s.grantInto n g) :=
  h.of_same (s.grantInto_requests n g) (s.grantInto_ports n g)

theorem grantWaiting_told (n : Nat) (e : WaitEntry) (h : Told o s) : Told o (s.grantWaiting n e) :=
  have hleave : Told o ((s.grantInto n (s.orderOf e)).leaveQueue e) := (grantInto_told n (s.orderOf e) h).of_same rfl rfl
  hleave.notify e.port _

theorem queuePass_told (h : Told o s) : Told o s.queuePass :=
  State.queuePass_induct (fun _ e _ hs => endWait_told _ e hs) (fun _ _ _ _ hs => hs.of_same rfl rfl)
    (fun _ n e _ _ _ _ hs => grantWaiting_told n e hs) s h

theorem applyPass_told (h : Told o s) : Told o s.applyPass := endWaits_told _ _ (queuePass_told h)

theorem release_told (n : Nat) (e : Checkout) (k : RecordKind) (h : Told o s) : Told o (s.release n e k) :=
  h.of_same (s.release_requests n e k) (s.release_ports n e k)

theorem releaseMany_told (slots : List Nat) (es : List WaitEntry) (h : Told o s) : Told o (s.releaseMany slots es) := by
  have hslots : Told o (slots.foldl (State.releaseSlot · .returned) s) :=
    List.foldlRecOn _ _ h fun t ht n _ => by
      unfold State.releaseSlot
      split
      · exact release_told _ _ _ ht
      · exact ht
  have hends := endWaits_told none es hslots
  exact ite_keeps hends (queuePass_told hends)

theorem cancel_told (c : Option WaitCause) (e : WaitEntry) (h : Told o s) : Told o (s.cancel c e).1 :=
  have hend := endWait_told c e h
  ite_keeps (queuePass_told hend) hend

theorem abandonStaging_told (p : Port) (h : Told o s) : Told o (s.abandonStaging p) :=
  ite_keeps (h.of_same rfl rfl) h

/-! ### The term clock and second ticks (R88, R102) -/

theorem askSave_told (h : Told o s) : Told o s.askSave := by
  rcases s.askSave_cases with ⟨-, e⟩ | ⟨-, e⟩ <;> rw [e] <;> exact h.of_same rfl rfl

theorem changeClock_told (n : Nat) (h : Told o s) : Told o (s.changeClock n) := by
  have hclock (c : Catalogue) : Told o { s.withClock n with cat := c } := h.of_same rfl rfl
  have hnotices := (hclock (s.cat.atClock n)).notifyAll (termNotices s.cat.slots (s.cat.atClock n).slots)
  exact ite_keeps h (ite_keeps hnotices (askSave_told hnotices))

theorem tick_told (h : Told o s) : Told o s.tick := by
  have hwindow : Told o ({ s with time := { s.time with prescaler := 0 } } : State).countWindow := by
    rw [Timekeeping.countWindow_eq]; exact h.of_same rfl rfl
  have hminute : Told o ({ s with time := { s.time with prescaler := 0 } } : State).countWindow.countMinute :=
    ite_keeps (hwindow.of_same rfl rfl) (changeClock_told _ (hwindow.of_same rfl rfl))
  unfold State.tick
  rcases State.countStaging_cases
    ({ s with time := { s.time with prescaler := 0 } } : State).countWindow.countMinute with
    ⟨-, e⟩ | ⟨-, -, e⟩ | ⟨-, -, e⟩ <;> rw [e] <;> exact hminute.of_same rfl rfl

theorem trefEdge_told (h : Told o s) : Told o s.trefEdge := ite_keeps (h.of_same rfl rfl) (tick_told h)

theorem wclkRises_told (h : Told o s) : Told o s.wclkRises := by
  unfold State.wclkRises
  split
  · exact h
  · split <;> exact h.of_same rfl rfl

/-! ### The commands' works -/

/-- A heartbeat reaches the checkout table alone (R106). -/
theorem beatAll_told (b : Basis) (kept : Bool) (p : Port) :
    ∀ (hs : List Nat) {s : State}, Told o s → Told o (s.beatAll b kept p hs).1
  | [], _, h => h
  | n :: hs, s, h => by
    refine beatAll_told b kept p hs (s := (s.beat b kept p n).1) ?_
    unfold State.beat
    split
    · exact h
    · split
      · exact h
      · split
        · exact h
        · exact h.of_same rfl rfl

theorem refuse_told (c : Catalogue) (kept : Bool) (g : GrantOrder) (timeout : Nat) (q : QueueReason) (h : Told o s) :
    Told o (s.refuse c kept g timeout q).1 := by
  unfold State.refuse
  dsimp only
  split
  · split
    · split <;> exact h.of_same rfl rfl
    · exact h.of_same rfl rfl
  · exact h.of_same rfl rfl

theorem checkoutWork_told (r : Request) (h : Told o s) : Told o (checkoutWork r s).1 := by
  refine needsCatalogue_keeps h ?_
  split
  · exact h
  · split
    · exact h
    · split
      · exact h.of_same rfl rfl
      · unfold State.judgeOrder
        split
        · exact refuse_told _ _ _ _ _ h
        · exact grantInto_told _ _ h

theorem returnWork_told (r : Request) (h : Told o s) : Told o (returnWork r s).1 := by
  refine needsCatalogue_keeps h ?_
  split
  · exact h
  · split
    · exact h
    · split
      · exact queuePass_told (release_told _ _ _ h)
      · split
        · exact queuePass_told ((release_told _ _ _ h).notify _ _)
        · exact h

theorem returnTagWork_told (r : Request) (h : Told o s) : Told o (returnTagWork r s).1 := by
  refine needsCatalogue_keeps h ?_
  split
  · exact h
  · exact releaseMany_told _ _ h

theorem releasePortWork_told (r : Request) (h : Told o s) : Told o (releasePortWork r s).1 := by
  refine needsCatalogue_keeps h ?_
  split
  · exact h
  · exact abandonStaging_told _ (releaseMany_told _ _ h)

theorem heartbeatWork_told (r : Request) (h : Told o s) : Told o (heartbeatWork r s).1 := by
  refine needsCatalogue_keeps h ?_
  split
  · exact h
  · exact beatAll_told _ _ _ _ h

theorem cancelWaitWork_told (r : Request) (h : Told o s) : Told o (cancelWaitWork r s).1 := by
  refine needsCatalogue_keeps h ?_
  split
  · exact h
  · split
    · exact h
    · split
      · exact cancel_told _ _ h
      · exact needsAdmin_keeps h (cancel_told _ _ h)

theorem timeAssertWork_told (r : Request) (h : Told o s) : Told o (timeAssertWork r s).1 := by
  have hassert (p : Port) (v : Nat) : Told o (s.assertTime p v) :=
    ite_keeps h ((changeClock_told _ h).of_same rfl rfl)
  refine needsTime_keeps h ?_
  split
  · exact h
  · split
    · exact h
    · exact hassert _ _

theorem windowCloseWork_told (r : Request) (h : Told o s) : Told o (windowCloseWork r s).1 := by
  refine needsAdmin_keeps h ?_
  split
  · exact h
  · exact h.of_same rfl rfl

/-- A staging command reaches the Image Stager and the Store Controller alone (R142). -/
theorem stagingWork_told (r : Request) (hc : isStaging r.command = true) (h : Told o s) :
    Told o (workOf r.command r s).1 :=
  h.of_same (workOf_sameRun ..).requests (WaitQueue.stagingWork_ports s hc)

theorem policyStageWork_told (r : Request) (h : Told o s) : Told o (policyStageWork r s).1 := by
  refine policyCommand_keeps h ?_
  split
  · exact h
  · exact h.of_same rfl rfl

theorem policyApplyWork_told (r : Request) (h : Told o s) : Told o (policyApplyWork r s).1 := by
  refine policyCommand_keeps h ?_
  split
  · exact h
  · exact applyPass_told (h.of_same rfl rfl)

theorem setCeilingWork_told (r : Request) (h : Told o s) : Told o (setCeilingWork r s).1 := by
  refine policyCommand_keeps h ?_
  split
  · exact h
  · exact ite_keeps (h.of_same rfl rfl) (ite_keeps (queuePass_told (h.of_same rfl rfl)) (h.of_same rfl rfl))

theorem setShareWork_told (r : Request) (h : Told o s) : Told o (setShareWork r s).1 := by
  refine policyCommand_keeps h ?_
  split
  · exact h
  · exact queuePass_told (h.of_same rfl rfl)

theorem readNoticeWork_told (r : Request) (h : Told o s) : Told o (readNoticeWork r s).1 := by
  unfold readNoticeWork
  split
  · exact h
  · exact h.modifyPort _ toldPort_takeNotice

theorem setNoticeWork_told (r : Request) (h : Told o s) : Told o (setNoticeWork r s).1 := by
  unfold setNoticeWork
  split
  · exact h
  · exact h.modifyPort _ fun q => ⟨rfl, rfl, rfl, id⟩

/-- No command's work does more to a port than tell it something, before the reply (R185). -/
theorem workOf_told (r : Request) (h : Told o s) : Told o (workOf r.command r s).1 := by
  cases hc : r.command with
  | checkout => exact checkoutWork_told r h
  | returnCheckout => exact returnWork_told r h
  | returnTag => exact returnTagWork_told r h
  | releasePort => exact releasePortWork_told r h
  | queryCheckout => exact queryCheckoutWork_keeps r h
  | heartbeat => exact heartbeatWork_told r h
  | cancelWait => exact cancelWaitWork_told r h
  | queryWait => exact queryWaitWork_keeps r h
  | queryFeature => exact queryFeatureWork_keeps r h
  | queryPool => exact queryPoolWork_keeps r h
  | timeAssert => exact timeAssertWork_told r h
  | windowClose => exact windowCloseWork_told r h
  | stageBegin | stageRecord | stageFinish | activate | stageAbort =>
    rw [← hc]; exact stagingWork_told r (by rw [hc]; rfl) h
  | policyStage => exact policyStageWork_told r h
  | policyApply => exact policyApplyWork_told r h
  | setCeiling => exact setCeilingWork_told r h
  | setShare => exact setShareWork_told r h
  | journalStatus => exact journalStatusWork_keeps r h
  | readNotice => exact readNoticeWork_told r h
  | setNotice => exact setNoticeWork_told r h
  | identify => exact identifyWork_keeps r h

/-! ### Window ends (R90) -/

theorem startWalk_told (h : Told o s) : Told o s.startWalk := by
  unfold State.startWalk; split <;> exact h.of_same rfl rfl

theorem sweepTakes_told (h : Told o s) : Told o s.sweepTakes := by
  have hdue : Told o (s.withDue { s.due with sweep := s.due.sweep - 1 }) := h.of_same rfl rfl
  unfold State.sweepTakes
  split
  · exact startWalk_told hdue
  · exact hdue.of_same rfl rfl

theorem visit_told (n : Nat) (h : Told o s) : Told o ((s.visitSlot n).passSlot n) := by
  have hvisit : Told o (s.visitSlot n) := by
    unfold State.visitSlot
    split
    · exact h
    · exact ite_keeps (queuePass_told ((release_told _ _ _ h).notify _ _)) (h.of_same rfl rfl)
  have hpast (w : Sweep) : Told o ((s.visitSlot n).withSweep w) := hvisit.of_same rfl rfl
  exact ite_keeps (ite_keeps (startWalk_told (hpast _)) ((hpast _).of_same rfl rfl)) (hpast _)

theorem grantTakes_told (h : Told o s) : Told o s.grantTakes := by
  have hcount : Told o (s.withDue { s.due with grant := s.due.grant - 1 }).countDown := h.of_same rfl rfl
  exact queuePass_told ((endWaits_told _ _ hcount).of_same rfl rfl)

theorem enterShort_told (k : Pool) (w : Watch) (allowance : Nat) (h : Told o s) :
    Told o (s.enterShort k w allowance) := by
  have hwatch : Told o (s.withWatch k { w with watch := .short }) := h.of_same rfl rfl
  have hnotices := hwatch.notifyAll [.poolShort k]
  exact ite_keeps (queuePass_told (hnotices.of_same rfl rfl)) hnotices

theorem enterClear_told (k : Pool) (w : Watch) (h : Told o s) : Told o (s.enterClear k w) := by
  have hwatch : Told o (s.withWatch k { w with watch := .clear, overdraft := .closed }) := h.of_same rfl rfl
  have hnotices := hwatch.notifyAll [.poolClear k]
  unfold State.enterClear
  split
  · exact hnotices.of_same rfl rfl
  · exact hnotices

theorem watchTakes_told (k : Pool) (h : Told o s) : Told o (s.watchTakes k) := by
  have hdue : Told o (s.withDue { s.due with demand := s.due.demand.modify k (· - 1) }) := h.of_same rfl rfl
  unfold State.watchTakes State.watchWork
  dsimp only
  split
  · exact hdue.of_same rfl rfl
  · split
    · exact enterShort_told k _ _ hdue
    · exact enterClear_told k _ hdue
    all_goals exact hdue.of_same rfl rfl

theorem portTakes_told (p : Port) (first : List Pool) (h : Told o s) : Told o (s.portTakes p first) :=
  have hdue : Told o (s.withDue { s.due with port := s.due.port.modify p (· - 1) }) := h.of_same rfl rfl
  hdue.modifyPort p fun q => toldPort_handAll q (s.refreshes p (first ++ fours))

theorem takeDue_told (h : Told o s) : Told o s.takeDue :=
  State.takeDue_induct (fun _ hu => sweepTakes_told hu) (fun _ k hu => watchTakes_told k hu)
    (fun _ hu => grantTakes_told hu) (fun _ p hu => portTakes_told p [] hu) s h

/-! ### Writes of the store (R138) -/

theorem nextWrite_told (h : Told o s) : Told o s.nextWrite := by
  rcases s.nextWrite_cases with ⟨-, e⟩ | ⟨-, -, e⟩ | ⟨-, -, e⟩ <;> rw [e] <;> exact h.of_same rfl rfl

theorem windowAfterImage_told (h : Told o s) : Told o s.windowAfterImage := ite_keeps (h.of_same rfl rfl) h

theorem saveAfterImage_told (crossed : Bool) (h : Told o s) : Told o (s.saveAfterImage crossed) :=
  ite_keeps (h.of_same rfl rfl) h

theorem batchBegins_told (h : Told o s) : Told o s.batchBegins := by
  unfold State.batchBegins
  split
  · exact h
  · exact ite_keeps (h.of_same rfl rfl) h

end Sys2Proof.Machine.Links
end

section
/-! SUPPORT. Each port's state, response, overrun mark, current request and notice list in agreement, through every
command, event and step (R185, R187; O59). -/

namespace Sys2Proof.Machine.Links

open Charges

/-! ### A port in agreement with its requests -/

/-- A port that has `n` current requests holds a response in ANSWERED alone, an overrun mark and one current request in
WORKING alone, and at most 16 notices (R185, R187). -/
structure Agrees (q : PortIf) (n : Nat) : Prop where
  response : q.response.isSome = true ↔ q.state = .answered
  overrun : q.overrun = true → q.state = .working
  current : n = if q.state = .working then 1 else 0
  notices : q.notices.length ≤ Config.noticePlaces

variable {q q' : PortIf} {n : Nat}

theorem Agrees.told (h : Agrees q n) (ht : ToldPort q q') : Agrees q' n where
  response := by rw [ht.response, ht.state]; exact h.response
  overrun := by rw [ht.overrun, ht.state]; exact h.overrun
  current := by rw [ht.state]; exact h.current
  notices := ht.notices h.notices

/-- A port with a current request is WORKING, and with no other one. -/
theorem Agrees.working (h : Agrees q (n + 1)) : q.state = .working ∧ n = 0 := by
  have hn := h.current
  split at hn
  · exact ⟨‹_›, by omega⟩
  · omega

theorem Agrees.count_of_not_working (h : Agrees q n) (hw : q.state ≠ .working) : n = 0 := by rw [h.current, if_neg hw]

/-- A port without response, mark and current request agrees in IDLE. -/
theorem agrees_idle (hs : q.state = .idle) (hr : q.response = none) (ho : q.overrun = false)
    (hn : q.notices.length ≤ Config.noticePlaces) : Agrees q 0 :=
  ⟨by simp [hs, hr], by simp [ho], by simp [hs], hn⟩

/-- A port with a response placed agrees in ANSWERED (R185). -/
theorem agrees_place (hn : q.notices.length ≤ Config.noticePlaces) (x : Reply) : Agrees (q.place x) 0 :=
  ⟨by simp [PortIf.place], by simp [PortIf.place], by simp [PortIf.place], hn⟩

theorem agrees_answer (hn : q.notices.length ≤ Config.noticePlaces) (x : Reply) : Agrees (q.answer x) 0 := by
  have ht : ToldPort (q.place x) (q.answer x) := by
    rw [PortIf.answer, PortIf.attend_eq]; exact ⟨rfl, rfl, rfl, id⟩
  exact (agrees_place hn x).told ht

/-- A frame that a port answers itself leaves it in agreement, with as many requests (R185). -/
theorem Agrees.answerItself (h : Agrees q n) (st : Status) : Agrees (q.answerItself st) n := by
  unfold PortIf.answerItself
  split
  · rename_i hs
    rw [h.count_of_not_working (by simp [hs])]; exact agrees_answer h.notices _
  · rename_i hs
    exact ⟨h.response, fun _ => hs, h.current, h.notices⟩
  · rename_i hs
    rw [h.count_of_not_working (by simp [hs])]; exact agrees_place h.notices _

/-- A read transaction leaves a port in agreement (R185): one that empties the buffer leaves it IDLE. -/
theorem Agrees.read (h : Agrees q n) (len : Nat) (answered : Bool) : Agrees (q.read len answered) n := by
  unfold PortIf.read
  split
  · rename_i x hs hx
    dsimp only
    split
    · rw [h.count_of_not_working (by simp [hs])]
      refine agrees_idle rfl rfl ?_ h.notices
      cases ho : q.overrun
      · rfl
      · cases hs.symm.trans (h.overrun ho)
    · exact h.told ⟨rfl, rfl, rfl, id⟩
  · exact h.told ⟨rfl, rfl, rfl, id⟩

/-! ### Current requests -/

/-- The number of current requests of a port. -/
def currentOf (rs : List Request) (p : Port) : Nat := (rs.filter fun r => r.current && r.port == p).length

theorem currentOf_append (rs rs' : List Request) (p : Port) :
    currentOf (rs ++ rs') p = currentOf rs p + currentOf rs' p := by
  simp [currentOf]

theorem currentOf_cons (r : Request) (rs : List Request) (p : Port) :
    currentOf (r :: rs) p = currentOf rs p + if r.current = true ∧ r.port = p then 1 else 0 := by
  by_cases h : r.current = true ∧ r.port = p <;> simp [currentOf, h]

/-- A change of requests that keeps port and currency keeps the count. -/
theorem currentOf_map {f : Request → Request} (hc : ∀ r, (f r).current = r.current) (hp : ∀ r, (f r).port = r.port)
    (rs : List Request) (p : Port) : currentOf (rs.map f) p = currentOf rs p := by
  simp [currentOf, List.filter_map, Function.comp_def, hc, hp]

/-- The oldest request of a port for a command counts where it is current; the others stay (R185). -/
theorem currentOf_dropRequest {s : State} {c : Command} {p : Port} {r : Request} (hn : s.nextRequest c p = some r)
    (k : Port) : currentOf s.requests k =
      currentOf (s.dropRequest c p).requests k + if r.current = true ∧ r.port = k then 1 else 0 := by
  obtain ⟨hr, older, younger, hs, ho⟩ := List.find?_eq_some_iff_append.mp hn
  have hdrop : (s.dropRequest c p).requests = older ++ younger := by
    rw [State.dropRequest_requests, hs, List.eraseP_append_right _ (by simpa using ho)]
    simp [hr]
  rw [hdrop, hs, currentOf_append, currentOf_append, currentOf_cons, Nat.add_assoc]

/-! ### A part in agreement -/

/-- Every port agrees with its requests. -/
def Shaped (s : State) : Prop := ∀ p, Agrees (s.ports.get p) (currentOf s.requests p)

theorem shaped_iff (s : State) : Shaped s ↔ s.PortsShaped ∧ s.NoticesBounded :=
  ⟨fun h => ⟨fun p => ⟨(h p).response, (h p).overrun, (h p).current⟩, fun p => (h p).notices⟩,
    fun ⟨hs, hn⟩ p => ⟨(hs p).1, (hs p).2.1, (hs p).2.2, hn p⟩⟩

variable {s t : State}

/-- What tells the ports something at most keeps them in agreement. -/
theorem Told.shaped (ht : Told s t) (h : Shaped s) : Shaped t := fun p => by
  rw [ht.requests]; exact (h p).told (ht.port p)

theorem shaped_of_same (h : Shaped s) (hr : t.requests = s.requests) (hp : t.ports = s.ports) : Shaped t :=
  ((Told.refl s).of_same hr hp).shaped h

/-- A change of one port that keeps it in agreement, whatever it agrees with. -/
theorem modifyPort_shaped {p : Port} {f : PortIf → PortIf} (h : Shaped s)
    (hf : ∀ n, Agrees (s.ports.get p) n → Agrees (f (s.ports.get p)) n) : Shaped (s.modifyPort p f) := fun k => by
  rw [State.modifyPort_ports, Quad.get_modify]
  split
  · rename_i hk; subst hk; exact hf _ (h k)
  · exact h k

/-! ### A request carried out, and those finished before an event (R155, R169, R185) -/

/-- A request carried out leaves the ports in agreement (R185): the response of a current one is placed at its port, which
has then no current request left, and of another one nothing is left. -/
theorem carryOut_shaped {c : Command} {p : Port} {r : Request} (hn : s.nextRequest c p = some r) (h : Shaped s) :
    Shaped (s.carryOut c p r (workOf c)) := by
  obtain ⟨hc, hp⟩ := s.nextRequest_isFor c p r hn
  have hwork := workOf_told r (.refl (s.dropRequest c p))
  rw [hc] at hwork
  -- Before the reply each port agrees with its requests and the one carried out.
  have hbefore (k : Port) : Agrees ((workOf c r (s.dropRequest c p)).1.ports.get k)
      (currentOf (workOf c r (s.dropRequest c p)).1.requests k + if r.current = true ∧ r.port = k then 1 else 0) := by
    rw [hwork.requests, ← currentOf_dropRequest hn]
    exact (h k).told (hwork.port k)
  unfold State.carryOut
  dsimp only
  generalize workOf c r (s.dropRequest c p) = out at hbefore
  rcases out.1.respond_cases r out.2 with ⟨hcur, e⟩ | ⟨hcur, e⟩ <;> rw [e] <;> intro k <;> have hk := hbefore k
  · rw [State.modifyPort_ports, State.modifyPort_requests, Quad.get_modify]
    by_cases hport : k = r.port
    · subst hport
      rw [if_pos ⟨hcur, rfl⟩] at hk
      rw [if_pos rfl, hk.working.2]
      exact agrees_answer hk.notices _
    · rw [if_neg hport]
      rwa [if_neg (fun hx => hport hx.2.symm)] at hk
  · rwa [if_neg (by simp [hcur])] at hk

/-- What the carrying out of the oldest request of a port for a command keeps, the finishing of requests keeps that are
all to be finished for their port and command. -/
theorem finish_oldest_induct {P : State → Prop} {due : Request → Bool}
    (hdue : ∀ x y : Request, due x = true → y.isFor x.command x.port = true → due y = true)
    (h : ∀ (u : State) (r : Request), u.nextRequest r.command r.port = some r → P u →
      P (u.carryOut r.command r.port r (workOf r.command)))
    (hs : P s) : P (s.finish due) := by
  generalize hlen : s.requests.length = len
  induction len generalizing s with
  | zero =>
    rw [State.finish_none s due (by simp [List.eq_nil_of_length_eq_zero hlen])]
    exact hs
  | succ len ih =>
    cases hfind : s.requests.find? due with
    | none =>
      rw [State.finish_none s due (by simpa using hfind)]
      exact hs
    | some r =>
      obtain ⟨hr, older, younger, hq, ho⟩ := List.find?_eq_some_iff_append.mp hfind
      have ho' : ∀ x ∈ older, due x = false := by simpa using ho
      have hfor : r.isFor r.command r.port = true := by simp [Request.isFor]
      have hskip : ∀ x ∈ older, ¬ x.isFor r.command r.port = true := fun x hx hxf =>
        Bool.false_ne_true ((ho' x hx).symm.trans (hdue r x hr hxf))
      have hnext : s.nextRequest r.command r.port = some r :=
        List.find?_eq_some_iff_append.mpr ⟨hfor, older, younger, hq, by simpa using hskip⟩
      rw [s.finish_oldest due older younger r hq ho' (fun x hx => hdue r x hr hx)]
      refine ih (h s r hnext hs) ?_
      rw [(s.carryOut_sameRun r.command r.port r).requests, State.dropRequest_requests,
        List.length_eraseP_of_mem (a := r) (by simp [hq]) hfor, hlen]
      rfl

theorem finishStaging_shaped (p : Port) (h : Shaped s) : Shaped (s.finishStaging p) :=
  finish_oldest_induct (by simp +contextual [Request.isFor]) (fun _ _ hn hu => carryOut_shaped hn hu) h

theorem finishTaken_shaped (h : Shaped s) : Shaped s.finishTaken :=
  finish_oldest_induct (by simp +contextual [Request.isFor]) (fun _ _ hn hu => carryOut_shaped hn hu) h

/-! ### Events of a port (R183, R185, R186) -/

/-- A valid frame leaves the ports in agreement (R185): taken, the port is WORKING with one current request; dropped in
WORKING, it has the overrun mark. -/
theorem takeFrame_shaped (p : Port) (c : Command) (payload : List Byte) (h : Shaped s) :
    Shaped (s.takeFrame p c payload) := by
  have htaken (hs : (s.ports.get p).state ≠ .working) : Shaped
      { s.modifyPort p (fun q => { q with state := .working, response := none }) with
        requests := s.requests ++ [{ port := p, command := c, payload := payload, current := true, under := none }] } := by
    intro k
    dsimp only
    rw [State.modifyPort_ports, Quad.get_modify, currentOf_append, currentOf_cons]
    by_cases hk : k = p
    · subst hk
      rw [if_pos rfl, (h k).count_of_not_working hs]
      exact ⟨by simp, fun _ => rfl, by simp [currentOf], (h k).notices⟩
    · rw [if_neg hk, if_neg (fun hx => hk hx.2.symm)]
      exact h k
  unfold State.takeFrame
  split
  · rename_i hs
    exact modifyPort_shaped h fun n hq => ⟨hq.response, fun _ => hs, hq.current, hq.notices⟩
  all_goals rename_i hs; exact htaken (by simp [hs])

theorem endTransaction_shaped (p : Port) (bytes : List Byte) (h : Shaped s) : Shaped (s.endTransaction p bytes) := by
  have hsdo (x : List Byte) : Shaped (s.modifyPort p fun q => { q with sdo := x }) :=
    modifyPort_shaped h fun n hq => hq.told ⟨rfl, rfl, rfl, id⟩
  unfold State.endTransaction
  split
  · exact h
  · refine ite_keeps ?_ (ite_keeps (modifyPort_shaped h fun n hq => hq.read _ _) h)
    unfold State.writeTransaction
    dsimp only
    split
    · exact modifyPort_shaped (hsdo _) fun n hq => hq.answerItself _
    · exact modifyPort_shaped (hsdo _) fun n hq => hq.answerItself _
    · exact takeFrame_shaped _ _ _ (hsdo _)

/-- A port that is reset is IDLE and has no current request (R186). -/
theorem clearPort_shaped (p : Port) (h : Shaped s) : Shaped (s.clearPort p) := by
  intro k
  rw [WaitQueue.clearPort_eq]
  show Agrees ((s.ports.modify p PortIf.portReset).get k) (currentOf (s.requests.map (WaitQueue.outdated p)) k)
  rw [Quad.get_modify]
  by_cases hk : k = p
  · subst hk
    have hnone : currentOf (s.requests.map (WaitQueue.outdated k)) k = 0 := by
      rw [currentOf, List.length_eq_zero_iff, List.filter_eq_nil_iff]
      intro x hx
      obtain ⟨r, -, rfl⟩ := List.mem_map.mp hx
      by_cases hr : r.port = k <;> simp [WaitQueue.outdated, hr]
    rw [if_pos rfl, hnone]
    exact agrees_idle rfl rfl rfl (Nat.zero_le _)
  · have hsame : currentOf (s.requests.map (WaitQueue.outdated p)) k = currentOf s.requests k := by
      simp only [currentOf, List.filter_map, List.length_map]
      congr 2
      funext r
      by_cases hr : r.port = p
      · simp [WaitQueue.outdated, hr, Ne.symm hk]
      · simp [WaitQueue.outdated, hr]
    rw [if_neg hk, hsame]
    exact h k

theorem resetPort_shaped (p : Port) (h : Shaped s) : Shaped (s.resetPort p) := by
  have hfinish : Shaped ((s.clearPort p).finishStaging p) := finishStaging_shaped p (clearPort_shaped p h)
  unfold State.resetPort
  generalize (s.clearPort p).finishStaging p = t at hfinish
  have hends := endWaits_told none (t.entriesOf p) (.refl t)
  have hdrop : Told t (t.dropEntries p) := ite_keeps (queuePass_told hends) hends
  exact (abandonStaging_told p hdrop).shaped hfinish

/-! ### Reset and activation (R18, R140, R152, R185) -/

/-- A part brought up has every port IDLE and no requests (R185). -/
theorem bringUp_shaped (s : State) (store : Store) (v : SavedValues) (straps : Quad Straps) :
    Shaped (s.bringUp store v straps) := fun p => by
  show Agrees ((Quad.ofFn _).get p) 0
  rw [Quad.get_ofFn]
  exact agrees_idle rfl rfl rfl (Nat.zero_le _)

theorem releaseIfWaiting_shaped (h : Shaped s) : Shaped s.releaseIfWaiting := by
  unfold State.releaseIfWaiting
  split
  · exact bringUp_shaped _ _ _ _
  all_goals exact h

/-- An activation gives the ports their classes and notices, and the requests their basis (R1, R5, R152). -/
theorem activateBlocks_shaped (ahead : Quad Nat) (h : Shaped s) : Shaped (s.activateBlocks ahead) := fun p => by
  have hport : ToldPort (s.ports.get p) (s.newPort (headOf s.stager.image) p (ahead.get p)) :=
    ToldPort.trans (q := { s.ports.get p with
      effClass := effectiveClass (some (headOf s.stager.image)) (s.ports.get p).strapClass p }) ⟨rfl, rfl, rfl, id⟩
      (toldPort_handAll _ _)
  show Agrees ((Quad.ofFn _).get p) (currentOf (s.requests.map _) p)
  rw [Quad.get_ofFn, currentOf_map (f := fun r => { r with under := some (s.basis r) }) (fun _ => rfl) (fun _ => rfl)]
  exact (h p).told hport

theorem completeActivation_shaped (ahead : Quad Nat) (h : Shaped s) : Shaped (s.completeActivation ahead) := by
  have htaken : Shaped s.finishTaken.takeDue := (takeDue_told (.refl _)).shaped (finishTaken_shaped h)
  unfold State.completeActivation
  generalize s.finishTaken.takeDue = t at htaken
  have hwritten : Told (t.activateBlocks ahead) (((t.activateBlocks ahead).recordDroppable
      (imageBody (t.stager.port.getD 0) (headOf t.stager.image).header.issue)).storeImage t.stager.image) :=
    Told.of_same (.refl _) rfl rfl
  exact (windowAfterImage_told (saveAfterImage_told _ hwritten)).shaped (activateBlocks_shaped ahead htaken)

/-! ### Every command -/

/-- What an event leaves of a running part, or of one that does not run. -/
theorem whenRunning_shaped {f : State → State} (he : whenRunning s f = .next t) (h : Shaped s) (hf : Shaped (f s)) :
    Shaped t := by
  rcases whenRunning_cases s f with ⟨-, e⟩ | ⟨-, e⟩ <;> rw [e] at he <;> cases he
  · exact hf
  · exact h

theorem serve_shaped {c : Command} {p : Port} (he : serve c p s (workOf c) = .next t) (h : Shaped s) : Shaped t := by
  rcases serve_cases c p s (workOf c) with e | ⟨r, -, hn, e⟩ <;> rw [e] at he <;> cases he
  · exact h
  · exact carryOut_shaped hn h

theorem execSaveComplete_shaped (he : execSaveComplete s = .next t) (h : Shaped s) : Shaped t := by
  cases he
  split
  · rename_i v _ _
    have hstored : Told s (s.storeSaved v) := Told.of_same (.refl s) rfl rfl
    exact releaseIfWaiting_shaped ((nextWrite_told hstored).shaped h)
  · exact h

theorem execImageWriteComplete_shaped {ahead : Quad Nat} (he : execImageWriteComplete ahead s = .next t)
    (h : Shaped s) : Shaped t := by
  cases he
  split
  · exact ite_keeps (completeActivation_shaped ahead h) (releaseIfWaiting_shaped (shaped_of_same h rfl rfl))
  · exact h

theorem execResetRelease_shaped {straps : Quad Straps} (he : execResetRelease straps s = .next t) (h : Shaped s) :
    Shaped t := by
  have hpins : Shaped (s.withStrapPins straps) := fun p => by
    show Agrees ((Quad.ofFn _).get p) _
    rw [Quad.get_ofFn]
    exact (h p).told ⟨rfl, rfl, rfl, id⟩
  cases he
  exact ite_keeps (ite_keeps (shaped_of_same hpins rfl rfl) (bringUp_shaped _ _ _ _)) h

/-- Every command keeps the ports in agreement with their requests. -/
theorem exec_shaped (i : Instr) (he : exec i s = .next t) (h : Shaped s) : Shaped t := by
  have hsame {u : State} (hr : u.requests = s.requests) (hp : u.ports = s.ports) : Shaped u := shaped_of_same h hr hp
  cases i
  case powerOn straps => cases he; exact bringUp_shaped _ _ _ _
  case powerLoss => cases he; exact ite_keeps (shaped_of_same (bringUp_shaped _ _ _ _) rfl rfl) h
  case resetAssert => cases he; exact ite_keeps (hsame rfl rfl) h
  case resetRelease straps => exact execResetRelease_shaped he h
  case prstAssert p =>
    cases he
    exact ite_keeps (resetPort_shaped p h) (modifyPort_shaped h fun n hq => hq.told ⟨rfl, rfl, rfl, id⟩)
  case prstRelease p => cases he; exact modifyPort_shaped h fun n hq => hq.told ⟨rfl, rfl, rfl, id⟩
  case requestFrame p bytes =>
    dsimp only [exec, execRequestFrame] at he
    exact whenRunning_shaped he h (unlessPrst_keeps (endTransaction_shaped p bytes h) h)
  case readTransaction p n answered =>
    dsimp only [exec, execReadTransaction] at he
    exact whenRunning_shaped he h (unlessPrst_keeps (modifyPort_shaped h fun _ hq => hq.read n answered) h)
  case attnPulseEnd p =>
    dsimp only [exec, execAttnPulseEnd] at he
    exact whenRunning_shaped he h (modifyPort_shaped h fun n hq => hq.told ⟨rfl, rfl, rfl, id⟩)
  case secondTick => exact whenRunning_shaped he h ((tick_told (.refl s)).shaped h)
  case minuteAdvance | windowTimerExpiry | stagingTimeout =>
    exact whenRunning_shaped he h (ite_keeps ((tick_told (.refl s)).shaped h) h)
  case wclkRisingEdge => exact whenRunning_shaped he h ((wclkRises_told (.refl s)).shaped h)
  case wclkLowSeen =>
    dsimp only [exec, execWclkLowSeen] at he
    exact whenRunning_shaped he h (hsame rfl rfl)
  case sweepWindowEnd => exact whenRunning_shaped he h (ite_keeps ((sweepTakes_told (.refl s)).shaped h) h)
  case sweepVisit n | reclaim n => exact whenRunning_shaped he h (ite_keeps ((visit_told n (.refl s)).shaped h) h)
  case grantEngineWindowEnd | waitExpiry n =>
    exact whenRunning_shaped he h (ite_keeps ((grantTakes_told (.refl s)).shaped h) h)
  case demandWatchWindowEnd k => exact whenRunning_shaped he h (ite_keeps ((watchTakes_told k (.refl s)).shaped h) h)
  case portWindowEnd p first =>
    exact whenRunning_shaped he h (ite_keeps ((portTakes_told p first (.refl s)).shaped h) h)
  case saveComplete => exact execSaveComplete_shaped he h
  case imageWriteComplete ahead => exact execImageWriteComplete_shaped he h
  case batchBegin jend =>
    exact whenRunning_shaped he (hsame rfl rfl)
      ((batchBegins_told (Told.of_same (.refl s) (t := s.withJend jend) rfl rfl)).shaped h)
  case recordAcknowledge jend =>
    dsimp only [exec, execRecordAcknowledge] at he
    exact whenRunning_shaped he (hsame rfl rfl) (hsame rfl rfl)
  case jclkRisingEdge =>
    dsimp only [exec, execJclkRisingEdge] at he
    exact whenRunning_shaped he h (hsame rfl rfl)
  case checkout p | returnCheckout p | returnTag p | releasePort p | queryCheckout p | heartbeat p | cancelWait p |
      queryWait p | queryFeature p | queryPool p | timeAssert p | windowClose p | stageBegin p | stageRecord p |
      stageFinish p | activate p | stageAbort p | policyStage p | policyApply p | setCeiling p | setShare p |
      journalStatus p | readNotice p | setNotice p | identify p =>
    exact serve_shaped he h

/-- Settles O59: a step is a command or a TREF edge, and each keeps the ports in agreement. -/
theorem portsStayShaped : Obligations.PortsStayShaped := by
  intro s t hshaped hnotices hstep
  have h : Shaped s := (shaped_iff s).mpr ⟨hshaped, hnotices⟩
  rw [← shaped_iff]
  cases hp : s.pending with
  | nil =>
    rw [step, hp] at hstep
    cases hstep
    exact ite_keeps ((trefEdge_told (.refl s)).shaped h) h
  | cons c rest =>
    rw [step_front s c rest hp] at hstep
    exact exec_shaped c hstep (shaped_of_same h rfl rfl)

end Sys2Proof.Machine.Links
end

section
/-! SUPPORT. The bytes of frames: numbers, codes and flags (R193), the CRC-8 (R184; O11), and what a write or read
transaction does to its port (R183, R185, R186; O9, O10). -/

namespace Sys2Proof.Machine.Links

open Charges Images Logging

/-! ### Numbers and flags in bytes (R193) -/

theorem b2_def (n : Nat) : b2 n = [BitVec.ofNat 8 (n / 256), BitVec.ofNat 8 n] := by simp [b2, beBytes]

theorem b3_def (n : Nat) : b3 n = BitVec.ofNat 8 (n / 65536) :: b2 n := by simp [b3, b2, beBytes]

theorem b4_def (n : Nat) : b4 n = b2 (n / 65536) ++ b2 n := by simp [b4, b2, beBytes, Nat.div_div_eq_div_mul]

theorem b8_def (n : Nat) : b8 n = b4 (n / 4294967296) ++ b4 n := by simp [b8, b4, beBytes, Nat.div_div_eq_div_mul]

theorem tokens_def (q : Quad Nat) : tokens q = b3 (q.get 0) ++ b3 (q.get 1) ++ b3 (q.get 2) ++ b3 (q.get 3) := by
  simp [tokens, Quad.toList, Quad.get]

theorem flagBits_lt (l : List Bool) : flagBits l < 2 ^ l.length := by
  induction l with
  | nil => simp [flagBits]
  | cons b l ih =>
    rw [flagBits, List.length_cons, pow_succ]
    split <;> omega

/-- A set of at most eight flags stands in one byte, the first in bit 0 (R193). -/
theorem flagByte (l : List Bool) : ∃ b : Byte,
    b1 (flagBits l) = [b] ∧ b.toNat < 2 ^ l.length ∧ ∀ i, i < 8 → b.getLsbD i = l.getD i false := by
  refine ⟨BitVec.ofNat 8 (flagBits l), b1_def _, ?_, fun i hi => ?_⟩
  · exact (Nat.mod_le _ _).trans_lt (flagBits_lt l)
  · rw [BitVec.getLsbD_ofNat, flagBits_testBit, decide_eq_true hi, Bool.true_and]

theorem checkoutFlags_byte (f : CheckoutFlags) : ∃ b : Byte, f.byte = [b] ∧ b.toNat < 16 ∧
    b.getLsbD 0 = f.overdraft ∧ b.getLsbD 1 = f.grace ∧ b.getLsbD 2 = f.orphan ∧ b.getLsbD 3 = f.metered := by
  obtain ⟨b, hb, hlt, hbit⟩ := flagByte [f.overdraft, f.grace, f.orphan, f.metered]
  exact ⟨b, hb, hlt, hbit 0 (by decide), hbit 1 (by decide), hbit 2 (by decide), hbit 3 (by decide)⟩

theorem siteFlags_bits (f : SiteFlags) : f.bits < 16 ∧ f.bits.testBit 0 = f.enabled ∧ f.bits.testBit 1 = f.queue ∧
    f.bits.testBit 2 = f.watchMask ∧ f.bits.testBit 3 = f.termNotice :=
  ⟨flagBits_lt _, flagBits_testBit _ 0, flagBits_testBit _ 1, flagBits_testBit _ 2, flagBits_testBit _ 3⟩

theorem vendorByte_bits (f : Feature) : ∃ b : Byte, f.vendorByte = [b] ∧ b.toNat < 8 ∧
    b.getLsbD 0 = f.metered ∧ b.getLsbD 1 = f.overdraftOk ∧ b.getLsbD 2 = f.queueable := by
  obtain ⟨b, hb, hlt, hbit⟩ := flagByte [f.metered, f.overdraftOk, f.queueable]
  exact ⟨b, hb, hlt, hbit 0 (by decide), hbit 1 (by decide), hbit 2 (by decide)⟩

/-! ### The CRC-8 (R184) and the first bytes of frames (R193) -/

theorem crc8Shift_eq : crc8Shift = fun r : BitVec 8 => if r.getLsbD 7 then (r <<< 1) ^^^ 0x07#8 else r <<< 1 := by
  funext r
  rw [crc8Shift, BitVec.msb_eq_getLsbD_last]

/-- One byte more is eight shifts more (R184). -/
theorem crc8_concat (bytes : List Byte) (b : Byte) : crc8 (bytes ++ [b]) = crc8Shift^[8] (crc8 bytes ^^^ b) := by
  rw [crc8, List.foldl_concat]; rfl

theorem commandOfCode_iff (n : Nat) (c : Command) : commandOfCode n = some c ↔ n = commandCode c := by
  constructor
  · intro h
    unfold commandOfCode at h
    split at h <;> cases h <;> rfl
  · rintro rfl
    cases c <;> rfl

theorem commandCode_lt (c : Command) : commandCode c < 256 := by cases c <;> decide

theorem status_code_lt (st : Status) : st.code < 16 := by cases st <;> decide

/-- OVERRUN stands in bit 7 of the status byte, above the status code (R193). -/
theorem statusByte_bits (x : Response) :
    x.statusByte.getLsbD 7 = x.overrun ∧ x.statusByte.toNat % 128 = x.status.code := by
  have hcode := status_code_lt x.status
  rw [Response.statusByte, BitVec.getLsbD_ofNat, BitVec.toNat_ofNat, Nat.testBit_eq_decide_div_mod_eq]
  cases x.overrun
  · simp; omega
  · simp; omega

/-- Settles O11: the shift is that of R184, a frame is its covered bytes and their CRC-8, and the codes are those of the
tables. -/
theorem frameCrcAsGiven : Obligations.FrameCrcAsGiven := by
  refine ⟨rfl, fun bytes b => ?_, by decide +kernel, fun c payload => ?_, fun x => ?_, commandOfCode_iff, rfl, fun x => ?_⟩
  · rw [crc8_concat, crc8Shift_eq]
  · rw [frameBytes, List.dropLast_concat, List.getLast?_concat]; exact ⟨rfl, rfl⟩
  · rw [Response.frame, List.dropLast_concat, List.getLast?_concat]; exact ⟨rfl, rfl⟩
  · obtain ⟨hbit, hcode⟩ := statusByte_bits x
    refine ⟨hbit, hcode.trans ?_⟩
    cases x.status <;> rfl

/-! ### Frames read (R183, R185) -/

section

variable {c len crc : Byte} {rest payload extra : List Byte}

/-- A frame of a length of at most 60 whose payload and CRC byte are there is judged by its CRC-8 and then its code,
whatever follows. -/
theorem parseFrame_whole (hl : payload.length = len.toNat) (hmax : len.toNat ≤ 60) :
    parseFrame (c :: len :: (payload ++ crc :: extra)) =
      if crc8 (c :: len :: payload) = crc then
        match commandOfCode c.toNat with
        | some x => .request x payload
        | none => .unknown
      else .error := by
  simp only [parseFrame, ← hl, List.take_left, List.drop_left]
  exact if_neg (by simp only [Config.maxPayload]; omega)

/-- A length above 60 is a frame error. -/
theorem parseFrame_long (h : 60 < len.toNat) : parseFrame (c :: len :: rest) = .error := by
  simp only [parseFrame]
  split
  · exact if_pos h
  · rfl

/-- A frame cut short is a frame error. -/
theorem parseFrame_short (h : rest.length < len.toNat + 1) : parseFrame (c :: len :: rest) = .error := by
  simp only [parseFrame, List.drop_eq_nil_of_le (Nat.le_of_lt_succ h)]

theorem parseFrame_empty {bytes : List Byte} (h : bytes.length < 2) : parseFrame bytes = .error := by
  match bytes, h with
  | [], _ => rfl
  | [_], _ => rfl

theorem parseFrame_wrongCrc (hl : payload.length = len.toNat) (hcrc : crc ≠ crc8 (c :: len :: payload)) :
    parseFrame (c :: len :: (payload ++ crc :: extra)) = .error := by
  rcases Nat.lt_or_ge 60 len.toNat with hlong | hmax
  · exact parseFrame_long hlong
  · rw [parseFrame_whole hl hmax, if_neg (Ne.symm hcrc)]

theorem parseFrame_unknown (hl : payload.length = len.toNat) (hmax : len.toNat ≤ 60)
    (hc : commandOfCode c.toNat = none) :
    parseFrame (c :: len :: (payload ++ crc8 (c :: len :: payload) :: extra)) = .unknown := by
  rw [parseFrame_whole hl hmax, if_pos rfl, hc]

end

/-- A request frame is read back as the command and payload it was made from (R183, R193). -/
theorem parseFrame_frameBytes (c : Command) {payload : List Byte} (extra : List Byte) (h : payload.length ≤ 60) :
    parseFrame (frameBytes c payload ++ extra) = .request c payload := by
  have hlen : (BitVec.ofNat 8 payload.length).toNat = payload.length := Nat.mod_eq_of_lt (by omega)
  have hcode : (BitVec.ofNat 8 (commandCode c)).toNat = commandCode c := Nat.mod_eq_of_lt (commandCode_lt c)
  rw [frameBytes, List.append_assoc, List.cons_append, List.cons_append, List.singleton_append,
    parseFrame_whole hlen.symm (by omega), if_pos rfl, hcode, (commandOfCode_iff _ c).mpr rfl]

theorem frameBytes_length (c : Command) (payload : List Byte) : (frameBytes c payload).length = payload.length + 3 := by
  simp [frameBytes]

theorem frame_length (x : Response) : x.frame.length = x.payload.length + 3 := by simp [Response.frame]

/-! ### Transactions (R183, R185, R186) -/

variable {s : State} {p : Port}

/-- While PRST is asserted no transaction has an effect (R186). -/
theorem exec_requestFrame_prst (bytes : List Byte) (h : (s.ports.get p).prst = true) :
    exec (.requestFrame p bytes) s = .next s := by
  show Host.Outcome.next (if s.running then s.unlessPrst p _ else s) = _
  rw [State.unlessPrst, if_pos h, ite_self]

theorem exec_readTransaction_prst (n : Nat) (answered : Bool) (h : (s.ports.get p).prst = true) :
    exec (.readTransaction p n answered) s = .next s := by
  show Host.Outcome.next (if s.running then s.unlessPrst p _ else s) = _
  rw [State.unlessPrst, if_pos h, ite_self]

/-- A transaction without a whole byte, or with another transaction byte, has no effect (R183). -/
theorem exec_requestFrame_other {bytes : List Byte}
    (h : bytes = [] ∨ ∃ t rest, bytes = t :: rest ∧ t ≠ 0x01#8 ∧ t ≠ 0x02#8) :
    exec (.requestFrame p bytes) s = .next s := by
  have hnone : s.endTransaction p bytes = s := by
    rcases h with rfl | ⟨t, rest, rfl, hwrite, hread⟩
    · rfl
    · rw [State.endTransaction, if_neg hwrite, if_neg hread]
  show Host.Outcome.next (if s.running then s.unlessPrst p fun s => s.endTransaction p bytes else s) = _
  rw [State.unlessPrst, hnone, ite_self, ite_self]

theorem exec_write (hrun : s.running = true) (hp : (s.ports.get p).prst = false) (bytes : List Byte) :
    exec (.requestFrame p (0x01#8 :: bytes)) s = .next (s.writeTransaction p bytes) := by
  show Host.Outcome.next (if s.running then s.unlessPrst p _ else s) = _
  rw [if_pos hrun, State.unlessPrst, hp]; rfl

theorem exec_read (hrun : s.running = true) (hp : (s.ports.get p).prst = false) (n : Nat) (answered : Bool) :
    exec (.readTransaction p n answered) s = .next (s.modifyPort p fun q => q.read n answered) := by
  show Host.Outcome.next (if s.running then s.unlessPrst p _ else s) = _
  rw [if_pos hrun, State.unlessPrst, hp]; rfl

theorem modifyPort_modifyPort (s : State) (p : Port) (f g : PortIf → PortIf) :
    (s.modifyPort p f).modifyPort p g = s.modifyPort p fun q => g (f q) := by
  rw [State.modifyPort, State.modifyPort_ports, modify_modify]; rfl

/-- Outside WORKING a valid frame's request is passed on (R185). -/
theorem takeFrame_taken (c : Command) (payload : List Byte) (h : (s.ports.get p).state ≠ .working) :
    s.takeFrame p c payload = { s.modifyPort p (fun q => { q with state := .working, response := none }) with
      requests := s.requests ++
        [{ port := p, command := c, payload := payload, current := true, under := none }] } := by
  unfold State.takeFrame
  split
  · exact absurd ‹_› h
  all_goals rfl

/-- In WORKING it is dropped with the overrun mark (R185). -/
theorem takeFrame_dropped (c : Command) (payload : List Byte) (h : (s.ports.get p).state = .working) :
    s.takeFrame p c payload = s.modifyPort p fun q => { q with overrun := true } := by
  unfold State.takeFrame
  split
  · rfl
  all_goals rename_i hs; cases h.symm.trans hs

/-- The part with SDOn's bytes of a write transaction at a port (R183). -/
def silenced (s : State) (p : Port) (n : Nat) : State := s.modifyPort p fun q => { q with sdo := silentBytes n }

theorem silenced_state (s : State) (p : Port) (n : Nat) :
    ((silenced s p n).ports.get p).state = (s.ports.get p).state := by
  rw [silenced, State.modifyPort_ports, Quad.get_modify_self]

theorem writeTransaction_request {bytes payload : List Byte} {c : Command}
    (hf : parseFrame bytes = .request c payload) :
    s.writeTransaction p bytes = (silenced s p (bytes.length + 1)).takeFrame p c payload := by
  rw [State.writeTransaction, hf]; rfl

/-- A frame error and an unknown command are answered by the port itself (R185). -/
theorem writeTransaction_answered {bytes : List Byte} {st : Status}
    (h : parseFrame bytes = .error ∧ st = .frameError ∨ parseFrame bytes = .unknown ∧ st = .badRequest) :
    s.writeTransaction p bytes =
      s.modifyPort p fun q => { q with sdo := silentBytes (bytes.length + 1) }.answerItself st := by
  rw [← modifyPort_modifyPort s p (fun q => { q with sdo := silentBytes (bytes.length + 1) }) (·.answerItself st)]
  rcases h with ⟨hf, rfl⟩ | ⟨hf, rfl⟩ <;> rw [State.writeTransaction, hf]

theorem answerItself_working {q : PortIf} (h : q.state = .working) (st : Status) :
    q.answerItself st = { q with overrun := true } := by
  rw [PortIf.answerItself, h]

/-- Outside WORKING a port that answers a frame itself is ANSWERED with the status (R185). -/
theorem answerItself_answered {q : PortIf} (h : q.state ≠ .working) (st : Status) :
    (q.answerItself st).state = .answered ∧ (q.answerItself st).notices = q.notices ∧
    (q.answerItself st).response = some { status := st, overrun := q.overrun, payload := [] } := by
  unfold PortIf.answerItself
  split
  · rw [PortIf.answer, PortIf.attend_eq]; exact ⟨rfl, rfl, rfl⟩
  · exact absurd ‹_› h
  · exact ⟨rfl, rfl, rfl⟩

/-- Settles O9, clause by clause: the bytes of fields, codes and flags, what a write transaction does in each port state,
and which bytes are which frame. -/
theorem framesJudgedByPort : Obligations.FramesJudgedByPort := by
  refine ⟨fun n => ⟨b1_def n, b2_def n, b3_def n, b4_def n, b8_def n⟩, rfl, rfl, tokens_def, rfl, rfl, rfl, rfl, rfl, rfl,
    rfl, rfl, rfl, rfl, rfl, ⟨fun _ => rfl, rfl⟩, ⟨fun _ => ⟨rfl, rfl⟩, rfl, rfl⟩, checkoutFlags_byte, siteFlags_bits,
    vendorByte_bits, fun s p bytes h => ?_, fun s p c payload extra hrun hp hlen => ?_,
    fun c payload extra h => parseFrame_frameBytes c extra h, fun bytes h => parseFrame_empty h,
    fun c len rest h => parseFrame_short h, fun c len rest h => parseFrame_long h,
    fun c len crc payload extra hl hcrc => parseFrame_wrongCrc hl hcrc,
    fun c len payload extra hl hmax hc => parseFrame_unknown hl hmax hc, fun s p bytes st hrun hp hframe => ?_⟩
  · rcases h with h | h
    · exact exec_requestFrame_prst bytes h
    · exact exec_requestFrame_other h
  · have hframe := parseFrame_frameBytes c extra hlen
    have hsdo : List.replicate (payload.length + extra.length + 4) 0xFF#8 =
        silentBytes ((frameBytes c payload ++ extra).length + 1) := by
      rw [List.length_append, frameBytes_length, silentBytes]; congr 1; omega
    rw [hsdo]
    refine ⟨_, exec_write hrun hp _, fun hs => ?_, fun hs => ?_⟩ <;> rw [writeTransaction_request hframe]
    · rw [takeFrame_taken _ _ (by rwa [silenced_state]), silenced, modifyPort_modifyPort]; rfl
    · rw [takeFrame_dropped _ _ (by rwa [silenced_state]), silenced, modifyPort_modifyPort]; rfl
  · refine ⟨_, exec_write hrun hp bytes, ?_⟩
    rw [writeTransaction_answered hframe]
    refine ⟨rfl, fun q hq => Quad.get_modify_ne _ hq _, fun hs => ?_, fun hs => ?_⟩
    all_goals rw [State.modifyPort_ports, Quad.get_modify_self]
    · rw [answerItself_working (by exact hs)]; rfl
    · exact answerItself_answered (by exact hs) st

/-! ### Reading (R183, R185) -/

/-- An ANSWERED port sends its response frame, and is IDLE and empty once the whole of it was read (R185). -/
theorem read_answered {q : PortIf} {x : Response} (hs : q.state = .answered) (hx : q.response = some x) (n : Nat) :
    q.read n true = { q with
      sdo := 0xFF#8 :: (x.frame ++ List.replicate n 0xFF#8).take n
      state := (if x.payload.length + 3 ≤ n then .idle else .answered)
      response := (if x.payload.length + 3 ≤ n then none else some x) } := by
  obtain ⟨⟩ := q
  subst hs hx
  show (if x.frame.length ≤ n then _ else _) = _
  rw [frame_length]
  by_cases hn : x.payload.length + 3 ≤ n
  · simp only [if_pos hn]; rfl
  · simp only [if_neg hn]; rfl

/-- A port that was not ANSWERED when the transaction byte was complete sends 0xFF alone (R183). -/
theorem read_silent {q : PortIf} {answered : Bool} (h : q.state ≠ .answered ∨ answered = false) (n : Nat) :
    q.read n answered = { q with sdo := silentBytes (n + 1) } := by
  unfold PortIf.read
  split
  · rename_i hs _
    rcases h with h | h
    · exact absurd hs h
    · cases h
  · rfl

/-- Settles O10: PRST first, then whether the port was ANSWERED. -/
theorem readDeliversResponse : Obligations.ReadDeliversResponse := by
  refine ⟨fun s p n answered h => exec_readTransaction_prst n answered h, fun s p rest => rfl,
    fun s p n hrun hp => ⟨fun x hs hx => ?_, fun answered h => ?_⟩⟩
  · rw [exec_read hrun hp, State.modifyPort, Quad.modify, read_answered hs hx]
  · rw [exec_read hrun hp, State.modifyPort, Quad.modify, read_silent h]; rfl

end Sys2Proof.Machine.Links
end

section
/-! SUPPORT. What a port does with a notice handed to it and with a response placed on it, and how ATTN shows them (R185,
R187, R188, R191; O12). -/

namespace Sys2Proof.Machine.Links

/-! ### A notice handed over (R187, R188) -/

variable {q : PortIf} {x : Notice}

theorem hand_of_sense (h : q.sensePasses x = false) : q.hand x = q := if_pos h

theorem hand_of_disabled (h : q.settings.allows x = false) : q.hand x = q := by
  rw [PortIf.hand, if_pos h, ite_self]

theorem hand_of_full (hs : q.sensePasses x = true) (ha : q.settings.allows x = true)
    (hfull : Config.noticePlaces ≤ q.notices.length) : q.hand x = { q with overflow := true } := by
  rw [PortIf.hand, if_neg (by simp [hs]), if_neg (by simp [ha]), if_pos hfull]

theorem hand_of_room (hs : q.sensePasses x = true) (ha : q.settings.allows x = true)
    (hroom : q.notices.length < Config.noticePlaces) : q.hand x = { q with
      notices := q.notices ++ [x], pulse := q.pulse || (decide (q.settings.attn = .pulse) && !q.prst) } := by
  rw [PortIf.hand, if_neg (by simp [hs]), if_neg (by simp [ha]), if_neg (Nat.not_le.mpr hroom), PortIf.attend_eq]

/-- The senses that pass a POOL_SHORT (R188). -/
theorem sensePasses_poolShort (q : PortIf) (k : Pool) : q.sensePasses (.poolShort k) = true ↔
    q.settings.senses.get k = .toShort ∨ q.settings.senses.get k = .both ∨
    (q.settings.senses.get k = .level ∧ Notice.poolShort k ∉ q.notices) := by
  cases h : q.settings.senses.get k <;> simp [PortIf.sensePasses, h]

/-- The senses that pass a POOL_CLEAR (R188). -/
theorem sensePasses_poolClear (q : PortIf) (k : Pool) : q.sensePasses (.poolClear k) = true ↔
    q.settings.senses.get k = .toClear ∨ q.settings.senses.get k = .both := by
  cases h : q.settings.senses.get k <;> simp [PortIf.sensePasses, h]

/-- A notice of another kind has no sense (R188). -/
theorem sensePasses_other (q : PortIf) (h : ∀ k, x ≠ .poolShort k ∧ x ≠ .poolClear k) : q.sensePasses x = true := by
  cases x with
  | poolShort k => exact absurd rfl (h k).1
  | poolClear k => exact absurd rfl (h k).2
  | _ => rfl

/-! ### A response placed (R185) and ATTN (R191) -/

theorem answer_eq (q : PortIf) (x : Reply) : q.answer x = { q with
    state := .answered, overrun := false
    pulse := q.pulse || (decide (q.settings.attn = .pulse) && !q.prst)
    response := some { status := x.status, overrun := q.overrun, payload := x.payload } } := by
  rw [PortIf.answer, PortIf.attend_eq]; rfl

theorem respond_current {s : State} {r : Request} (h : r.current = true) (x : Reply) :
    s.respond r x = s.modifyPort r.port fun q => q.answer x := if_pos h

theorem respond_outdated {s : State} {r : Request} (h : r.current = false) (x : Reply) : s.respond r x = s := by
  rw [State.respond, h]; rfl

theorem attn_level {s : State} {p : Port} (h : (s.ports.get p).settings.attn = .level) : s.attn p = true ↔
    s.running = true ∧ (s.ports.get p).prst = false ∧
      ((s.ports.get p).state = .answered ∨ (s.ports.get p).notices ≠ []) := by
  simp [State.attn, PortIf.attn, h]

theorem attn_pulse {s : State} {p : Port} (h : (s.ports.get p).settings.attn = .pulse) : s.attn p = true ↔
    s.running = true ∧ (s.ports.get p).prst = false ∧ (s.ports.get p).pulse = true := by
  simp [State.attn, PortIf.attn, h]

/-- Settles O12: the judgements of a notice in their order, the two fates of a response, and ATTN in both modes. -/
theorem noticesAndResponsesPlaced : Obligations.NoticesAndResponsesPlaced := by
  refine ⟨fun q x h => hand_of_sense h, fun q x h => hand_of_disabled h, fun q x hs ha h => hand_of_full hs ha h,
    fun q x hs ha h => hand_of_room hs ha h, fun x h t c n o g w st p k => ⟨rfl, rfl, rfl, rfl, rfl, rfl, rfl, rfl⟩,
    sensePasses_poolShort, sensePasses_poolClear, fun q x h => sensePasses_other q h,
    fun s r x h => respond_outdated h x, fun s r x h => ?_, fun s p h => attn_level h, fun s p h => attn_pulse h⟩
  rw [respond_current h]
  refine ⟨?_, fun p hp => Quad.get_modify_ne _ hp _, rfl⟩
  rw [State.modifyPort_ports, Quad.get_modify_self, answer_eq]

end Sys2Proof.Machine.Links
end

section
/-! SUPPORT. READ NOTICE and SET NOTICE: the notice taken, the settings as bytes, and the two rows (R187, R189, R190, R193;
O13). -/

namespace Sys2Proof.Machine.Links

open Charges Images Logging

/-! ### Settings as bytes (R190, R193) -/

theorem sense_ofCode_iff (n : Nat) (x : Sense) : Sense.ofCode n = some x ↔ n = x.code := by
  constructor
  · intro h
    unfold Sense.ofCode at h
    split at h <;> cases h <;> rfl
  · rintro rfl
    cases x <;> rfl

theorem signalMode_ofCode_iff (n : Nat) (x : SignalMode) : SignalMode.ofCode n = some x ↔ n = x.code := by
  constructor
  · intro h
    unfold SignalMode.ofCode at h
    split at h <;> cases h <;> rfl
  · rintro rfl
    cases x <;> rfl

theorem sense_code_lt (x : Sense) : x.code < 256 := by cases x <;> decide

theorem signalMode_code_lt (x : SignalMode) : x.code < 256 := by cases x <;> decide

/-- A byte carries a number below 256 exactly when it is the byte of that number. -/
theorem toNat_eq_iff {b : Byte} {n : Nat} (h : n < 256) : b.toNat = n ↔ b = BitVec.ofNat 8 n := by
  constructor
  · rintro rfl; simp
  · rintro rfl; exact Nat.mod_eq_of_lt h

theorem sense_ofByte_iff (b : Byte) (x : Sense) : Sense.ofCode b.toNat = some x ↔ b = BitVec.ofNat 8 x.code := by
  rw [sense_ofCode_iff, toNat_eq_iff (sense_code_lt x)]

theorem signalMode_ofByte_iff (b : Byte) (x : SignalMode) :
    SignalMode.ofCode b.toNat = some x ↔ b = BitVec.ofNat 8 x.code := by
  rw [signalMode_ofCode_iff, toNat_eq_iff (signalMode_code_lt x)]

/-- The kind enables, the first in bit 0. -/
theorem kindEnables_testBit (e : KindEnables) (i : Nat) : e.bits.testBit i =
    [e.granted, e.waitEnded, e.reclaimed, e.forced, e.poolShort, e.poolClear, e.term, e.image].getD i false :=
  flagBits_testBit _ i

theorem kindEnables_lt (e : KindEnables) : e.bits < 256 := by
  rw [KindEnables.bits]; exact (flagBits_lt _).trans_eq (by simp)

theorem kindEnables_ofByte_bits (e : KindEnables) : KindEnables.ofByte e.bits = e := by
  simp only [KindEnables.ofByte, kindEnables_testBit, List.getD_cons_zero, List.getD_cons_succ]

theorem kindEnables_bits_ofByte {n : Nat} (h : n < 256) : (KindEnables.ofByte n).bits = n := by
  refine Nat.eq_of_testBit_eq fun i => ?_
  rw [kindEnables_testBit]
  match i with
  | 0 | 1 | 2 | 3 | 4 | 5 | 6 | 7 => rfl
  | i + 8 =>
    have hpow : n < 2 ^ (i + 8) := h.trans_le (Nat.pow_le_pow_right (by decide) (by omega) : 2 ^ 8 ≤ 2 ^ (i + 8))
    exact (Nat.testBit_lt_two_pow hpow).symm

theorem kindEnables_ofByte_iff (b : Byte) (e : KindEnables) :
    KindEnables.ofByte b.toNat = e ↔ b = BitVec.ofNat 8 e.bits := by
  rw [← toNat_eq_iff (kindEnables_lt e)]
  constructor
  · rintro rfl; rw [kindEnables_bits_ofByte b.isLt]
  · intro h; rw [h, kindEnables_ofByte_bits]

/-- The six bytes of settings (R190). -/
theorem settings_bytes (x : NoticeSettings) : x.bytes = [BitVec.ofNat 8 x.enables.bits,
    BitVec.ofNat 8 (x.senses.get 0).code, BitVec.ofNat 8 (x.senses.get 1).code, BitVec.ofNat 8 (x.senses.get 2).code,
    BitVec.ofNat 8 (x.senses.get 3).code, BitVec.ofNat 8 x.attn.code] := by
  simp [NoticeSettings.bytes, b1_def, Quad.toList, Quad.get]

/-- A payload of SET NOTICE is well-formed exactly when it is the bytes of some settings (R190). -/
theorem parseSettings_iff (payload : List Byte) (x : NoticeSettings) :
    parseSettings payload = some x ↔ payload = x.bytes := by
  rw [settings_bytes]
  constructor
  · intro h
    unfold parseSettings at h
    split at h
    · rename_i e s0 s1 s2 s3 m
      split at h
      · rename_i h0 h1 h2 h3 hm
        cases h
        rw [sense_ofByte_iff] at h0 h1 h2 h3
        rw [signalMode_ofByte_iff] at hm
        simp only [List.cons.injEq, and_true]
        exact ⟨(kindEnables_ofByte_iff e _).mp rfl, h0, h1, h2, h3, hm⟩
      · cases h
    · cases h
  · rintro rfl
    simp only [parseSettings, (sense_ofByte_iff _ _).mpr rfl, (signalMode_ofByte_iff _ _).mpr rfl,
      (kindEnables_ofByte_iff _ _).mpr rfl]
    rfl

/-! ### The two rows (R189, R190) -/

theorem takeNotice_empty {q : PortIf} (h : q.notices = []) : q.takeNotice = { q with overflow := false } := by
  obtain ⟨⟩ := q
  subst h
  rfl

theorem takeNotice_oldest {q : PortIf} {x : Notice} {xs : List Notice} (h : q.notices = x :: xs) :
    q.takeNotice = { q with notices := xs, overflow := false } := by
  rw [PortIf.takeNotice, h, List.tail_cons]

variable {s : State} {r : Request}

theorem execReadNotice_malformed (hready : s.Ready r) (hc : r.command = .readNotice) (hp : r.payload ≠ []) :
    exec (.readNotice r.port) s = .next (s.onlyAnswered r (.bare .badRequest)) :=
  serve_answers (work := readNoticeWork) hready hc (if_pos hp)

theorem execReadNotice_takes (hready : s.Ready r) (hc : r.command = .readNotice) (hp : r.payload = []) :
    exec (.readNotice r.port) s = .next (({ s.dropRequest .readNotice r.port with
        ports := s.ports.set r.port (s.ports.get r.port).takeNotice }).respond r
      (.ok (oldestNotice (s.ports.get r.port).notices ++ indication (s.ports.get r.port).overflow ++
        b1 (s.ports.get r.port).notices.tail.length))) :=
  serve_gives (work := readNoticeWork) hready hc (if_neg (by simp [hp]))

theorem execSetNotice_malformed (hready : s.Ready r) (hc : r.command = .setNotice)
    (hp : parseSettings r.payload = none) :
    exec (.setNotice r.port) s = .next (s.onlyAnswered r (.bare .badRequest)) :=
  serve_answers (work := setNoticeWork) hready hc (by rw [setNoticeWork, hp])

theorem execSetNotice_adopts {x : NoticeSettings} (hready : s.Ready r) (hc : r.command = .setNotice)
    (hp : parseSettings r.payload = some x) :
    exec (.setNotice r.port) s = .next (({ s.dropRequest .setNotice r.port with
      ports := s.ports.set r.port ((s.ports.get r.port).adopt x) }).respond r (.ok x.bytes)) :=
  serve_gives (work := setNoticeWork) hready hc (by rw [setNoticeWork, hp]; rfl)

/-- Settles O13: the rows of READ NOTICE and SET NOTICE, and the bytes of notices and settings. -/
theorem noticeCommandsActOnOwnPort : Obligations.NoticeCommandsActOnOwnPort := by
  refine ⟨fun s r hready hc => ⟨execReadNotice_malformed hready hc, fun hp hn => ?_, fun x xs hp hn => ?_⟩,
    fun h t c n o g w st p k => ⟨?_, rfl, rfl, rfl, rfl, rfl, rfl, rfl⟩,
    fun s r hready hc hp => execSetNotice_malformed hready hc hp,
    fun s r x hready hc hp => execSetNotice_adopts hready hc hp, parseSettings_iff,
    fun x => ?_, rfl, rfl, rfl, rfl, rfl, rfl, rfl⟩
  · rw [execReadNotice_takes hready hc hp, hn, takeNotice_empty hn]; rfl
  · rw [execReadNotice_takes hready hc hp, hn, takeNotice_oldest hn]; rfl
  · have hflags : flagBits [o, g] = (if o then 1 else 0) + (if g then 2 else 0) := by
      cases o <;> cases g <;> rfl
    rw [← hflags]; rfl
  · obtain ⟨e, he, -, hbit⟩ := flagByte
      [x.enables.granted, x.enables.waitEnded, x.enables.reclaimed, x.enables.forced, x.enables.poolShort,
        x.enables.poolClear, x.enables.term, x.enables.image]
    rw [b1_def] at he
    obtain rfl := List.singleton_inj.mp he
    exact ⟨_, settings_bytes x, hbit 0 (by decide), hbit 1 (by decide), hbit 2 (by decide), hbit 3 (by decide),
      hbit 4 (by decide), hbit 5 (by decide), hbit 6 (by decide), hbit 7 (by decide)⟩

end Sys2Proof.Machine.Links
end

section
/-! SUPPORT. The Port Interface's window end: the POOL_SHORT notices that are due, handed one after another (R187, R188,
R191; O41). -/

namespace Sys2Proof.Machine.Links

open Timekeeping

/-- A port that has had the POOL_SHORT notices of pools handed to it, which all pass its senses and its kind enable: those
that fit are stored, one too many sets OVERFLOW, and a stored one starts a pulse in PULSE mode (R187, R191). -/
def shortsHanded (q : PortIf) (ks : List Pool) : PortIf :=
  { q with
    notices := q.notices ++ (ks.map fun k => .poolShort k).take (16 - q.notices.length)
    overflow := q.overflow || (!ks.isEmpty && decide (16 < q.notices.length + ks.length))
    pulse := q.pulse || (decide (q.settings.attn = .pulse) && !q.prst && !ks.isEmpty &&
      decide (q.notices.length < 16)) }

/-- The pools of a list that have no POOL_SHORT among the port's notices, each once. -/
def unlisted (q : PortIf) (ks : List Pool) : List Pool :=
  (ks.filter fun k => decide (Notice.poolShort k ∉ q.notices)).eraseDups

theorem shortsHanded_nil (q : PortIf) : shortsHanded q [] = q := by simp [shortsHanded]

/-- Where there is a place, the first pool's notice is stored and the others are handed after it. -/
theorem shortsHanded_of_room {q : PortIf} (h : q.notices.length < 16) (k : Pool) (ks : List Pool) :
    shortsHanded { q with
      notices := q.notices ++ [.poolShort k], pulse := q.pulse || (decide (q.settings.attn = .pulse) && !q.prst) } ks =
    shortsHanded q (k :: ks) := by
  have hplaces : 16 - q.notices.length = 16 - (q.notices.length + 1) + 1 := by omega
  have hover : (!ks.isEmpty && decide (16 < q.notices.length + 1 + ks.length)) =
      decide (16 < q.notices.length + (ks.length + 1)) := by
    cases ks with
    | nil => simp; omega
    | cons j js => simp [Nat.add_assoc, Nat.add_comm]
  have hpulse (a b c : Bool) : (a || a && b && c) = a := by cases a <;> rfl
  simp [shortsHanded, hplaces, hover, h, Bool.or_assoc, hpulse]

/-- Where there is none, a pool's notice sets OVERFLOW. -/
theorem shortsHanded_of_full {q : PortIf} (h : 16 ≤ q.notices.length) (ks : List Pool) :
    shortsHanded q ks = { q with overflow := q.overflow || !ks.isEmpty } := by
  have hplaces : 16 - q.notices.length = 0 := by omega
  have hover : (!ks.isEmpty && decide (16 < q.notices.length + ks.length)) = !ks.isEmpty := by
    cases ks with
    | nil => rfl
    | cons j js => simp; omega
  simp [shortsHanded, hplaces, hover, Nat.not_lt.mpr h]

/-- A pool that has a notice listed already is passed over. -/
theorem unlisted_of_listed {q : PortIf} {k : Pool} (h : Notice.poolShort k ∈ q.notices) (ks : List Pool) :
    unlisted q (k :: ks) = unlisted q ks := by
  simp [unlisted, h]

/-- A pool that has none comes first, and then those that have none beside it. -/
theorem unlisted_of_not_listed {q q' : PortIf} {k : Pool} (h : Notice.poolShort k ∉ q.notices) (ks : List Pool)
    (hq : q'.notices = q.notices ++ [.poolShort k]) : unlisted q (k :: ks) = k :: unlisted q' ks := by
  rw [unlisted, List.filter_cons_of_pos (by simpa using h), List.eraseDups_cons, List.filter_filter]
  congr 3
  funext j
  simp [hq, Bool.and_comm, beq_eq_decide]

theorem handAll_cons (q : PortIf) (x : Notice) (xs : List Notice) : q.handAll (x :: xs) = (q.hand x).handAll xs := rfl

/-- Notices that the kind enable stops change nothing (R187). -/
theorem handAll_disabled {q : PortIf} (h : q.settings.enables.poolShort = false) (ks : List Pool) :
    q.handAll (ks.map fun k => .poolShort k) = q := by
  induction ks with
  | nil => rfl
  | cons k ks ih =>
    rw [List.map_cons, handAll_cons, hand_of_disabled (x := .poolShort k) h, ih]

/-- Pools of LEVEL sense store one notice each, where none is listed (R188). -/
theorem handAll_level {q : PortIf} (ha : q.settings.enables.poolShort = true) (ks : List Pool)
    (hl : ∀ k ∈ ks, q.settings.senses.get k = .level) :
    q.handAll (ks.map fun k => .poolShort k) = shortsHanded q (unlisted q ks) := by
  induction ks generalizing q with
  | nil => exact (shortsHanded_nil q).symm
  | cons k ks ih =>
    have hsense : q.sensePasses (.poolShort k) = true ↔ Notice.poolShort k ∉ q.notices := by
      rw [sensePasses_poolShort]; simp [hl k (by simp)]
    have hrest : ∀ j ∈ ks, q.settings.senses.get j = .level := fun j hj => hl j (by simp [hj])
    rw [List.map_cons, handAll_cons]
    by_cases hk : Notice.poolShort k ∈ q.notices
    · rw [hand_of_sense (by simpa [hk] using hsense), ih ha hrest, unlisted_of_listed hk]
    · rw [unlisted_of_not_listed hk ks (q' := { q with notices := q.notices ++ [.poolShort k] }) rfl]
      rcases Nat.lt_or_ge q.notices.length 16 with hroom | hfull
      · rw [hand_of_room (hsense.mpr hk) ha hroom]
        exact (ih (by exact ha) (by exact hrest)).trans (shortsHanded_of_room hroom k _)
      · rw [hand_of_full (hsense.mpr hk) ha hfull]
        refine (ih (by exact ha) (by exact hrest)).trans ?_
        rw [shortsHanded_of_full hfull, shortsHanded_of_full (by exact hfull)]
        simp

/-! ### The row (R188) -/

variable {s : State} {p : Port} {first : List Pool}

theorem execPortWindowEnd_not_owed (hrun : s.running = true) (h : s.due.port.get p = 0) :
    exec (.portWindowEnd p first) s = .next s :=
  (whenRunning_running hrun _).trans (congrArg _ (if_neg (by omega)))

theorem execPortWindowEnd_owed (hrun : s.running = true) (h : 0 < s.due.port.get p) :
    exec (.portWindowEnd p first) s = .next (s.portTakes p first) :=
  (whenRunning_running hrun _).trans (congrArg _ (if_pos h))

/-- What a window end hands to the port: one POOL_SHORT for each due pool, under the kind enable (R188). -/
theorem refreshes_handed {due : Pool → Bool} (hdue : ∀ k, due k = true ↔ (s.ports.get p).settings.senses.get k = .level ∧
      (s.watches.get k).watch = .short ∧ Notice.poolShort k ∉ (s.ports.get p).notices) (order : List Pool) :
    (s.ports.get p).handAll (s.refreshes p order) =
      if (s.ports.get p).settings.enables.poolShort then shortsHanded (s.ports.get p) (order.filter due).eraseDups
      else s.ports.get p := by
  unfold State.refreshes
  split
  · rename_i ha
    have hlevel : ∀ k ∈ order.filter fun k => (s.ports.get p).settings.senses.get k == .level &&
        (s.watches.get k).watch == .short, (s.ports.get p).settings.senses.get k = .level := fun k hk => by
      obtain ⟨-, hk⟩ := List.mem_filter.mp hk
      exact eq_of_beq (Bool.and_eq_true_iff.mp hk).1
    rw [handAll_level ha _ hlevel, unlisted, List.filter_filter]
    congr 3
    funext k
    rw [Bool.eq_iff_iff, hdue]
    simp [and_comm, and_assoc]
  · rename_i ha
    exact handAll_disabled (by simpa using ha) _

/-- Settles O41: the refreshes of the due pools handed to the port, as far as its places go. -/
theorem portWindowEndRefreshesShortPools : Obligations.PortWindowEndRefreshesShortPools := by
  intro s p first due q ks hrun hq hdue hks
  subst hq hks
  refine ⟨fun h => execPortWindowEnd_not_owed hrun h, fun h => ?_⟩
  rw [execPortWindowEnd_owed hrun h, State.portTakes, State.modifyPort, Quad.modify]
  have hhanded := refreshes_handed hdue (first ++ fours)
  exact congrArg (fun q => Host.Outcome.next { s with
    due := { s.due with port := s.due.port.set p (s.due.port.get p - 1) }, ports := s.ports.set p q }) hhanded

end Sys2Proof.Machine.Links
end

section
/-! SUPPORT. The Timebase and the Sweep Unit outside their own events: the commands' works and the other window ends leave
them as they are (R87 to R97, R109). -/

namespace Sys2Proof.Machine.Units

open Charges

/-- `t` has the Timebase and the Sweep Unit of `s`. -/
structure SameClocks (s t : State) : Prop where
  time : t.time = s.time
  sweep : t.sweep = s.sweep

theorem SameClocks.refl (s : State) : SameClocks s s := ⟨rfl, rfl⟩

theorem SameClocks.trans {s t u : State} (h : SameClocks s t) (h' : SameClocks t u) : SameClocks s u :=
  ⟨h'.time.trans h.time, h'.sweep.trans h.sweep⟩

theorem SameClocks.thenPass {s t : State} (h : SameClocks s t) : SameClocks s t.queuePass :=
  h.trans ⟨by simp, by simp⟩

theorem SameClocks.thenEndWaits {s t : State} (h : SameClocks s t) (c : Option WaitCause) (es : List WaitEntry) :
    SameClocks s (t.endWaits c es) := h.trans ⟨by simp, by simp⟩

/-! ### Operations shared by several commands -/

theorem release_sameClocks (s : State) (n : Nat) (e : Checkout) (k : RecordKind) : SameClocks s (s.release n e k) :=
  ⟨by simp, by simp⟩

/-- A release with the notice it raises and the pass that follows (R58, R60, R113). -/
theorem release_notify_pass_sameClocks (s : State) (n : Nat) (e : Checkout) (k : RecordKind) (p : Port) (x : Notice) :
    SameClocks s ((s.release n e k).notify p x).queuePass :=
  SameClocks.thenPass ((release_sameClocks s n e k).trans ⟨rfl, rfl⟩)

theorem releaseMany_sameClocks (s : State) (slots : List Nat) (es : List WaitEntry) :
    SameClocks s (s.releaseMany slots es) := by
  have hslots : SameClocks s (slots.foldl (State.releaseSlot · .returned) s) :=
    List.foldlRecOn _ _ (.refl s) fun t ht n _ => ht.trans <| by
      unfold State.releaseSlot
      split
      · exact release_sameClocks ..
      · exact .refl t
  have hends := hslots.thenEndWaits none es
  exact ite_keeps hends hends.thenPass

theorem dropEntries_sameClocks (s : State) (p : Port) : SameClocks s (s.dropEntries p) :=
  have hends := (SameClocks.refl s).thenEndWaits none (s.entriesOf p)
  ite_keeps hends.thenPass hends

theorem respond_sameClocks (s : State) (r : Request) (x : Reply) : SameClocks s (s.respond r x) := by
  rcases s.respond_cases r x with ⟨-, e⟩ | ⟨-, e⟩ <;> rw [e]
  · exact ⟨rfl, rfl⟩
  · exact .refl s

/-! ### The commands' works -/

theorem refuse_sameClocks (s : State) (c : Catalogue) (kept : Bool) (g : GrantOrder) (timeout : Nat)
    (q : QueueReason) : SameClocks s (s.refuse c kept g timeout q).1 := by
  obtain ⟨-, hframe⟩ := Checkouts.refuse_frame s c kept g timeout q
  exact ⟨(congrArg State.time hframe :), (congrArg State.sweep hframe :)⟩

theorem judgeOrder_sameClocks (s : State) (c : Catalogue) (kept : Bool) (g : GrantOrder) (timeout : Nat) :
    SameClocks s (s.judgeOrder c kept g timeout).1 := by
  unfold State.judgeOrder
  split
  · exact refuse_sameClocks ..
  · exact ⟨s.grantInto_time .., s.grantInto_sweep ..⟩

theorem checkoutWork_sameClocks (r : Request) (s : State) : SameClocks s (checkoutWork r s).1 := by
  refine needsCatalogue_keeps (.refl s) ?_
  split
  · exact .refl s
  · split
    · exact .refl s
    · split
      · exact ⟨rfl, rfl⟩
      · exact judgeOrder_sameClocks ..

theorem returnWork_sameClocks (r : Request) (s : State) : SameClocks s (returnWork r s).1 := by
  refine needsCatalogue_keeps (.refl s) ?_
  split
  · exact .refl s
  · split
    · exact .refl s
    · split
      · exact (release_sameClocks ..).thenPass
      · split
        · exact release_notify_pass_sameClocks ..
        · exact .refl s

theorem returnTagWork_sameClocks (r : Request) (s : State) : SameClocks s (returnTagWork r s).1 := by
  refine needsCatalogue_keeps (.refl s) ?_
  split
  · exact .refl s
  · exact releaseMany_sameClocks ..

theorem beatAll_sameClocks (b : Basis) (kept : Bool) (p : Port) (hs : List Nat) (s : State) :
    SameClocks s (s.beatAll b kept p hs).1 := by
  induction hs generalizing s with
  | nil => exact .refl s
  | cons n hs ih =>
    refine SameClocks.trans (t := (s.beat b kept p n).1) ?_ (ih _)
    unfold State.beat
    split
    · exact .refl s
    · split
      · exact .refl s
      · split
        · exact .refl s
        · exact ⟨rfl, rfl⟩

theorem heartbeatWork_sameClocks (r : Request) (s : State) : SameClocks s (heartbeatWork r s).1 := by
  refine needsCatalogue_keeps (.refl s) ?_
  split
  · exact .refl s
  · exact beatAll_sameClocks ..

theorem cancel_sameClocks (s : State) (c : Option WaitCause) (e : WaitEntry) : SameClocks s (s.cancel c e).1 :=
  have hend : SameClocks s (s.endWait c e) := ⟨by simp, by simp⟩
  ite_keeps hend.thenPass hend

theorem cancelWaitWork_sameClocks (r : Request) (s : State) : SameClocks s (cancelWaitWork r s).1 := by
  refine needsCatalogue_keeps (.refl s) ?_
  split
  · exact .refl s
  · split
    · exact .refl s
    · split
      · exact cancel_sameClocks ..
      · split
        · exact cancel_sameClocks ..
        · exact .refl s

theorem setCeilingWork_sameClocks (r : Request) (s : State) : SameClocks s (setCeilingWork r s).1 := by
  refine policyCommand_keeps (.refl s) ?_
  split
  · exact .refl s
  · exact ite_keeps ⟨rfl, rfl⟩ (ite_keeps (SameClocks.thenPass ⟨rfl, rfl⟩) ⟨rfl, rfl⟩)

theorem setShareWork_sameClocks (r : Request) (s : State) : SameClocks s (setShareWork r s).1 := by
  refine policyCommand_keeps (.refl s) ?_
  split
  · exact .refl s
  · exact SameClocks.thenPass ⟨rfl, rfl⟩

/-- The commands that change one field of their own port or of the policy staging records. -/
theorem ownFieldWork_sameClocks {c : Command} (h : c ∈ [Command.policyStage, .readNotice, .setNotice]) (r : Request)
    (s : State) : SameClocks s (workOf c r s).1 := by
  fin_cases h
  · refine policyCommand_keeps (.refl s) ?_
    split <;> exact ⟨rfl, rfl⟩
  · dsimp only [workOf, readNoticeWork]
    split <;> exact ⟨rfl, rfl⟩
  · dsimp only [workOf, setNoticeWork]
    split <;> exact ⟨rfl, rfl⟩

/-! ### Port events and window ends -/

theorem endTransaction_sameClocks (s : State) (p : Port) (bytes : List Byte) :
    SameClocks s (s.endTransaction p bytes) := by
  unfold State.endTransaction State.writeTransaction State.takeFrame
  dsimp only
  repeat' split
  all_goals exact ⟨rfl, rfl⟩

theorem visitSlot_sameClocks (s : State) (n : Nat) : SameClocks s (s.visitSlot n) := by
  unfold State.visitSlot
  split
  · exact .refl s
  · exact ite_keeps (release_notify_pass_sameClocks ..) ⟨rfl, rfl⟩

theorem grantTakes_sameClocks (s : State) : SameClocks s s.grantTakes :=
  ⟨by simp [State.grantTakes, State.grantWork], by simp [State.grantTakes, State.grantWork]⟩

theorem watchTakes_sameClocks (s : State) (k : Pool) : SameClocks s (s.watchTakes k) := by
  unfold State.watchTakes State.watchWork
  dsimp only
  split
  · exact ⟨rfl, rfl⟩
  · split
    · exact ite_keeps (SameClocks.thenPass ⟨rfl, rfl⟩) ⟨rfl, rfl⟩
    · unfold State.enterClear
      dsimp only
      split <;> exact ⟨rfl, rfl⟩
    all_goals exact ⟨rfl, rfl⟩

theorem batchBegins_sameClocks (s : State) : SameClocks s s.batchBegins := by
  unfold State.batchBegins
  split
  · exact .refl s
  · exact ite_keeps ⟨rfl, rfl⟩ (.refl s)

end Sys2Proof.Machine.Units
end

section
/-! SUPPORT. The stored term states, the counters, the Image Stager and the Sweep Unit of a running part stay in shape
through every event of their own (R15, R87, R88, R97, R109, R141, R156; O60). -/

namespace Sys2Proof.Machine.Units

open Charges Images Timekeeping

/-- The units of a part in shape, whose stored term states are those of its clock. -/
structure InShape (s : State) : Prop where
  terms : s.TermsCurrent
  counters : s.CountersBounded
  stager : s.stager.Shaped
  sweep : s.sweep.Shaped

variable {s t : State}

/-- With catalogue, staging, Timebase and Sweep Unit as they were, the units are in shape. -/
theorem InShape.of_same (h : InShape s) (hi : SameImages s t) (hc : SameClocks s t) : InShape t where
  terms := by rw [State.TermsCurrent, hi.cat, hc.time]; exact h.terms
  counters := by rw [State.CountersBounded, hc.time]; exact h.counters
  stager := by rw [hi.stager]; exact h.stager
  sweep := by rw [hc.sweep]; exact h.sweep

/-- A change that touches none of the four units. -/
theorem InShape.congr (h : InShape s) (hcat : t.cat = s.cat) (htime : t.time = s.time) (hstager : t.stager = s.stager)
    (hsweep : t.sweep = s.sweep) : InShape t :=
  ⟨by rw [State.TermsCurrent, hcat, htime]; exact h.terms, by rw [State.CountersBounded, htime]; exact h.counters,
    by rw [hstager]; exact h.stager, by rw [hsweep]; exact h.sweep⟩

theorem InShape.withStager (h : InShape s) {g : Stager} (hg : g.Shaped) : InShape (s.withStager g) :=
  ⟨h.terms, h.counters, hg, h.sweep⟩

theorem InShape.withSweep (h : InShape s) {w : Sweep} (hw : w.Shaped) : InShape (s.withSweep w) :=
  ⟨h.terms, h.counters, h.stager, hw⟩

/-! ### The term clock (R15, R97) -/

/-- Term states stored from a clock value are those of that value (R15). -/
theorem atClock_current (c : Catalogue) (n : Nat) :
    ∀ sl ∈ (c.atClock n).slots, sl.term = sl.feature.map fun f => f.termAt n := by
  intro sl hsl
  obtain ⟨x, -, rfl⟩ := List.mem_map.mp hsl
  rfl

/-- The catalogue of an image stores the term states of the clock it was loaded at (R15, R18, R20). -/
theorem catalogueOf_current (rs : List ImageRecord) (n : Nat) (flags : Nat → SiteFlags) :
    ∀ sl ∈ (catalogueOf rs n flags).slots, sl.term = sl.feature.map fun f => f.termAt n := by
  intro sl hsl
  obtain ⟨i, -, rfl⟩ := List.mem_map.mp hsl
  split <;> rfl

theorem absent_current (n : Nat) :
    ∀ sl ∈ Catalogue.absent.slots, sl.term = sl.feature.map fun f => f.termAt n := by
  intro sl hsl
  obtain rfl := List.eq_of_mem_replicate hsl
  rfl

theorem loadCatalogue_current (image : Option (List ImageRecord)) (n : Nat) :
    ∀ sl ∈ (loadCatalogue image n).slots, sl.term = sl.feature.map fun f => f.termAt n := by
  cases image with
  | none => exact absent_current n
  | some rs => exact catalogueOf_current rs n _

/-- Site flags have no part in the term states (R10, R161). -/
theorem applyFlags_current {c : Catalogue} {n : Nat} (mask : Nat) (m : ApplyMode) (staged : SiteFlags)
    (h : ∀ sl ∈ c.slots, sl.term = sl.feature.map fun f => f.termAt n) :
    ∀ sl ∈ (c.applyFlags mask m staged).slots, sl.term = sl.feature.map fun f => f.termAt n := by
  intro sl hsl
  obtain ⟨i, hi, rfl⟩ := List.mem_mapIdx.mp hsl
  exact h c.slots[i] (List.getElem_mem hi)

theorem changeClock_sweep (s : State) (n : Nat) : (s.changeClock n).sweep = s.sweep := by
  obtain ⟨-, e⟩ | ⟨-, u, hu, e, e'⟩ := s.changeClock_cases n
  · rw [e]
  · by_cases hd : n / 60 = s.time.clock / 60
    · rw [e hd, hu]
    · rw [e' hd, askSave_eq, hu]

/-- A change of the clock stores the term states of the new value (R15, R97). -/
theorem changeClock_inShape (n : Nat) (h : InShape s) : InShape (s.changeClock n) := by
  obtain ⟨-, -, hstager⟩ := changeClock_frame s n
  have hsweep := changeClock_sweep s n
  refine ⟨?_, by rw [State.CountersBounded, changeClock_time]; exact h.counters, by rw [hstager]; exact h.stager,
    by rw [hsweep]; exact h.sweep⟩
  by_cases hn : n = s.time.clock
  · rw [show s.changeClock n = s from if_pos hn]
    exact h.terms
  · obtain ⟨-, hcat, -⟩ := changeClock_follows hn
    rw [State.TermsCurrent, hcat, changeClock_time]
    exact atClock_current s.cat n

/-! ### The staging (R141 to R156) -/

theorem initial_shaped : Stager.initial.Shaped := ⟨rfl, rfl, rfl, rfl⟩

/-- A staging that is not WRITING, held by a port, is OPEN without a summary or COMPLETE with one (R141). -/
theorem opened_or_complete {g : Stager} (h : g.Shaped) {p : Port} (hp : g.port = some p) (hw : g.state ≠ .writing) :
    (g.state = .opened ∧ g.summary = none ∨ g.state = .complete ∧ g.summary.isSome = true) ∧
      g.timer < Config.stagingSeconds := by
  unfold Stager.Shaped at h
  split at h
  case h_1 => rw [h.1] at hp; cases hp
  case h_2 hs => exact ⟨.inl ⟨hs, h.2.1⟩, h.2.2⟩
  case h_3 hs => exact ⟨.inr ⟨hs, h.2.1⟩, h.2.2⟩
  case h_4 hs => exact absurd hs hw

/-- The staging timer may take any value below 600 that WRITING and IDLE, where it stands at 0, do not rule out. -/
theorem withTimer_shaped {g : Stager} (h : g.Shaped) {n : Nat} (hn : n < Config.stagingSeconds)
    (hopen : n = 0 ∨ g.open_ = true) : ({ g with timer := n } : Stager).Shaped := by
  unfold Stager.Shaped at h ⊢
  dsimp only
  split at h
  case h_1 hs => exact ⟨h.1, h.2.1, h.2.2.1, hopen.resolve_right (by simp [Stager.open_, hs])⟩
  case h_2 => exact ⟨h.1, h.2.1, hn⟩
  case h_3 => exact ⟨h.1, h.2.1, hn⟩
  case h_4 hs => exact ⟨h.1, h.2.1, hopen.resolve_right (by simp [Stager.open_, hs])⟩

theorem discardStaging_inShape (h : InShape s) : InShape s.discardStaging := h.withStager initial_shaped

theorem abandonStaging_inShape (p : Port) (h : InShape s) : InShape (s.abandonStaging p) :=
  ite_keeps (discardStaging_inShape h) h

theorem noteStaging_inShape (p : Port) (h : InShape s) : InShape (s.noteStaging p) :=
  ite_keeps (h.withStager (withTimer_shaped h.stager (by decide) (.inl rfl))) h

theorem countStaging_inShape (h : InShape s) : InShape s.countStaging := by
  rcases s.countStaging_cases with ⟨-, e⟩ | ⟨hopen, hn, e⟩ | ⟨-, -, e⟩ <;> rw [e]
  · exact h
  · exact h.withStager (withTimer_shaped h.stager hn (.inr hopen))
  · exact discardStaging_inShape h

/-- A staging command's own work meets a staging that is not WRITING, and for all but STAGE BEGIN one of its own port
(R142). -/
theorem staging_inShape {stagerOnly : Bool} {r : Request} {own : State → State × Reply} (h : InShape s)
    (hown : ∀ t, InShape t → t.stager.state ≠ .writing → (stagerOnly = true → t.stager.port = some r.port) →
      InShape (own t).1) : InShape (staging stagerOnly r s own).1 := by
  have hnote := noteStaging_inShape r.port h
  refine needsAdmin_keeps h ?_
  dsimp only
  split
  · exact hnote
  · rename_i hw
    split
    · exact hnote
    · rename_i hp
      exact hown _ hnote hw (by simpa using hp)

theorem stageBeginWork_inShape (r : Request) (h : InShape s) : InShape (stageBeginWork r s).1 := by
  refine staging_inShape h fun t ht _ _ => ?_
  split
  · exact ht
  · split
    · exact ht.withStager ⟨rfl, rfl, (by decide : 0 < Config.stagingSeconds)⟩
    · exact ht

/-- A record accepted into an OPEN staging leaves it OPEN (R145). -/
theorem stageRecordWork_inShape (r : Request) (h : InShape s) : InShape (stageRecordWork r s).1 := by
  refine staging_inShape h fun t ht hw hp => ?_
  split
  · rename_i hopen
    unfold State.offerRecord
    split
    · obtain ⟨hstate, hn⟩ := opened_or_complete ht.stager (hp rfl) hw
      have hsum : t.stager.summary = none := by simpa [hopen] using hstate
      refine ht.withStager ?_
      simp only [Stager.Shaped, hopen]
      exact ⟨by rw [hp rfl]; rfl, hsum, hn⟩
    · exact ht
  · exact ht

/-- An OPEN staging that passes verification becomes COMPLETE with its summary, one that fails is discarded (R146). -/
theorem stageFinishWork_inShape (r : Request) (h : InShape s) : InShape (stageFinishWork r s).1 := by
  refine staging_inShape h fun t ht hw hp => ?_
  split
  · exact ht
  · split
    · exact ht
    · unfold State.verifyStaging
      split
      · exact discardStaging_inShape ht
      · exact ht.withStager ⟨by rw [hp rfl]; rfl, rfl, (opened_or_complete ht.stager (hp rfl) hw).2⟩

theorem askImageWrite_frame (s : State) : { s.askImageWrite with store := s.store } = s := by
  rcases s.askImageWrite_cases with ⟨-, e⟩ | ⟨-, e⟩ | ⟨-, e⟩ <;> rw [e]
  rfl

/-- A COMPLETE staging is taken to be written with its summary, and its timer stops at 0 (R150). -/
theorem activateWork_inShape (r : Request) (h : InShape s) : InShape (activateWork r s).1 := by
  refine staging_inShape h fun t ht hw hp => ?_
  split
  · exact ht
  · split
    · exact ht
    · rename_i x hx
      split
      · exact ht
      · have hwriting : InShape (t.withStager { t.stager with state := .writing, timer := 0 }) :=
          ht.withStager ⟨by rw [hp rfl]; rfl, by rw [hx]; rfl, rfl⟩
        have hframe := askImageWrite_frame (t.withStager { t.stager with state := .writing, timer := 0 })
        exact hwriting.congr (congrArg State.cat hframe :) (congrArg State.time hframe :)
          (congrArg State.stager hframe :) (congrArg State.sweep hframe :)

theorem stageAbortWork_inShape (r : Request) (h : InShape s) : InShape (stageAbortWork r s).1 := by
  refine staging_inShape h fun t ht _ _ => ?_
  split
  · exact ht
  · exact discardStaging_inShape ht

/-! ### The other commands' works -/

theorem releasePortWork_inShape (r : Request) (h : InShape s) : InShape (releasePortWork r s).1 := by
  refine needsCatalogue_keeps h ?_
  split
  · exact h
  · exact abandonStaging_inShape _ (h.of_same (releaseMany_same ..) (releaseMany_sameClocks ..))

theorem timeAssertWork_inShape (r : Request) (h : InShape s) : InShape (timeAssertWork r s).1 := by
  refine needsTime_keeps h ?_
  split
  · exact h
  · split
    · exact h
    · exact ite_keeps h ((changeClock_inShape _ h).congr rfl rfl rfl rfl)

theorem produceWindowEnd_inShape (h : InShape s) : InShape s.produceWindowEnd :=
  ⟨h.terms, h.counters, h.stager, h.sweep⟩

theorem windowCloseWork_inShape (r : Request) (h : InShape s) : InShape (windowCloseWork r s).1 := by
  refine needsAdmin_keeps h ?_
  split
  · exact h
  · exact produceWindowEnd_inShape h

/-- A POLICY APPLY changes site flags, and no term state (R10, R15, R161). -/
theorem policyApplyWork_inShape (r : Request) (h : InShape s) : InShape (policyApplyWork r s).1 := by
  refine policyCommand_keeps h ?_
  split
  · exact h
  · rename_i mask m _
    have hflags : InShape { s with cat := s.cat.applyFlags mask m (s.policy.get r.port) } :=
      ⟨applyFlags_current mask m _ h.terms, h.counters, h.stager, h.sweep⟩
    exact hflags.congr (by simp) (by simp) (by simp) (by simp)

theorem workOf_inShape (c : Command) (r : Request) (h : InShape s) : InShape (workOf c r s).1 := by
  cases c with
  | checkout => exact h.of_same (checkoutWork_same r s) (checkoutWork_sameClocks r s)
  | returnCheckout => exact h.of_same (returnWork_same r s) (returnWork_sameClocks r s)
  | returnTag => exact h.of_same (returnTagWork_same r s) (returnTagWork_sameClocks r s)
  | releasePort => exact releasePortWork_inShape r h
  | queryCheckout => exact queryCheckoutWork_keeps r h
  | heartbeat => exact h.of_same (heartbeatWork_same r s) (heartbeatWork_sameClocks r s)
  | cancelWait => exact h.of_same (cancelWaitWork_same r s) (cancelWaitWork_sameClocks r s)
  | queryWait => exact queryWaitWork_keeps r h
  | queryFeature => exact queryFeatureWork_keeps r h
  | queryPool => exact queryPoolWork_keeps r h
  | timeAssert => exact timeAssertWork_inShape r h
  | windowClose => exact windowCloseWork_inShape r h
  | stageBegin => exact stageBeginWork_inShape r h
  | stageRecord => exact stageRecordWork_inShape r h
  | stageFinish => exact stageFinishWork_inShape r h
  | activate => exact activateWork_inShape r h
  | stageAbort => exact stageAbortWork_inShape r h
  | policyStage => exact h.of_same (policyStageWork_same r s) (ownFieldWork_sameClocks (by decide) r s)
  | policyApply => exact policyApplyWork_inShape r h
  | setCeiling => exact h.of_same (setCeilingWork_same r s) (setCeilingWork_sameClocks r s)
  | setShare => exact h.of_same (setShareWork_same r s) (setShareWork_sameClocks r s)
  | journalStatus => exact journalStatusWork_keeps r h
  | readNotice => exact h.of_same (readNoticeWork_same r s) (ownFieldWork_sameClocks (by decide) r s)
  | setNotice => exact h.of_same (setNoticeWork_same r s) (ownFieldWork_sameClocks (by decide) r s)
  | identify => exact identifyWork_keeps r h

theorem carryOut_inShape (c : Command) (p : Port) (r : Request) (h : InShape s) :
    InShape (s.carryOut c p r (workOf c)) :=
  (workOf_inShape c r (h.congr (t := s.dropRequest c p) rfl rfl rfl rfl)).of_same (respond_same ..)
    (respond_sameClocks ..)

theorem finish_inShape (due : Request → Bool) (h : InShape s) : InShape (s.finish due) :=
  State.finish_induct due (fun _ r _ hu => carryOut_inShape _ _ r hu) s h

/-! ### Port resets, second ticks and window ends -/

theorem resetPort_inShape (p : Port) (h : InShape s) : InShape (s.resetPort p) :=
  abandonStaging_inShape p <|
    (finish_inShape _ (h.congr (t := s.clearPort p) rfl rfl rfl rfl)).of_same (dropEntries_same _ p)
      (dropEntries_sameClocks _ p)

theorem countWindow_inShape (h : InShape s) : InShape s.countWindow := by
  rw [countWindow_eq]
  exact ⟨h.terms, h.counters, h.stager, h.sweep⟩

/-- The minute count stays below its wrap, at which the term clock moves on (R88). -/
theorem countMinute_inShape (h : InShape s) : InShape s.countMinute := by
  unfold State.countMinute
  split
  · exact ⟨h.terms, ⟨h.counters.1, ‹_›⟩, h.stager, h.sweep⟩
  · have hwrapped : InShape { s with time := { s.time with minuteCount := 0 } } :=
      ⟨h.terms, ⟨h.counters.1, (by decide : 0 < Config.minuteSeconds)⟩, h.stager, h.sweep⟩
    exact changeClock_inShape _ hwrapped

theorem tick_inShape (h : InShape s) : InShape s.tick := by
  have hwrapped : InShape { s with time := { s.time with prescaler := 0 } } :=
    ⟨h.terms, ⟨(by decide : 0 < Config.prescalerEdges), h.counters.2⟩, h.stager, h.sweep⟩
  exact countStaging_inShape (countMinute_inShape (countWindow_inShape hwrapped))

/-- An edge of TREF raises the prescaler below its wrap, or is a second tick (R87). -/
theorem trefEdge_inShape (h : InShape s) : InShape s.trefEdge := by
  unfold State.trefEdge
  split
  · exact ⟨h.terms, ⟨‹_›, h.counters.2⟩, h.stager, h.sweep⟩
  · exact tick_inShape h

theorem wclkRises_inShape (h : InShape s) : InShape s.wclkRises := by
  unfold State.wclkRises
  split
  · exact h
  · split <;> exact ⟨h.terms, h.counters, h.stager, h.sweep⟩

/-- A walk starts at slot 0, with a HELD slot for its limit, or does not start (R111). -/
theorem startWalk_inShape (h : InShape s) : InShape s.startWalk := by
  unfold State.startWalk
  split
  · exact h.withSweep rfl
  · exact h.withSweep ⟨_, rfl, Nat.zero_le _⟩

/-- A window end during a walk is noted, and the walk goes on (R110). -/
theorem sweepTakes_inShape (h : InShape s) : InShape s.sweepTakes := by
  have hdue : InShape (s.withDue { s.due with sweep := s.due.sweep - 1 }) := h.congr rfl rfl rfl rfl
  unfold State.sweepTakes
  dsimp only
  split
  · exact startWalk_inShape hdue
  · rename_i hs
    refine hdue.withSweep ?_
    have hw := h.sweep
    simp only [Sweep.Shaped, hs] at hw ⊢
    exact hw

/-- The walk reaches a slot at most its limit (R111). -/
theorem limit_of_walkReaches {n : Nat} (h : s.walkReaches n = true) :
    s.sweep.state = .sweeping ∧ ∃ l, s.sweep.limit = some l ∧ n ≤ l := by
  unfold State.walkReaches at h
  split at h
  · rename_i l hs hl
    simp only [Bool.and_eq_true, decide_eq_true_eq] at h
    exact ⟨hs, l, hl, h.1.2⟩
  · cases h

/-- Past a slot below its limit the walk goes on, past its limit it ends or starts again (R111). -/
theorem passSlot_inShape {n l : Nat} (h : InShape s) (hs : s.sweep.state = .sweeping) (hl : s.sweep.limit = some l)
    (hn : n ≤ l) : InShape (s.passSlot n) := by
  by_cases hlast : s.sweep.limit = some n
  · have hmoved (w : Sweep) (hw : w.Shaped) : InShape ((s.withSweep { s.sweep with position := n + 1 }).withSweep w) :=
      ⟨h.terms, h.counters, h.stager, hw⟩
    rw [State.passSlot, if_pos hlast, State.endWalk, State.startWalk]
    split
    · split
      · exact hmoved _ rfl
      · exact hmoved _ ⟨_, rfl, Nat.zero_le _⟩
    · exact hmoved _ rfl
  · have hne : n ≠ l := fun e => hlast (e ▸ hl)
    rw [passSlot_before hlast]
    refine h.withSweep ?_
    simp only [Sweep.Shaped, hs]
    exact ⟨l, hl, by omega⟩

/-- The visit of a slot that the walk reaches (R111, R112). -/
theorem visit_inShape {n : Nat} (h : InShape s) (hn : s.walkReaches n = true) :
    InShape ((s.visitSlot n).passSlot n) := by
  obtain ⟨hs, l, hl, hnl⟩ := limit_of_walkReaches hn
  have hsweep := (visitSlot_sameClocks s n).sweep
  exact passSlot_inShape (h.of_same (visitSlot_same s n) (visitSlot_sameClocks s n)) (by rw [hsweep, hs])
    (by rw [hsweep, hl]) hnl

theorem takeDue_inShape (h : InShape s) : InShape s.takeDue :=
  State.takeDue_induct (P := InShape) (fun _ hu => sweepTakes_inShape hu)
    (fun u k hu => hu.of_same (watchTakes_same u k) (watchTakes_sameClocks u k))
    (fun u hu => hu.of_same (grantTakes_same u) (grantTakes_sameClocks u)) (fun _ _ hu => hu.congr rfl rfl rfl rfl) s h

end Sys2Proof.Machine.Units
end

section
/-! SUPPORT. The units after a reset, after the completion of an activation, and so after every step (R18, R100, R136,
R140, R152, R157; O60). -/

namespace Sys2Proof.Machine.Units

open Charges Images Timekeeping

variable {s t : State}

/-! ### Reset and activation -/

/-- Every block at its values after power-on or release of RESET is in shape (R15, R87, R88, R109, R141). -/
theorem bringUp_inShape (s : State) (store : Store) (v : SavedValues) (straps : Quad Straps) :
    InShape (s.bringUp store v straps) := by
  have htime (c : Catalogue) : (timebaseOf c v.clock).clock = v.clock ∧ (timebaseOf c v.clock).prescaler = 0 ∧
      (timebaseOf c v.clock).minuteCount = 0 := by
    unfold timebaseOf
    split <;> exact ⟨rfl, rfl, rfl⟩
  obtain ⟨hclock, hprescaler, hminute⟩ := htime (loadCatalogue store.image v.clock)
  refine ⟨?_, ⟨?_, ?_⟩, initial_shaped, rfl⟩
  · show ∀ sl ∈ (loadCatalogue store.image v.clock).slots, sl.term = sl.feature.map fun f =>
      f.termAt (timebaseOf (loadCatalogue store.image v.clock) v.clock).clock
    rw [hclock]
    exact loadCatalogue_current _ _
  · exact hprescaler.trans_lt (by decide)
  · exact hminute.trans_lt (by decide)

theorem leaveReset_inShape (s : State) : InShape s.leaveReset := bringUp_inShape ..

theorem goDark_inShape (s : State) : InShape s.goDark :=
  (bringUp_inShape s { s.store.afterLoss with image := none } SavedValues.zero (s.ports.map (·.strapPins))).congr
    rfl rfl rfl rfl

/-- The new catalogue stores the term states of the floored clock; counters and walk go on, the staging is done (R15,
R100, R152, R153). -/
theorem activateBlocks_inShape (ahead : Quad Nat) (h : InShape s) : InShape (s.activateBlocks ahead) :=
  ⟨catalogueOf_current _ _ _, h.counters, initial_shaped, h.sweep⟩

theorem activateAll_inShape (ahead : Quad Nat) (h : InShape s) : InShape (s.activateAll ahead) := by
  have hstored : InShape (((s.activateBlocks ahead).recordDroppable
      (imageBody (s.stager.port.getD 0) (headOf s.stager.image).header.issue)).storeImage s.stager.image) :=
    (activateBlocks_inShape ahead h).congr rfl rfl rfl rfl
  unfold State.activateAll
  dsimp only
  generalize ((s.activateBlocks ahead).recordDroppable _).storeImage _ = t at hstored
  have hsaved : InShape (t.saveAfterImage (flooredClock s.stager.image s.time.clock / 60 != s.time.clock / 60)) :=
    ite_keeps (hstored.congr rfl rfl rfl rfl) hstored
  exact ite_keeps (produceWindowEnd_inShape hsaved) hsaved

theorem completeActivation_inShape (ahead : Quad Nat) (h : InShape s) : InShape (s.completeActivation ahead) :=
  activateAll_inShape ahead (takeDue_inShape (finish_inShape _ h))

/-! ### Every command -/

/-- The units of a part in any state: in RESET an image write's floor may have moved the clock alone (R140). -/
structure UnitsShaped (s : State) : Prop where
  terms : s.resetPin = .released → s.TermsCurrent
  counters : s.CountersBounded
  stager : s.stager.Shaped
  sweep : s.sweep.Shaped

theorem InShape.units (h : InShape s) : UnitsShaped s := ⟨fun _ => h.terms, h.counters, h.stager, h.sweep⟩

/-- A running part is out of RESET (R140). -/
theorem UnitsShaped.inShape (h : UnitsShaped s) (hrun : s.running = true) : InShape s := by
  have hpin : s.resetPin = .released := eq_of_beq (Bool.and_eq_true_iff.mp hrun).2
  exact ⟨h.terms hpin, h.counters, h.stager, h.sweep⟩

/-- With the part held in RESET, or the pin, the catalogue and the clock as they were. -/
theorem UnitsShaped.congr (h : UnitsShaped s) (hpin : t.resetPin = .released → s.resetPin = .released)
    (hcat : t.cat = s.cat)
    (htime : t.time = s.time) (hstager : t.stager = s.stager) (hsweep : t.sweep = s.sweep) : UnitsShaped t :=
  ⟨fun hp => by rw [State.TermsCurrent, hcat, htime]; exact h.terms (hpin hp),
    by rw [State.CountersBounded, htime]; exact h.counters, by rw [hstager]; exact h.stager,
    by rw [hsweep]; exact h.sweep⟩

theorem releaseIfWaiting_units (h : UnitsShaped s) : UnitsShaped s.releaseIfWaiting := by
  unfold State.releaseIfWaiting
  split
  · exact (leaveReset_inShape s).units
  all_goals exact h

theorem whenRunning_units {f : State → State} (he : whenRunning s f = .next t) (h : UnitsShaped s)
    (hf : InShape s → InShape (f s)) : UnitsShaped t := by
  rcases whenRunning_cases s f with ⟨hrun, e⟩ | ⟨-, e⟩ <;> rw [e] at he <;> cases he
  · exact (hf (h.inShape hrun)).units
  · exact h

theorem serve_units {c : Command} {p : Port} (he : serve c p s (workOf c) = .next t) (h : UnitsShaped s) :
    UnitsShaped t := by
  rcases serve_cases c p s (workOf c) with e | ⟨r, hrun, -, e⟩ <;> rw [e] at he <;> cases he
  · exact h
  · exact (carryOut_inShape c p r (h.inShape hrun)).units

theorem execResetRelease_units {straps : Quad Straps} (he : execResetRelease straps s = .next t) (h : UnitsShaped s) :
    UnitsShaped t := by
  cases he
  exact ite_keeps (ite_keeps (h.congr nofun rfl rfl rfl rfl) (leaveReset_inShape _).units) h

theorem execPrstAssert_units {p : Port} (he : execPrstAssert p s = .next t) (h : UnitsShaped s) : UnitsShaped t := by
  cases he
  split
  · rename_i hrun
    exact (resetPort_inShape p (h.inShape (Bool.and_eq_true_iff.mp hrun).1)).units
  · exact h.congr id rfl rfl rfl rfl

theorem nextWrite_frame (s : State) : { s.nextWrite with store := s.store } = s := by
  rcases s.nextWrite_cases with ⟨-, e⟩ | ⟨-, -, e⟩ | ⟨-, -, e⟩ <;> rw [e] <;> rfl

theorem execSaveComplete_units (he : execSaveComplete s = .next t) (h : UnitsShaped s) : UnitsShaped t := by
  cases he
  split
  · rename_i v _ _
    have hframe := nextWrite_frame (s.storeSaved v)
    refine releaseIfWaiting_units (h.congr (fun hp => ?_) (congrArg State.cat hframe :) (congrArg State.time hframe :)
      (congrArg State.stager hframe :) (congrArg State.sweep hframe :))
    exact (congrArg State.resetPin hframe).symm.trans hp
  · exact h

/-- An image write that completes in RESET floors the clock of a part whose term states follow at the release (R140). -/
theorem completeInReset_units (hpin : s.resetPin ≠ .released) (h : UnitsShaped s) : UnitsShaped s.completeInReset :=
  releaseIfWaiting_units ⟨fun hp => absurd hp hpin, h.counters, h.stager, h.sweep⟩

theorem execImageWriteComplete_units {ahead : Quad Nat} (he : execImageWriteComplete ahead s = .next t)
    (h : UnitsShaped s) :
    UnitsShaped t := by
  cases he
  split
  · rename_i hpowered _
    split
    · exact (completeActivation_inShape ahead (h.inShape ‹_›)).units
    · rename_i hrun
      exact completeInReset_units (fun hp => hrun (by simp [State.running, hpowered, hp])) h
  · exact h

theorem exec_units (i : Instr) (he : exec i s = .next t) (h : UnitsShaped s) : UnitsShaped t := by
  cases i
  case powerOn straps => cases he; exact (bringUp_inShape ..).units
  case powerLoss => cases he; exact ite_keeps (goDark_inShape s).units h
  case resetAssert => cases he; exact ite_keeps (h.congr nofun rfl rfl rfl rfl) h
  case resetRelease straps => exact execResetRelease_units he h
  case prstAssert p => exact execPrstAssert_units he h
  case prstRelease p => cases he; exact h.congr id rfl rfl rfl rfl
  case requestFrame p bytes =>
    dsimp only [exec, execRequestFrame] at he
    exact whenRunning_units he h fun h =>
      unlessPrst_keeps (h.of_same (endTransaction_same s p bytes) (endTransaction_sameClocks s p bytes)) h
  case readTransaction p n answered =>
    dsimp only [exec, execReadTransaction] at he
    exact whenRunning_units he h fun h => unlessPrst_keeps (h.congr rfl rfl rfl rfl) h
  case attnPulseEnd p =>
    dsimp only [exec, execAttnPulseEnd] at he
    exact whenRunning_units he h fun h => h.congr rfl rfl rfl rfl
  case secondTick => exact whenRunning_units he h tick_inShape
  case minuteAdvance | windowTimerExpiry | stagingTimeout =>
    exact whenRunning_units he h fun h => ite_keeps (tick_inShape h) h
  case wclkRisingEdge => exact whenRunning_units he h wclkRises_inShape
  case wclkLowSeen =>
    dsimp only [exec, execWclkLowSeen] at he
    exact whenRunning_units he h fun h => ⟨h.terms, h.counters, h.stager, h.sweep⟩
  case sweepWindowEnd => exact whenRunning_units he h fun h => ite_keeps (sweepTakes_inShape h) h
  case sweepVisit n =>
    refine whenRunning_units he h fun h => ?_
    split
    · exact visit_inShape h ‹_›
    · exact h
  case reclaim n =>
    refine whenRunning_units he h fun h => ?_
    split
    · rename_i hn
      exact visit_inShape h (Bool.and_eq_true_iff.mp hn).1
    · exact h
  case grantEngineWindowEnd | waitExpiry n =>
    exact whenRunning_units he h fun h => ite_keeps (h.of_same (grantTakes_same s) (grantTakes_sameClocks s)) h
  case demandWatchWindowEnd k =>
    exact whenRunning_units he h fun h => ite_keeps (h.of_same (watchTakes_same s k) (watchTakes_sameClocks s k)) h
  case portWindowEnd p first => exact whenRunning_units he h fun h => ite_keeps (h.congr rfl rfl rfl rfl) h
  case saveComplete => exact execSaveComplete_units he h
  case imageWriteComplete ahead => exact execImageWriteComplete_units he h
  case batchBegin jend =>
    exact whenRunning_units he (h.congr id rfl rfl rfl rfl) fun h =>
      h.of_same (batchBegins_same _) (batchBegins_sameClocks _)
  case recordAcknowledge jend =>
    dsimp only [exec, execRecordAcknowledge] at he
    exact whenRunning_units he (h.congr id rfl rfl rfl rfl) fun h => h.congr rfl rfl rfl rfl
  case jclkRisingEdge =>
    dsimp only [exec, execJclkRisingEdge] at he
    exact whenRunning_units he h fun h => h.congr rfl rfl rfl rfl
  case checkout p | returnCheckout p | returnTag p | releasePort p | queryCheckout p | heartbeat p | cancelWait p |
      queryWait p | queryFeature p | queryPool p | timeAssert p | windowClose p | stageBegin p | stageRecord p |
      stageFinish p | activate p | stageAbort p | policyStage p | policyApply p | setCeiling p | setShare p |
      journalStatus p | readNotice p | setNotice p | identify p =>
    exact serve_units he h

/-- Settles O60: the units stay in shape through every command and every edge of TREF. -/
theorem unitsStayShaped : Obligations.UnitsStayShaped := by
  intro s t hterms hcounters hstager hsweep hstep
  have h : UnitsShaped s := ⟨hterms, hcounters, hstager, hsweep⟩
  suffices ht : UnitsShaped t from ⟨ht.terms, ht.counters, ht.stager, ht.sweep⟩
  cases hp : s.pending with
  | nil =>
    unfold step at hstep
    rw [hp] at hstep
    cases hstep
    unfold State.idle
    split
    · exact (trefEdge_inShape (h.inShape ‹_›)).units
    · exact h
  | cons c rest =>
    rw [step_front s c rest hp] at hstep
    exact exec_units c hstep (h.congr id rfl rfl rfl rfl)

end Sys2Proof.Machine.Units
end

section
/-! SUPPORT. What power-on, the release of RESET and the ends of writes in RESET leave: every block as `State.BroughtUp`
spells it, under the store and the values given (R4, R18, R46, R85, R96, R101, R133, R136 to R140, R157, R181; O4, O5,
O6, O47). -/

namespace Sys2Proof.Machine.Units

open Charges Images Checkouts Logging

/-! ### Bringing the part up -/

/-- The strap class counts PCLn1 twice and PCLn0 once (R4). -/
theorem strapClassOf_val (x : Straps) :
    (strapClassOf x).val = (if x.pcl1 then 2 else 0) + (if x.pcl0 then 1 else 0) := by
  rcases x with ⟨_ | _, _ | _⟩ <;> rfl

theorem timebaseOf_eq (c : Catalogue) (clock : Nat) : timebaseOf c clock =
    { prescaler := 0, windowTimer := 0, minuteCount := 0, clock := clock
      mode := (match c.head with | none => .auto | some h => h.header.windowMode)
      length := (match c.head with | none => 60 | some h => h.header.windowLength), wclk := .spent } := by
  unfold timebaseOf
  cases c.head <;> rfl

theorem bringUp_port (s : State) (store : Store) (v : SavedValues) (straps : Quad Straps) (p : Port) :
    (s.bringUp store v straps).ports.get p =
      PortIf.initial (s.ports.get p).prst (straps.get p) (strapClassOf (straps.get p))
        (effectiveClass (s.bringUp store v straps).cat.head (strapClassOf (straps.get p)) p) :=
  Quad.get_ofFn ..

theorem bringUp_pool (s : State) (store : Store) (v : SavedValues) (straps : Quad Straps) (k : Pool) :
    (s.bringUp store v straps).pool k = { PoolState.initial with
      ceiling := (s.bringUp store v straps).cat.head.map fun h => (h.pools.get k).capacity } := by
  refine (Quad.get_ofFn ..).trans ?_
  rw [Catalogue.poolRec, Option.map_map]
  rfl

theorem bringUp_watch (s : State) (store : Store) (v : SavedValues) (straps : Quad Straps) (k : Pool) :
    (s.bringUp store v straps).watches.get k = Watch.initial (v.meters.get k) := Quad.get_ofFn ..

theorem bringUp_time (s : State) (store : Store) (v : SavedValues) (straps : Quad Straps) :
    (s.bringUp store v straps).time = timebaseOf (s.bringUp store v straps).cat v.clock := rfl

/-- A part brought up has every block at its values after power-on or release of RESET. -/
theorem bringUp_broughtUp (s : State) (store : Store) (v : SavedValues) (straps : Quad Straps) :
    s.BroughtUp (s.bringUp store v straps) straps := by
  refine ⟨rfl, rfl, rfl, rfl, fun p => ⟨_, strapClassOf_val (straps.get p), ?_⟩, rfl, rfl, rfl, fun k => ?_, fun k => ?_,
    ?_, rfl, rfl, rfl, rfl, rfl⟩
  · rw [bringUp_port]
    unfold effectiveClass
    cases (s.bringUp store v straps).cat.head <;> rfl
  · exact bringUp_pool ..
  · rw [bringUp_watch]; rfl
  · have hclock : (s.bringUp store v straps).time.clock = v.clock := by rw [bringUp_time, timebaseOf_eq]
    rw [hclock]
    refine ((bringUp_time ..).trans (timebaseOf_eq _ _)).trans ?_
    rfl

/-- The clock, the sequence number and the meters of a part brought up are those given (R101, R130, R181). -/
theorem bringUp_counts (s : State) (store : Store) (v : SavedValues) (straps : Quad Straps) :
    (s.bringUp store v straps).time.clock = v.clock ∧ (s.bringUp store v straps).journal.nextSeq = v.sequence ∧
    ∀ k, ((s.bringUp store v straps).watches.get k).meter = v.meters.get k :=
  ⟨by rw [bringUp_time, timebaseOf_eq], rfl, fun k => by rw [bringUp_watch]; rfl⟩

/-- What `BroughtUp` says of a state does not look at its own store, and of the state before only at the PRST pins, the
recorder's JEND and the queue of commands. -/
theorem broughtUp_of_pins {s s' t : State} {straps : Quad Straps} (h : s.BroughtUp t straps)
    (hpending : s.pending = s'.pending) (hprst : ∀ p, (s.ports.get p).prst = (s'.ports.get p).prst)
    (hjend : s.journal.jendRecorder = s'.journal.jendRecorder) : s'.BroughtUp t straps := by
  unfold State.BroughtUp at h ⊢
  simpa only [hpending, hprst, hjend] using h

/-- The part is SERVING under a stored image and in NO_IMAGE without one (R18, R136). -/
theorem loadCatalogue_serving (image : Option (List ImageRecord)) (clock : Nat) :
    (loadCatalogue image clock).serving = image.isSome := by
  cases image <;> rfl

/-! ### Power-on and loss of supply (R18, R157) -/

theorem afterLoss_eq (st : Store) : st.afterLoss =
    { image := (if st.write = .imageWrite then none else st.image), saved := st.saved, write := .idle
      saveWaiting := false, imageWaiting := false } := by
  rw [← Store.afterLoss_image]
  rfl

/-- A store whose controller is idle is as a loss of power leaves it, but for waiting writes (R157). -/
theorem afterLoss_afterLoss (st : Store) : st.afterLoss.afterLoss = st.afterLoss := by
  rw [afterLoss_eq st.afterLoss, if_neg (by rw [afterLoss_eq]; exact nofun)]
  rfl

theorem restored_none {st : Store} (h : st.saved = none) :
    st.restored = { clock := 0, meters := Quad.fill 0, sequence := 0 } := by rw [Store.restored, h]; rfl

theorem restored_some {st : Store} {v : SavedValues} (h : st.saved = some v) : st.restored = v := by
  rw [Store.restored, h]; rfl

/-- Settles O4: the part brought up on the store as the loss left it, with the values saved there. -/
theorem powerOnRestoresStore : Obligations.PowerOnRestoresStore := by
  refine ⟨fun straps s => ⟨_, rfl, bringUp_broughtUp .., afterLoss_eq _, ?_, fun h => ?_, fun rs h => ?_, fun h => ?_,
    fun v h => ?_⟩, fun straps s hp => ?_⟩
  · exact Bool.eq_iff_iff.mp (loadCatalogue_serving ..)
  · exact congrArg (loadCatalogue · _) h
  · rw [(bringUp_counts ..).1]
    exact congrArg (loadCatalogue · _) h
  · obtain ⟨hclock, hseq, hmeter⟩ := bringUp_counts s s.store.afterLoss s.store.afterLoss.restored straps
    rw [restored_none (st := s.store.afterLoss) h] at hclock hseq hmeter ⊢
    exact ⟨hclock, hseq, fun k => (hmeter k).trans (Quad.get_fill 0 k)⟩
  · obtain ⟨hclock, hseq, hmeter⟩ := bringUp_counts s s.store.afterLoss s.store.afterLoss.restored straps
    rw [restored_some (st := s.store.afterLoss) h] at hclock hseq hmeter ⊢
    exact ⟨hclock, hseq, hmeter⟩
  · have hdark : exec .powerLoss s = .next s.goDark := congrArg Host.Outcome.next (if_pos hp)
    have himage : (s.goDark.bringUp s.goDark.store.afterLoss s.goDark.store.afterLoss.restored straps).store.image =
        if s.store.write = .imageWrite then none else s.store.image := by
      rw [← Store.afterLoss_image, ← afterLoss_afterLoss]
      rfl
    have hserving : (s.goDark.bringUp s.goDark.store.afterLoss s.goDark.store.afterLoss.restored straps).serving =
        (if s.store.write = .imageWrite then none else s.store.image).isSome :=
      (loadCatalogue_serving ..).trans (congrArg Option.isSome himage)
    refine ⟨_, _, hdark, rfl, rfl, bringUp_broughtUp .., fun hw => ?_, fun hw => ?_, rfl⟩
    · rw [himage, hserving, if_pos hw]
      exact ⟨rfl, rfl⟩
    · rw [himage, hserving, if_neg hw]
      exact ⟨rfl, Iff.rfl⟩

/-! ### RESET (R136, R140) -/

/-- A release of RESET with no write in progress brings the part up under its live values (R101, R136). -/
theorem exec_resetRelease_idle {straps : Quad Straps} {s : State} (hp : s.powered = true)
    (hpin : s.resetPin = .asserted) (hw : s.store.write = .idle) :
    exec (.resetRelease straps) s = .next (s.withStrapPins straps).leaveReset := by
  simp [exec, execResetRelease, hp, hpin, Store.busy, hw]

/-- With a write in progress it waits for the write (R140). -/
theorem exec_resetRelease_waits {straps : Quad Straps} {s : State} (hp : s.powered = true)
    (hpin : s.resetPin = .asserted) (hw : s.store.write ≠ .idle) :
    exec (.resetRelease straps) s = .next { s.withStrapPins straps with resetPin := .releasing } := by
  have hbusy : s.store.busy = true := by
    unfold Store.busy
    split
    · exact absurd ‹_› hw
    all_goals rfl
  simp [exec, execResetRelease, hp, hpin, hbusy]

theorem quad_ofFn_get {α : Type} (q : Quad α) : Quad.ofFn q.get = q := rfl

/-- The part just out of RESET, with the strap levels it sampled and its live values (R101, R136). -/
theorem leaveReset_broughtUp (s : State) (straps : Quad Straps)
    (hs : straps = Quad.ofFn fun p => (s.ports.get p).strapPins) :
    s.BroughtUp s.leaveReset straps ∧
    s.leaveReset.store = { s.store with write := .idle, saveWaiting := false, imageWaiting := false } ∧
    s.leaveReset.time.clock = s.time.clock ∧ s.leaveReset.journal.nextSeq = s.journal.nextSeq ∧
    (∀ k, (s.leaveReset.watches.get k).meter = (s.watches.get k).meter) ∧
    s.leaveReset.cat = loadCatalogue s.store.image s.time.clock := by
  obtain ⟨hclock, hseq, hmeter⟩ := bringUp_counts s
    { s.store with write := .idle, saveWaiting := false, imageWaiting := false } s.savedNow (s.ports.map (·.strapPins))
  refine ⟨?_, rfl, hclock, hseq, fun k => (hmeter k).trans (Quad.get_map ..), rfl⟩
  subst hs
  exact bringUp_broughtUp ..

/-- Settles O5, by what an assertion, an immediate and a waiting release each leave. -/
theorem resetKeepsLiveValues : Obligations.ResetKeepsLiveValues := by
  refine ⟨fun s hp => congrArg Host.Outcome.next (if_pos hp), fun straps s hp hpin hw => ?_,
    fun straps s hp hpin hw => ?_⟩
  · obtain ⟨hup, hstore, hclock, hseq, hmeter, hcat⟩ := leaveReset_broughtUp (s.withStrapPins straps) straps (by
      simp only [State.withStrapPins, Quad.get_ofFn, quad_ofFn_get])
    refine ⟨_, exec_resetRelease_idle hp hpin hw, broughtUp_of_pins hup rfl (fun p => ?_) rfl, ?_, hclock, hseq, hmeter,
      fun h => hcat.trans (congrArg (loadCatalogue · _) h), fun rs h => hcat.trans (congrArg (loadCatalogue · _) h)⟩
    · simp [State.withStrapPins]
    · rw [hstore, ← hw]; rfl
  · refine ⟨_, exec_resetRelease_waits hp hpin hw, ?_, rfl, fun p => Quad.get_ofFn .., rfl⟩
    simp [State.running]

/-! ### The part as manufactured (R137) -/

/-- Power-on of a part as manufactured brings it up on an empty store. -/
theorem reset_eq_bringUp : State.reset = State.reset.bringUp Store.factory SavedValues.zero
    (Quad.fill { pcl1 := false, pcl0 := false }) := rfl

theorem absent_feature (i : Nat) : Catalogue.absent.feature i = none := by
  simp only [Catalogue.feature, Catalogue.slot, Catalogue.absent, List.getD, List.getElem?_replicate]
  split <;> rfl

theorem reset_slot {n : Nat} (h : n < 256) :
    State.reset.checkoutAt n = none ∧ State.reset.generationAt n = 1 := by
  have hslot : State.reset.grant.table[n]? = some { generation := 1, entry := none } :=
    List.getElem?_replicate_of_lt h
  simp [State.checkoutAt, State.generationAt, hslot]

/-- Settles O6: State.reset is a part brought up, of which every invariant holds. -/
theorem resetIsNoImage : Obligations.ResetIsNoImage := by
  have hbalanced : Balanced State.reset := by rw [reset_eq_bringUp]; exact bringUp_balanced ..
  have hbounds : InBounds State.reset := by rw [reset_eq_bringUp]; exact bringUp_inBounds ..
  have hsound : Sound State.reset := by rw [reset_eq_bringUp]; exact bringUp_sound _ _ _ rfl rfl nofun
  have hgoverned : Governed State.reset := by rw [reset_eq_bringUp]; exact bringUp_governed ..
  have hports : Links.Shaped State.reset := by rw [reset_eq_bringUp]; exact Links.bringUp_shaped _ _ _ _
  have hunits : InShape State.reset := by rw [reset_eq_bringUp]; exact bringUp_inShape ..
  obtain ⟨hnumbered, hbatch⟩ := ordered_initial 0
  obtain ⟨htokens, hjournal⟩ := hbalanced
  obtain ⟨hslots, hqueue⟩ := (inBounds_iff _).mp hbounds
  obtain ⟨hpolicy, hoverdraft, hshort⟩ := (governed_iff _).mp hgoverned
  obtain ⟨hshaped, hnotices⟩ := (Links.shaped_iff _).mp hports
  exact ⟨rfl, rfl, rfl, fun _ => rfl, rfl, rfl, rfl, fun i _ => absent_feature i, fun _ => reset_slot,
    fun k => Quad.get_fill .., rfl, rfl, rfl, rfl, rfl, htokens, hjournal, hslots, hqueue, hsound.imagesVerified,
    hnumbered, hbatch, hpolicy, hoverdraft, hshort, hshaped, hnotices, hunits.terms, hunits.counters, hunits.stager,
    hunits.sweep⟩

/-! ### The ends of writes (R137 to R140) -/

theorem exec_saveComplete {s : State} {v : SavedValues} (hp : s.powered = true) (hw : s.store.write = .saving v) :
    exec .saveComplete s = .next ((s.storeSaved v).nextWrite).releaseIfWaiting := by
  simp [exec, execSaveComplete, hp, hw]

/-- In RESET a completed image write leaves the image area and the floor (R100, R140). -/
theorem exec_imageWriteComplete_inReset {s : State} (ahead : Quad Nat) (hp : s.powered = true)
    (hw : s.store.write = .imageWrite) (hpin : s.resetPin ≠ .released) :
    exec (.imageWriteComplete ahead) s = .next s.completeInReset := by
  simp [exec, execImageWriteComplete, hp, hw, State.running, hpin]

theorem releaseIfWaiting_releasing {s : State} (h : s.resetPin = .releasing) : s.releaseIfWaiting = s.leaveReset := by
  rw [State.releaseIfWaiting, h]

theorem releaseIfWaiting_else {s : State} (h : s.resetPin ≠ .releasing) : s.releaseIfWaiting = s := by
  unfold State.releaseIfWaiting
  split
  · exact absurd ‹_› h
  all_goals rfl

/-- Settles O47: the next write by what waits, and a release that waited by what it brings up. -/
theorem saveCompletesInOrder : Obligations.SaveCompletesInOrder := by
  refine ⟨fun s v straps hp hw hstraps => ?_, fun s ahead rs clock straps hp hw hstraps hrs hclock => ?_⟩
  · rw [exec_saveComplete hp hw]
    refine ⟨fun hpin hi => ?_, fun hpin hi hs => ?_, fun hpin hi hs => ?_, fun hpin hi hs => ?_⟩
    · rw [State.nextWrite, if_pos (by exact hi), releaseIfWaiting_else (by exact hpin)]
      rfl
    · rw [State.nextWrite, if_neg (by simp [hi]), if_pos (by exact hs), releaseIfWaiting_else (by exact hpin)]
      rfl
    · rw [State.nextWrite, if_neg (by simp [hi]), if_neg (by simp [hs]), releaseIfWaiting_else (by exact hpin)]
      rfl
    · rw [State.nextWrite, if_neg (by simp [hi]), if_neg (by simp [hs]), releaseIfWaiting_releasing (by exact hpin)]
      obtain ⟨hup, hstore, hclock, hseq, hmeter, hcat⟩ := leaveReset_broughtUp
        { s.storeSaved v with store := { (s.storeSaved v).store with write := .idle } } straps hstraps
      refine ⟨_, rfl, hup, ?_, hclock, hseq, hcat, hmeter⟩
      rw [hstore]
      simp [hi, hs]
  · subst hrs hclock
    refine ⟨fun hpin => ?_, fun hpin => ?_⟩
    · rw [exec_imageWriteComplete_inReset ahead hp hw (by rw [hpin]; exact nofun), State.completeInReset,
        releaseIfWaiting_else (by rw [State.storeImage]; exact fun h => by cases hpin.symm.trans h)]
      rfl
    · rw [exec_imageWriteComplete_inReset ahead hp hw (by rw [hpin]; exact nofun), State.completeInReset,
        releaseIfWaiting_releasing (by exact hpin)]
      obtain ⟨hup, hstore, hclock, hseq, hmeter, hcat⟩ := leaveReset_broughtUp
        ((s.withClock (flooredClock s.stager.image s.time.clock)).storeImage s.stager.image) straps hstraps
      refine ⟨_, rfl, hup, ?_, hcat, hclock, hstore, hseq, hmeter⟩
      rw [State.serving, hcat]
      rfl

end Sys2Proof.Machine.Units
end

section
/-! SUPPORT. What the catalogue's lookups find (R8, R11, R13), and what the queries and status commands report of it (R16,
R17, R39, R40, R180, R192; O14, O16, O17). -/

namespace Sys2Proof.Machine.Units

open Charges Links

/-! ### Lookups (R11, R13) -/

theorem hasCode_iff (sl : FeatureSlot) (code : Nat) :
    sl.hasCode code = true ↔ ∃ f, sl.feature = some f ∧ f.code = code := by
  unfold FeatureSlot.hasCode
  cases sl.feature <;> simp

theorem feature_of_lt {c : Catalogue} {i : Nat} (h : i < c.slots.length) : c.feature i = c.slots[i].feature := by
  rw [Catalogue.feature, Catalogue.slot, List.getD_eq_getElem _ _ h]

/-- A present slot is a slot of the catalogue. -/
theorem lt_of_feature {c : Catalogue} {i : Nat} {f : Feature} (h : c.feature i = some f) : i < c.slots.length := by
  by_contra hi
  rw [Catalogue.feature, Catalogue.slot, List.getD_eq_default _ _ (Nat.le_of_not_lt hi)] at h
  cases h

/-- A code finds the first present slot that holds it (R11). -/
theorem findCode_iff (c : Catalogue) (code n : Nat) : c.findCode code = some n ↔
    (∃ f, c.feature n = some f ∧ f.code = code) ∧ ∀ m f, m < n → c.feature m = some f → f.code ≠ code := by
  rw [Catalogue.findCode, List.findIdx?_eq_some_iff_getElem]
  constructor
  · rintro ⟨hn, hcode, hfirst⟩
    refine ⟨by rw [feature_of_lt hn]; exact (hasCode_iff _ _).mp hcode, fun m f hm hf hc => hfirst m hm ?_⟩
    rw [hasCode_iff, ← feature_of_lt (hm.trans hn)]
    exact ⟨f, hf, hc⟩
  · rintro ⟨⟨f, hf, hc⟩, hfirst⟩
    have hn := lt_of_feature hf
    refine ⟨hn, (hasCode_iff _ _).mpr ⟨f, by rw [← feature_of_lt hn, hf], hc⟩, fun m hm hm' => ?_⟩
    obtain ⟨f', hf', hc'⟩ := (hasCode_iff _ _).mp hm'
    exact hfirst m f' hm (by rw [feature_of_lt (hm.trans hn), hf']) hc'

theorem findCode_none {c : Catalogue} {code : Nat} (h : ∀ i f, c.feature i = some f → f.code ≠ code) :
    c.findCode code = none := by
  cases hfind : c.findCode code with
  | none => rfl
  | some n =>
    obtain ⟨⟨f, hf, hc⟩, -⟩ := (findCode_iff c code n).mp hfind
    exact absurd hc (h n f hf)

/-- FROM_SLOT finds the lowest present slot at or above an index (R11). -/
theorem findFrom_some {c : Catalogue} {i j : Nat} (hi : i < 64) (hf : (c.feature i).isSome = true) (hj : j ≤ i)
    (hlow : ∀ m, m < i → (c.feature m).isSome = true → m < j) : c.findFrom j = some i := by
  rw [Catalogue.findFrom, List.find?_eq_some_iff_getElem]
  refine ⟨by simp [hj, hf], i, by rw [List.length_range]; exact hi, by simp, fun m hm => ?_⟩
  simp only [List.getElem_range, Bool.not_eq_true', Bool.and_eq_false_iff, decide_eq_false_iff_not]
  by_cases hm' : (c.feature m).isSome = true
  · exact .inl (Nat.not_le.mpr (hlow m hm hm'))
  · exact .inr (Bool.eq_false_iff.mpr hm')

theorem findFrom_none {c : Catalogue} {j : Nat} (h : ∀ i, i < 64 → (c.feature i).isSome = true → i < j) :
    c.findFrom j = none := by
  rw [Catalogue.findFrom, List.find?_eq_none]
  intro i hi
  by_cases hf : (c.feature i).isSome = true
  · have := h i (List.mem_range.mp hi) hf
    simp; omega
  · simp [Bool.eq_false_iff.mpr hf]

/-- A code finds the first present bundle that holds it (R13). -/
theorem findBundle_iff (c : Catalogue) (code : Nat) (b : Bundle) : c.findBundle code = some b ↔
    ∃ n, c.bundles[n]? = some (some b) ∧ b.code = code ∧
      ∀ (m : Nat) (x : Bundle), m < n → c.bundles[m]? = some (some x) → x.code ≠ code := by
  rw [Catalogue.findBundle, Option.join_eq_some_iff, List.find?_eq_some_iff_getElem]
  constructor
  · rintro ⟨hcode, n, hn, hb, hfirst⟩
    refine ⟨n, List.getElem?_eq_some_iff.mpr ⟨hn, hb⟩, by simpa using hcode, fun m x hm hx hc => ?_⟩
    have hx' := (List.getElem?_eq_some_iff.mp hx).2
    simpa [hx', hc] using hfirst m hm
  · rintro ⟨n, hb, hcode, hfirst⟩
    obtain ⟨hn, hb⟩ := List.getElem?_eq_some_iff.mp hb
    refine ⟨by simp [hcode], n, hn, hb, fun m hm => ?_⟩
    cases hx : c.bundles[m] with
    | none => rfl
    | some x => simpa using hfirst m x hm (List.getElem?_eq_some_iff.mpr ⟨hm.trans hn, hx⟩)

/-! ### QUERY FEATURE (R16, R17) -/

theorem parseFeatureQuery_byCode (payload : List Byte) (code : Nat) :
    parseFeatureQuery payload = some (.byCode code) ↔ 1 ≤ code ∧ code ≤ 65534 ∧ payload = b1 0 ++ b2 code := by
  constructor
  · intro h
    unfold parseFeatureQuery at h
    split at h
    · rename_i form a b
      split at h
      · rename_i hform
        cases h
        obtain ⟨hform, hcode⟩ := Bool.and_eq_true_iff.mp hform
        obtain ⟨hlow, hhigh⟩ := (isCode_iff _).mp hcode
        obtain rfl : form = 0#8 := BitVec.eq_of_toNat_eq (by simpa using hform)
        exact ⟨hlow, hhigh, by rw [b2_beNat]; rfl⟩
      · cases h
    · split at h <;> cases h
    · cases h
  · rintro ⟨hlow, hhigh, rfl⟩
    obtain ⟨a, b, hab⟩ := b2_eq code
    have hcode : beNat [a, b] = code := by rw [← hab, beNat_b2 (by omega)]
    rw [hab, show b1 0 ++ [a, b] = [0#8, a, b] from rfl, parseFeatureQuery, hcode]
    simp [(isCode_iff code).mpr ⟨hlow, hhigh⟩]

theorem parseFeatureQuery_fromSlot (payload : List Byte) (i : Nat) :
    parseFeatureQuery payload = some (.fromSlot i) ↔ i ≤ 63 ∧ payload = b1 1 ++ b1 i := by
  constructor
  · intro h
    unfold parseFeatureQuery at h
    split at h
    · split at h <;> cases h
    · rename_i form x
      split at h
      · rename_i hform
        cases h
        obtain ⟨hform, hi⟩ := Bool.and_eq_true_iff.mp hform
        obtain rfl : form = 1#8 := BitVec.eq_of_toNat_eq (by simpa using hform)
        exact ⟨by simpa using hi, by rw [b1_toNat]; rfl⟩
      · cases h
    · cases h
  · rintro ⟨hi, rfl⟩
    obtain ⟨x, hx⟩ := b1_eq i
    have hval := toNat_of_b1 (by omega) hx
    rw [hx, show b1 1 ++ [x] = [1#8, x] from rfl, parseFeatureQuery, hval]
    simp [hi]

section
variable {s : State} {r : Request} {q : FeatureQuery}

theorem queryFeatureWork_malformed (h : (s.basis r).serving = true) (hp : parseFeatureQuery r.payload = none) :
    queryFeatureWork r s = (s, .bare .badRequest) := by
  simp only [queryFeatureWork, needsCatalogue_serving h, hp]

theorem queryFeatureWork_absent (h : (s.basis r).serving = true) (hp : parseFeatureQuery r.payload = some q)
    (hf : findFeature (s.basis r).catalogue q = none) : queryFeatureWork r s = (s, .bare .notFound) := by
  simp only [queryFeatureWork, needsCatalogue_serving h, hp, hf]

theorem queryFeatureWork_found {i : Nat} {f : Feature} (h : (s.basis r).serving = true)
    (hp : parseFeatureQuery r.payload = some q) (hi : findFeature (s.basis r).catalogue q = some i)
    (hf : (s.basis r).catalogue.feature i = some f) :
    queryFeatureWork r s = (s, .ok (featureBytes (s.basis r).catalogue (s.basis r).effClass i f)) := by
  simp only [queryFeatureWork, needsCatalogue_serving h, hp, hi, hf]

end

theorem flatMap_b1 (q : Quad Nat) :
    q.toList.flatMap b1 = b1 (q.get 0) ++ b1 (q.get 1) ++ b1 (q.get 2) ++ b1 (q.get 3) := rfl

/-- Settles O16: the query's lookup finds the first slot that qualifies, whose content is reported. -/
theorem queryFeatureReports : Obligations.QueryFeatureReports := by
  refine ⟨fun payload q => ?_, fun s r hr hc hserving => ⟨fun hp => ?_, fun q hp hnone hlen => ?_,
    fun q i f hp hi hf hmatch hfirst => ?_⟩⟩
  · cases q with
    | byCode code => exact parseFeatureQuery_byCode payload code
    | fromSlot i => exact parseFeatureQuery_fromSlot payload i
  · exact serve_answers hr hc (queryFeatureWork_malformed (s := s.dropRequest .queryFeature r.port) hserving hp)
  · have hfind : findFeature (s.basis r).catalogue q = none := by
      cases q with
      | byCode code => exact findCode_none fun i f hf => hnone i (hlen ▸ lt_of_feature hf) f hf
      | fromSlot j =>
        refine findFrom_none fun i hi hf => ?_
        obtain ⟨f, hf⟩ := Option.isSome_iff_exists.mp hf
        exact hnone i hi f hf
    exact serve_answers hr hc (queryFeatureWork_absent (s := s.dropRequest .queryFeature r.port) hserving hp hfind)
  · have hfind : findFeature (s.basis r).catalogue q = some i := by
      cases q with
      | byCode code => exact (findCode_iff ..).mpr ⟨⟨f, hf, hmatch⟩, fun m f' hm hf' => hfirst m hm f' hf'⟩
      | fromSlot j =>
        refine findFrom_some hi (by rw [hf]; rfl) hmatch fun m hm hm' => ?_
        obtain ⟨f', hf'⟩ := Option.isSome_iff_exists.mp hm'
        exact hfirst m hm f' hf'
    refine serve_answers hr hc
      ((queryFeatureWork_found (s := s.dropRequest .queryFeature r.port) hserving hp hfind hf).trans ?_)
    rw [featureBytes, flatMap_b1]
    simp only [List.append_assoc, dropRequest_basis]

/-! ### QUERY POOL (R39, R40) -/

theorem parsePool_iff (payload : List Byte) (k : Pool) : parsePool payload = some k ↔ payload = b1 k.val := by
  constructor
  · intro h
    unfold parsePool at h
    split at h
    · split at h
      · cases h; exact (b1_toNat _).symm
      · cases h
    · cases h
  · rintro rfl
    obtain ⟨x, hx⟩ := b1_eq k.val
    have hval := toNat_of_b1 (k.isLt.trans (by decide)) hx
    rw [hx, parsePool, dif_pos (by rw [hval]; exact k.isLt)]
    exact congrArg some (Fin.ext hval)

theorem flatMap_fours {α : Type} (f : Fin 4 → List α) : fours.flatMap f = f 0 ++ f 1 ++ f 2 ++ f 3 := by
  simp [fours]

/-- The limit raised by the allowance while the overdraft is OPEN (R40). -/
theorem raised_limit (s : State) (k : Pool) (raised : Nat) :
    (if s.overdraftOpen k then raised else s.ceiling k) =
      if (s.watches.get k).overdraft = .opened then raised else s.ceiling k := by
  simp [State.overdraftOpen]

theorem poolBytes_eq (s : State) {c : Catalogue} {k : Pool} {x : PoolRec} (p : Port) (hx : c.poolRec k = some x) :
    s.poolBytes c k p = b1 k.val ++ b3 x.capacity ++ b3 x.allowance ++ b3 (s.ceiling k) ++
      indication (s.pool k).pendingCeiling.isSome ++ b3 ((s.pool k).pendingCeiling.getD 0) ++ b3 (s.pool k).inUse ++
      (b3 ((s.pool k).held.get 0) ++ b3 ((s.pool k).cap.get 0) ++ b3 ((s.pool k).reserve.get 0)) ++
      (b3 ((s.pool k).held.get 1) ++ b3 ((s.pool k).cap.get 1) ++ b3 ((s.pool k).reserve.get 1)) ++
      (b3 ((s.pool k).held.get 2) ++ b3 ((s.pool k).cap.get 2) ++ b3 ((s.pool k).reserve.get 2)) ++
      (b3 ((s.pool k).held.get 3) ++ b3 ((s.pool k).cap.get 3) ++ b3 ((s.pool k).reserve.get 3)) ++
      b1 (s.grant.queue.filter fun e => decide (1 ≤ e.charges.get k)).length ++
      b1 (s.watches.get k).overdraft.code ++ b1 (s.watches.get k).watch.code ++ b4 (s.watches.get k).meter ++
      b3 (s.othersUnused k p) ++ b3 (s.ceiling k - ((s.pool k).inUse + s.othersUnused k p)) ++
      b3 ((if (s.watches.get k).overdraft = .opened then s.ceiling k + x.allowance else s.ceiling k) -
        ((s.pool k).inUse + s.othersUnused k p)) := by
  have hcapacity : c.capacity k = x.capacity := by rw [Catalogue.capacity, hx]; rfl
  have hallowance : c.allowance k = x.allowance := by rw [Catalogue.allowance, hx]; rfl
  simp only [State.poolBytes, State.roomUnder, raised_limit, hcapacity, hallowance, flatMap_fours, Nat.sub_sub,
    List.append_assoc]
  rfl

/-- Settles O17. -/
theorem queryPoolReports : Obligations.QueryPoolReports := by
  refine ⟨parsePool_iff, fun s r hr hc hserving => ⟨fun hp => serve_answers hr hc ?_,
    fun k q x hp hq hx => serve_answers hr hc ?_⟩⟩
  all_goals
    refine (needsCatalogue_serving (s := s.dropRequest .queryPool r.port) (b := s.basis r) hserving).trans ?_
    rw [hp]
  subst hq
  exact congrArg (fun bytes => (_, Reply.ok bytes)) (poolBytes_eq (s.dropRequest .queryPool r.port) r.port hx)

/-! ### IDENTIFY and JOURNAL STATUS (R180, R192) -/

theorem servingByte (serving : Bool) : b1 (servingCode serving) = [if serving then 1#8 else 0#8] := by
  cases serving <;> rfl

theorem indication_eq (on : Bool) : indication on = [if on then 1#8 else 0#8] := by
  cases on <;> rfl

theorem identifyBytes_noImage {b : Basis} (h : b.catalogue.head = none) (p : Port) (strap : Class) :
    identifyBytes b p strap = [0x54#8, 0x47#8, 0x04#8, 0x64#8, 0#8, 0#8, 0#8, 0#8, 0#8] ++ b1 p.val ++
      b1 b.effClass.val ++ b1 strap.val ++ [3#8] := by
  simp only [identifyBytes, Basis.serving, Catalogue.serving, Catalogue.issue, Basis.privileges, h]
  rfl

theorem identifyBytes_serving {b : Basis} {h : ImageHead} (hh : b.catalogue.head = some h) (p : Port) (strap : Class) :
    identifyBytes b p strap = [0x54#8, 0x47#8, 0x04#8, 0x64#8, 1#8] ++ b4 h.header.issue ++ b1 p.val ++
      b1 b.effClass.val ++ b1 strap.val ++ b1 ((if (h.classes.get b.effClass).admin then 1 else 0) +
        (if (h.classes.get b.effClass).time then 2 else 0)) := by
  have hflags (admin time : Bool) :
      flagBits [admin, time] = (if admin then 1 else 0) + (if time then 2 else 0) := by
    cases admin <;> cases time <;> rfl
  simp only [identifyBytes, Basis.serving, Catalogue.serving, Catalogue.issue, Basis.privileges, Privileges.byte, hh,
    hflags, servingByte, Option.isSome_some, Option.map_some, Option.getD_some, if_true]
  rfl

theorem identifyWork_malformed {r : Request} (hp : r.payload ≠ []) (s : State) :
    identifyWork r s = (s, .bare .badRequest) := if_pos hp

theorem identifyWork_reports {r : Request} (hp : r.payload = []) (s : State) : identifyWork r s =
    (s, .ok (identifyBytes (s.basis r) r.port (s.ports.get r.port).strapClass)) := if_neg (by simpa using hp)

theorem journalStatusWork_malformed {r : Request} (hp : r.payload ≠ []) (s : State) :
    journalStatusWork r s = (s, .bare .badRequest) := if_pos hp

theorem journalStatusWork_reports {r : Request} (hp : r.payload = []) (s : State) :
    journalStatusWork r s = (s, .ok (journalBytes s.cat s.journal)) := if_neg (by simpa using hp)

theorem journalBytes_eq (c : Catalogue) (j : Journal) : journalBytes c j =
    b2 j.fifo.length ++ b2 j.rv ++ b2 (512 - j.fifo.length - j.rv) ++ b2 j.gap ++ b1 j.batch.code ++ b1 j.remaining ++
      b1 j.bytePos ++
      (match c.head with
        | some h => [1#8] ++ b1 h.header.batchLimit ++ b1 h.header.requestMode.code
        | none => [0#8, Config.noneBatchLimit, Config.noneRequestMode]) ++
      (match j.fifo.head? with
        | some x => b4 x.sequence
        | none => [1#8]) ++ b4 j.nextSeq := by
  unfold journalBytes settingBytes Journal.oldestBytes Catalogue.serving
  cases c.head <;> cases j.fifo.head? <;>
    simp only [Option.isSome_some, Option.isSome_none, indication_eq, if_true, List.append_assoc] <;> rfl

/-- Settles O14: the bytes of either reply, in either device state. -/
theorem statusCommandsReport : Obligations.StatusCommandsReport := by
  refine ⟨fun s r hr hc => ⟨fun hp => ?_, fun hp hh => ?_, fun h hp hh => ?_⟩,
    fun s r hr hc => ⟨fun hp => ?_, fun hp => ?_⟩⟩
  · exact serve_answers hr hc (identifyWork_malformed hp _)
  · rw [← identifyBytes_noImage hh]
    exact serve_answers hr hc (identifyWork_reports hp _)
  · rw [← identifyBytes_serving hh]
    exact serve_answers hr hc (identifyWork_reports hp _)
  · exact serve_answers hr hc (journalStatusWork_malformed hp _)
  · exact serve_answers hr hc ((journalStatusWork_reports hp _).trans
      (congrArg (fun bytes => (_, Reply.ok bytes)) (journalBytes_eq _ _)))

/-! ### Commands turned away (R6, R19) -/

theorem needsAdmin_lacking {b : Basis} {s : State} {work : State × Reply} (h : b.privileges.admin = false) :
    needsAdmin b s work = (s, .bare .notPermitted) := if_neg (by simp [h])

theorem needsTime_lacking {b : Basis} {s : State} {work : State × Reply} (h : b.privileges.time = false) :
    needsTime b s work = (s, .bare .notPermitted) := if_neg (by simp [h])

theorem needsCatalogue_noImage {b : Basis} {s : State} {work : State × Reply} (h : b.serving = false) :
    needsCatalogue b s work = (s, .bare .notReady) := if_neg (by simp [h])

/-- In NO_IMAGE every port has both privileges, so that a port without one is under an image (R3). -/
theorem serving_of_lacking {b : Basis} (h : b.privileges.admin = false) : b.serving = true := by
  unfold Basis.privileges at h
  rw [Basis.serving, Catalogue.serving]
  split at h
  · cases h
  · simp [*]

/-- The commands that test ADMIN first (R93, R142). -/
theorem workOf_needsAdmin {c : Command} (hc : c ∈ Command.windowClose :: stagingCommands) (r : Request) (s : State) :
    ∃ work, workOf c r s = needsAdmin (s.basis r) s work := by
  simp only [stagingCommands, List.mem_cons, List.not_mem_nil, or_false] at hc
  rcases hc with rfl | rfl | rfl | rfl | rfl | rfl <;> exact ⟨_, rfl⟩

/-- The commands of site policy (R159, R160, R163, R165). -/
def policyCommands : List Command := [.policyStage, .policyApply, .setCeiling, .setShare]

/-- They test for an image and then ADMIN. -/
theorem workOf_policyCommand {c : Command} (hc : c ∈ policyCommands) (r : Request) (s : State) :
    ∃ work, workOf c r s = policyCommand r s work := by
  simp only [policyCommands, List.mem_cons, List.not_mem_nil, or_false] at hc
  rcases hc with rfl | rfl | rfl | rfl <;> exact ⟨_, rfl⟩

/-- The commands of R19 that report on or change checkouts, waits, features and pools. -/
def catalogueCommands : List Command :=
  [.checkout, .returnCheckout, .returnTag, .releasePort, .queryCheckout, .heartbeat, .cancelWait, .queryWait,
    .queryFeature, .queryPool]

/-- They test for an image first (R19). -/
theorem workOf_needsCatalogue {c : Command} (hc : c ∈ catalogueCommands) (r : Request) (s : State) :
    ∃ work, workOf c r s = needsCatalogue (s.basis r) s work := by
  simp only [catalogueCommands, List.mem_cons, List.not_mem_nil, or_false] at hc
  rcases hc with rfl | rfl | rfl | rfl | rfl | rfl | rfl | rfl | rfl | rfl <;> exact ⟨_, rfl⟩

/-- A row whose work changes nothing and gives a reply of a status alone. -/
theorem exec_commandRow_answers {s : State} {r : Request} {c : Command} {x : Reply} (hr : s.Ready r)
    (hc : r.command = c) (hw : workOf c r (s.dropRequest c r.port) = (s.dropRequest c r.port, x)) :
    exec (commandRow c r.port) s = .next (s.onlyAnswered r x) := by
  rw [WaitQueue.exec_commandRow]
  exact serve_answers hr hc hw

/-- Settles O32: each test stands before the rest of its command's work. -/
theorem commandsTurnedAway : Obligations.CommandsTurnedAway := by
  refine ⟨fun c hc s r hr hcmd hadmin => exec_commandRow_answers hr hcmd ?_,
    fun s r hr hcmd htime => serve_answers hr hcmd (needsTime_lacking (by exact htime)),
    fun c hc s r hr hcmd hserving => exec_commandRow_answers hr hcmd ?_⟩
  · have hc : c ∈ (Command.windowClose :: stagingCommands) ++ policyCommands := hc
    rcases List.mem_append.mp hc with hc | hc
    · obtain ⟨work, hw⟩ := workOf_needsAdmin hc r (s.dropRequest c r.port)
      rw [hw]
      exact needsAdmin_lacking (by exact hadmin)
    · obtain ⟨work, hw⟩ := workOf_policyCommand hc r (s.dropRequest c r.port)
      rw [hw]
      exact (needsCatalogue_serving (by exact serving_of_lacking hadmin)).trans (needsAdmin_lacking (by exact hadmin))
  · have hc : c ∈ catalogueCommands ++ policyCommands := hc
    rcases List.mem_append.mp hc with hc | hc
    · obtain ⟨work, hw⟩ := workOf_needsCatalogue hc r (s.dropRequest c r.port)
      rw [hw]
      exact needsCatalogue_noImage (by exact hserving)
    · obtain ⟨work, hw⟩ := workOf_policyCommand hc r (s.dropRequest c r.port)
      rw [hw]
      exact needsCatalogue_noImage (by exact hserving)

end Sys2Proof.Machine.Units
end

section
/-! SUPPORT. What stages 1 and 2 of a CHECKOUT give: the lookups of its names, the tests of its lines and the order it
makes (R26 to R29, R48, R49, R53; O21). -/

namespace Sys2Proof.Machine.Units

open Charges Links

/-! ### Lists read by an option-valued function that is defined on them -/

theorem map_some_filterMap {α β : Type} {f : α → Option β} {l : List α} (h : ∀ x ∈ l, (f x).isSome = true) :
    (l.filterMap f).map some = l.map f := by
  induction l with
  | nil => rfl
  | cons x xs ih =>
    obtain ⟨y, hy⟩ := Option.isSome_iff_exists.mp (h x List.mem_cons_self)
    rw [List.filterMap_cons_some hy, List.map_cons, List.map_cons, hy, ih fun z hz => h z (List.mem_cons_of_mem _ hz)]

theorem length_filterMap {α β : Type} {f : α → Option β} {l : List α} (h : ∀ x ∈ l, (f x).isSome = true) :
    (l.filterMap f).length = l.length := by
  simpa only [List.length_map] using congrArg List.length (map_some_filterMap h)

theorem getElem?_filterMap {α β : Type} {f : α → Option β} {l : List α} (h : ∀ x ∈ l, (f x).isSome = true) (n : Nat) :
    (l.filterMap f)[n]? = l[n]?.bind f := by
  have hmap := congrArg (fun xs => xs[n]?) (map_some_filterMap h)
  simp only [List.getElem?_map] at hmap
  cases hn : l[n]? <;> cases hf : (l.filterMap f)[n]? <;> simp_all

/-! ### What a CHECKOUT's names resolve to (R48, R49) -/

theorem resolve_bundle_absent {c : Catalogue} {code : Nat} (h : c.findBundle code = none) (m : Nat) :
    resolve c (.bundle code m) = .absent 0 := by
  simp only [resolve, h]

theorem resolve_bundle_found {c : Catalogue} {code : Nat} {b : Bundle} (h : c.findBundle code = some b)
    (hall : ∀ l ∈ b.lines, (c.feature l.feature).isSome = true) (m : Nat) :
    resolve c (.bundle code m) = .found (some { code := code, multiplier := m }) b.rebate
      (b.lines.map fun l => (l.feature, l.base * m)) := by
  simp only [resolve, h, List.all_eq_true.mpr hall, if_true]

/-- The first absent code is named by its position, counted from `k` (R49). -/
theorem firstAbsent_absent {c : Catalogue} {pairs : List (Nat × Nat)} {n : Nat} {x : Nat × Nat}
    (hx : pairs[n]? = some x) (habsent : c.findCode x.1 = none)
    (hbefore : ∀ m y, m < n → pairs[m]? = some y → (c.findCode y.1).isSome = true) (k : Nat) :
    firstAbsent c k pairs = some (k + n) := by
  induction pairs generalizing n k with
  | nil => cases hx
  | cons y ys ih =>
    cases n with
    | zero =>
      cases hx
      simp [firstAbsent, habsent]
    | succ n =>
      rw [firstAbsent, if_pos (hbefore 0 y n.succ_pos rfl), ih hx fun m z hm hz => hbefore (m + 1) z (by omega) hz]
      congr 1
      omega

theorem firstAbsent_none {c : Catalogue} {pairs : List (Nat × Nat)}
    (h : ∀ x ∈ pairs, (c.findCode x.1).isSome = true) (k : Nat) : firstAbsent c k pairs = none := by
  induction pairs generalizing k with
  | nil => rfl
  | cons y ys ih =>
    rw [firstAbsent, if_pos (h y List.mem_cons_self), ih fun x hx => h x (List.mem_cons_of_mem _ hx)]

theorem resolve_lines_absent {c : Catalogue} {pairs : List (Nat × Nat)} {n : Nat} {x : Nat × Nat}
    (hx : pairs[n]? = some x) (habsent : c.findCode x.1 = none)
    (hbefore : ∀ m y, m < n → pairs[m]? = some y → (c.findCode y.1).isSome = true) :
    resolve c (.lines pairs) = .absent (n + 1) := by
  simp only [resolve, firstAbsent_absent hx habsent hbefore, Nat.add_comm 1 n]

/-- Explicit lines whose codes are all held resolve to their slots, in order (R49). -/
theorem resolve_lines_found {c : Catalogue} {pairs items : List (Nat × Nat)} (hlength : items.length = pairs.length)
    (h : ∀ (n : Nat) (x : Nat × Nat), pairs[n]? = some x → ∃ i, c.findCode x.1 = some i ∧ items[n]? = some (i, x.2)) :
    resolve c (.lines pairs) = .found none 0 items := by
  have hfound : ∀ x ∈ pairs, (c.findCode x.1).isSome = true := fun x hx => by
    obtain ⟨n, hn⟩ := List.mem_iff_getElem?.mp hx
    obtain ⟨i, hi, -⟩ := h n x hn
    exact Option.isSome_iff_exists.mpr ⟨i, hi⟩
  have hitems : (pairs.filterMap fun x => (c.findCode x.1).map fun i => (i, x.2)) = items := by
    refine List.ext_getElem? fun n => ?_
    rw [getElem?_filterMap (fun x hx => by rw [Option.isSome_map]; exact hfound x hx)]
    cases hn : pairs[n]? with
    | none => rw [Option.bind_none, List.getElem?_eq_none (hlength ▸ List.getElem?_eq_none_iff.mp hn)]
    | some x =>
      obtain ⟨i, hi, hitem⟩ := h n x hn
      rw [Option.bind_some, hi, hitem, Option.map_some]
  simp only [resolve, firstAbsent_none hfound, hitems]

/-! ### The tests of the lines (R48, stage 2) -/

/-- The four tests of a line, in their order. -/
theorem lineFault_iff {c : Catalogue} {cls : Class} {i q : Nat} {f : Feature} {on idle : Prop}
    (hf : c.feature i = some f) (hon : on ↔ (c.slot i).site.enabled = true)
    (hidle : idle ↔ (c.slot i).term = some .pending ∨ (c.slot i).term = some .lapsed) :
    (lineFault c cls (i, q) = some .featureDisabled ↔ ¬ on) ∧
    (lineFault c cls (i, q) = some .featureInactive ↔ on ∧ idle) ∧
    (lineFault c cls (i, q) = some .classExcluded ↔ on ∧ ¬ idle ∧ f.scales.get cls = 0) ∧
    (lineFault c cls (i, q) = some .quantityLimit ↔ on ∧ ¬ idle ∧ f.scales.get cls ≠ 0 ∧ f.maxQuantity < q) ∧
    (lineFault c cls (i, q) = none ↔ on ∧ ¬ idle ∧ f.scales.get cls ≠ 0 ∧ q ≤ f.maxQuantity) := by
  simp only [lineFault, hf, ← Nat.not_lt (a := f.maxQuantity)]
  by_cases h₁ : (c.slot i).site.enabled = true
  · rw [if_neg (by rw [h₁]; simp)]
    by_cases h₂ : (c.slot i).term = some .pending ∨ (c.slot i).term = some .lapsed
    · simp only [if_pos h₂, hon.mpr h₁, hidle.mpr h₂]
      simp
    · rw [if_neg h₂]
      have h₂' : ¬ idle := fun h => h₂ (hidle.mp h)
      by_cases h₃ : f.scales.get cls = 0
      · simp [hon.mpr h₁, h₂', h₃]
      · by_cases h₄ : f.maxQuantity < q <;> simp [hon.mpr h₁, h₂', h₃, h₄]
  · have h₁' : ¬ on := fun h => h₁ (hon.mp h)
    simp [Bool.eq_false_iff.mpr h₁, h₁']

theorem firstFault_none (c : Catalogue) (cls : Class) (k : Nat) (items : List (Nat × Nat)) :
    firstFault c cls k items = none ↔ ∀ x ∈ items, lineFault c cls x = none := by
  induction items generalizing k with
  | nil => simp [firstFault]
  | cons y ys ih =>
    rw [List.forall_mem_cons, ← ih (k + 1), firstFault]
    cases lineFault c cls y <;> simp

/-- The first failing line is named by its reason and its position, counted from `k` (R48). -/
theorem firstFault_some (c : Catalogue) (cls : Class) (k : Nat) (items : List (Nat × Nat)) (reason : Reason) (n : Nat) :
    firstFault c cls k items = some (reason, n) ↔
      ∃ (m : Nat) (x : Nat × Nat), n = m + k ∧ items[m]? = some x ∧ lineFault c cls x = some reason ∧
        ∀ (j : Nat) (y : Nat × Nat), j < m → items[j]? = some y → lineFault c cls y = none := by
  induction items generalizing k with
  | nil => simp [firstFault]
  | cons x xs ih =>
    cases hx : lineFault c cls x with
    | some a =>
      simp only [firstFault, hx, Option.some.injEq, Prod.mk.injEq]
      constructor
      · rintro ⟨rfl, rfl⟩
        exact ⟨0, x, (Nat.zero_add _).symm, rfl, hx, fun j _ hj => absurd hj j.not_lt_zero⟩
      · rintro ⟨m, y, rfl, hy, hfault, hbefore⟩
        cases m with
        | zero =>
          cases hy
          rw [hx] at hfault
          exact ⟨Option.some.inj hfault, (Nat.zero_add _).symm⟩
        | succ m => exact absurd (hbefore 0 x m.succ_pos rfl) (by rw [hx]; simp)
    | none =>
      simp only [firstFault, hx, ih]
      constructor
      · rintro ⟨m, y, rfl, hy, hfault, hbefore⟩
        refine ⟨m + 1, y, by omega, hy, hfault, fun j z hj hz => ?_⟩
        cases j with
        | zero => cases hz; exact hx
        | succ j => exact hbefore j z (by omega) hz
      · rintro ⟨m, y, rfl, hy, hfault, hbefore⟩
        cases m with
        | zero =>
          cases hy
          rw [hx] at hfault
          cases hfault
        | succ m => exact ⟨m, y, by omega, hy, hfault, fun j z hj hz => hbefore (j + 1) z (by omega) hz⟩

/-! ### The order a request makes (R26, R29, R53) -/

section

variable {c : Catalogue} {items : List (Nat × Nat)} (cls : Class)

theorem length_buildLines (h : ∀ x ∈ items, (c.feature x.1).isSome = true) :
    (buildLines c cls items).length = items.length :=
  length_filterMap fun x hx => by rw [Option.isSome_map]; exact h x hx

theorem getElem?_buildLines (h : ∀ x ∈ items, (c.feature x.1).isSome = true) {n i q : Nat} {f : Feature}
    (hn : items[n]? = some (i, q)) (hf : c.feature i = some f) : (buildLines c cls items)[n]? = some
      { index := some i, code := f.code, quantity := q, pool := f.pool
        cost := lineCost f.rate q (f.scales.get cls), orphan := false } := by
  rw [buildLines, getElem?_filterMap (fun x hx => by rw [Option.isSome_map]; exact h x hx), hn, Option.bind_some, hf,
    Option.map_some]

/-- A line of an order is that of an item whose slot is present. -/
theorem mem_buildLines (l : Line) : l ∈ buildLines c cls items ↔ ∃ x ∈ items, ∃ f, c.feature x.1 = some f ∧
    { index := some x.1, code := f.code, quantity := x.2, pool := f.pool
      cost := lineCost f.rate x.2 (f.scales.get cls), orphan := false } = l := by
  simp only [buildLines, List.mem_filterMap, Option.map_eq_some_iff]

theorem buildLines_grace (h : ∀ x ∈ items, (c.feature x.1).isSome = true) :
    ((buildLines c cls items).any fun l => c.lineTerm l == some .grace) = true ↔
      ∃ x ∈ items, (c.slot x.1).term = some .grace := by
  simp only [List.any_eq_true, mem_buildLines, beq_iff_eq]
  constructor
  · rintro ⟨l, ⟨x, hx, f, -, rfl⟩, hterm⟩
    exact ⟨x, hx, hterm⟩
  · rintro ⟨x, hx, hterm⟩
    obtain ⟨f, hf⟩ := Option.isSome_iff_exists.mp (h x hx)
    exact ⟨_, ⟨x, hx, f, hf, rfl⟩, hterm⟩

theorem buildLines_metered :
    ((buildLines c cls items).any fun l => c.lineHas l (·.metered)) = true ↔
      ∃ x ∈ items, ∃ f, c.feature x.1 = some f ∧ f.metered = true := by
  simp only [List.any_eq_true, mem_buildLines, lineHas_iff]
  constructor
  · rintro ⟨l, ⟨x, hx, f, hf, rfl⟩, i, g, hi, hg, hm⟩
    cases hi
    exact ⟨x, hx, g, hg, hm⟩
  · rintro ⟨x, hx, f, hf, hm⟩
    exact ⟨_, ⟨x, hx, f, hf, rfl⟩, x.1, f, rfl, hf, hm⟩

end

/-- Settles O21. -/
theorem checkoutLinesTested : Obligations.CheckoutLinesTested := by
  refine ⟨findCode_iff, findBundle_iff, fun c code m => ⟨fun h => resolve_bundle_absent h m,
      fun b hb hall => resolve_bundle_found hb hall m⟩, fun c pairs => ⟨fun n x hx habsent hbefore =>
      resolve_lines_absent hx habsent hbefore, fun items => resolve_lines_found⟩,
    fun c cls i q f on idle => lineFault_iff, fun c cls items => ⟨firstFault_none c cls 1 items,
      firstFault_some c cls 1 items⟩, ?_⟩
  rintro c cls p tag bundle rebate items _ rfl hall
  exact ⟨rfl, rfl, rfl, rfl, length_buildLines cls hall, fun n i q f hn hf => getElem?_buildLines cls hall hn hf,
    buildLines_grace cls hall, buildLines_metered cls⟩

end Sys2Proof.Machine.Units

end

section
/-! SUPPORT. What the grant of a CHECKOUT does (R36, R41, R44, R52, R53, R57; O23). -/

namespace Sys2Proof.Machine.Units

open Charges Links Checkouts

/-- The slot a grant takes: FREE, and the lowest-numbered one (R44). -/
theorem lowest_of_freeSlot {s : State} {n : Nat} (h : s.freeSlot = some n) :
    n < s.grant.table.length ∧ s.checkoutAt n = none ∧ ∀ m, m < n → (s.checkoutAt m).isSome = true := by
  obtain ⟨hn, hfree, hlow⟩ := List.findIdx?_eq_some_iff_getElem.mp h
  refine ⟨hn, ?_, fun m hm => ?_⟩
  · rw [State.checkoutAt, List.getElem?_eq_getElem hn]
    exact Option.isNone_iff_eq_none.mp hfree
  · rw [State.checkoutAt, List.getElem?_eq_getElem (hm.trans hn)]
    exact Option.isSome_iff_ne_none.mpr (by simpa using hlow m hm)

/-- A line bound by its code to another catalogue (R57, R67). -/
theorem reconcile_line (c : Catalogue) (l : Line) :
    l.reconcile c = { l with index := c.findCode l.code, orphan := (c.findCode l.code).isNone } := by
  unfold Line.reconcile
  cases c.findCode l.code <;> rfl

/-- An order that meets no failure is granted into the lowest FREE slot, one taken under a catalogue since replaced with
its lines bound by code to the active one (R52, R57). -/
theorem judgeOrder_grants {s : State} {c : Catalogue} {kept : Bool} {g : GrantOrder} {lines : List Line} {n : Nat}
    (hnone : s.orderFailure c g = none) (hfree : s.freeSlot = some n)
    (hlines : lines = if kept = true then g.lines else g.lines.map fun l => { l with
      index := s.cat.findCode l.code, orphan := (s.cat.findCode l.code).isNone }) (timeout : Nat) :
    s.judgeOrder c kept g timeout = s.grantNow n { g with lines := lines } := by
  have hg : (if kept = true then g else g.reconcile s.cat) = { g with lines := lines } := by
    rw [hlines]
    cases kept with
    | true => rfl
    | false => exact congrArg (fun ls => { g with lines := ls }) (List.map_congr_left fun l _ => reconcile_line s.cat l)
  rw [State.judgeOrder, hnone, hfree, ← hg]
  rfl

/-- The OVERDRAFT flag is measured against the capacities of the judging catalogue (R53, R57). -/
theorem overdraftAfter_eq {s : State} {g : GrantOrder} {c : Catalogue} {od : Bool}
    (hcapacities : g.capacities = Quad.ofFn c.capacity)
    (hod : od = true ↔ ∃ k, 1 ≤ g.charges.get k ∧ c.capacity k < (s.pool k).inUse + g.charges.get k) :
    s.overdraftAfter g = od := by
  rw [Bool.eq_iff_iff, hod]
  simp only [State.overdraftAfter, List.any_eq_true, mem_fours, true_and, Bool.and_eq_true, needs_iff,
    decide_eq_true_eq, hcapacities, Quad.get_ofFn]

/-- A grant changes the Grant Engine and the Journal alone. -/
theorem grantInto_frame (s : State) (n : Nat) (g : GrantOrder) :
    { s.grantInto n g with grant := s.grant, journal := s.journal } = s := by
  unfold State.grantInto
  dsimp only
  split <;> rfl

theorem grantInto_queue (s : State) (n : Nat) (g : GrantOrder) :
    (s.grantInto n g).grant.queue = s.grant.queue ∧ (s.grantInto n g).grant.waitGens = s.grant.waitGens := by
  rw [State.grantInto_grant]
  exact ⟨rfl, rfl⟩

theorem grantInto_others {s : State} {n m : Nat} (g : GrantOrder) (hm : m ≠ n) :
    (s.grantInto n g).grant.table[m]? = s.grant.table[m]? := by
  obtain ⟨c, -, htable⟩ := grantInto_table s n g
  rw [htable, List.getElem?_set_ne (Ne.symm hm)]

theorem grantFlagsByte_eq (od grace : Bool) :
    grantFlagsByte od grace = b1 ((if od then 1 else 0) + (if grace then 2 else 0)) := by
  cases od <;> cases grace <;> rfl

/-- Settles O23. -/
theorem checkoutGrants : Obligations.CheckoutGrants := by
  rintro s r q bundle rebate items c g lines od hr hc rfl hserving hparse hresolve hfault hg hnone hlines hod
  obtain ⟨⟨n, hfree⟩, -⟩ := orderFailure_none hnone
  obtain ⟨hn, hempty, hlow⟩ := lowest_of_freeSlot hfree
  have hflag : s.overdraftAfter { g with lines := lines } = od :=
    overdraftAfter_eq (c := (s.basis r).catalogue) (by rw [hg]; rfl) hod
  have hwork : checkoutWork r (s.dropRequest .checkout r.port) =
      (s.dropRequest .checkout r.port).grantNow n { g with lines := lines } := by
    refine (checkoutWork_serving (s := s.dropRequest .checkout r.port) hserving).trans ?_
    rw [hparse]
    simp only [dropRequest_basis, hresolve, hfault, ← hg]
    refine judgeOrder_grants (s := s.dropRequest .checkout r.port) hnone hfree (hlines.trans ?_) q.timeout
    simp only [Option.isNone_iff_eq_none]
    rfl
  obtain ⟨hentry, hgen⟩ := grantInto_slot (s := s.dropRequest .checkout r.port) { g with lines := lines } hn
  obtain ⟨hqueue, hgens⟩ := grantInto_queue (s.dropRequest .checkout r.port) n { g with lines := lines }
  have hpools := grantInto_pool (s.dropRequest .checkout r.port) n { g with lines := lines }
  have hjournal := State.grantInto_journal (s.dropRequest .checkout r.port) n { g with lines := lines }
  subst hflag
  refine ⟨n, _, (serve_gives hr hc hwork).trans ?_, hempty, hn, hlow, hentry.trans ?_, hgen,
    fun m hm => grantInto_others _ hm, fun k => (hpools k).trans ?_, hqueue, hgens,
    fun hm => hjournal.trans (if_neg (by simp [hm])), fun hm => (hjournal.trans (if_pos hm)).trans ?_,
    grantInto_frame (s.dropRequest .checkout r.port) n _⟩
  · rw [← grantFlagsByte_eq]
    rfl
  all_goals
    subst hg
    rfl

end Sys2Proof.Machine.Units

end

section
/-! SUPPORT. What HEARTBEAT finds, renews and answers (R105 to R108; O28). -/

namespace Sys2Proof.Machine.Units

open Charges Links Checkouts

/-! ### The handles of a HEARTBEAT (R105) -/

theorem isHandle_iff (h : Nat) : isHandle h = true ↔ 256 ≤ h ∧ h ≤ 32767 := by simp [isHandle]

theorem parseWords_flatMap (hs : List Nat) (h : ∀ x ∈ hs, x < 65536) : parseWords (hs.flatMap b2) = hs := by
  induction hs with
  | nil => rfl
  | cons x xs ih =>
    obtain ⟨a, b, e⟩ := b2_eq x
    have hx := beNat_b2 (h x List.mem_cons_self)
    rw [e] at hx
    rw [List.flatMap_cons, e]
    show beNat [a, b] :: parseWords (xs.flatMap b2) = _
    rw [hx, ih fun y hy => h y (List.mem_cons_of_mem _ hy)]

theorem length_flatMap_b2 (hs : List Nat) : (hs.flatMap b2).length = 2 * hs.length := by
  induction hs with
  | nil => rfl
  | cons x xs ih =>
    obtain ⟨a, b, e⟩ := b2_eq x
    simp only [List.flatMap_cons, e, List.length_append, List.length_cons, List.length_nil, ih]
    omega

/-- Whole words read as numbers are those numbers' bytes. -/
theorem flatMap_parseWords : ∀ (n : Nat) (rest : List Byte), rest.length = 2 * n →
    (parseWords rest).flatMap b2 = rest ∧ (parseWords rest).length = n
  | 0, [], _ => ⟨rfl, rfl⟩
  | n + 1, a :: b :: rest, h => by
    obtain ⟨hb, hl⟩ := flatMap_parseWords n rest (by simp at h; omega)
    refine ⟨?_, by simp [parseWords, hl]⟩
    show b2 (beNat [a, b]) ++ (parseWords rest).flatMap b2 = _
    rw [b2_beNat, hb]
    rfl
  | n + 1, [], h => by simp at h
  | n + 1, [_], h => by simp at h; omega

theorem parseHandles_iff (payload : List Byte) (hs : List Nat) : parseHandles payload = some hs ↔
    1 ≤ hs.length ∧ hs.length ≤ 15 ∧ (∀ h ∈ hs, 256 ≤ h ∧ h ≤ 32767) ∧ payload = b1 hs.length ++ hs.flatMap b2 := by
  constructor
  · intro h
    unfold parseHandles at h
    split at h
    · rename_i n rest
      dsimp only at h
      split at h
      · rename_i hc
        simp only [Bool.and_eq_true, decide_eq_true_eq, List.all_eq_true, isHandle_iff] at hc
        obtain ⟨⟨⟨hlow, hhigh⟩, hlength⟩, hall⟩ := hc
        obtain ⟨hbytes, hcount⟩ := flatMap_parseWords n.toNat rest hlength
        cases h
        exact ⟨hcount ▸ hlow, hcount ▸ hhigh, hall, by rw [hcount, hbytes, b1_toNat]; rfl⟩
      · cases h
    · cases h
  · rintro ⟨hlow, hhigh, hall, rfl⟩
    obtain ⟨n, e⟩ := b1_eq hs.length
    have hn := toNat_of_b1 (by omega) e
    have hwords := parseWords_flatMap hs fun x hx => Nat.lt_of_le_of_lt (hall x hx).2 (by omega)
    rw [e]
    show parseHandles (n :: hs.flatMap b2) = _
    have hlength := length_flatMap_b2 hs
    simp only [parseHandles, hn, hwords, hlength, hlow, hhigh, decide_true, Bool.true_and]
    rw [if_pos (List.all_eq_true.mpr fun x hx => (isHandle_iff x).mpr (hall x hx))]

/-! ### The result of each handle (R106) -/

/-- The result of a handle on the table as it stands. -/
def beatOutcome (s : State) (b : Basis) (kept : Bool) (p : Port) (h : Nat) : BeatResult :=
  match s.findHandle h with
  | none => .notFound
  | some (_, e) => if e.owner ≠ p then .notOwner else if e.lines.any (lineLapsed b kept) then .lapsed else .renewed

/-- A checkout with its renewed flag set, where it is renewed. -/
def renewIf (on : Bool) (e : Checkout) : Checkout := if on then { e with renewed := true } else e

theorem renewIf_owner (on : Bool) (e : Checkout) : (renewIf on e).owner = e.owner := by cases on <;> rfl

theorem renewIf_lines (on : Bool) (e : Checkout) : (renewIf on e).lines = e.lines := by cases on <;> rfl

theorem renewIf_renewIf (a b : Bool) (e : Checkout) : renewIf b (renewIf a e) = renewIf (a || b) e := by
  cases a <;> cases b <;> rfl

/-- `u` is `s` with the renewed flag set in some slots' checkouts. -/
structure Renews (s u : State) (on : Nat → Bool) : Prop where
  checkouts : ∀ n, u.checkoutAt n = (s.checkoutAt n).map (renewIf (on n))
  generations : ∀ n, u.generationAt n = s.generationAt n
  rest : { u with grant := { u.grant with table := s.grant.table } } = s

theorem Renews.refl (s : State) : Renews s s fun _ => false :=
  ⟨fun n => by cases h : s.checkoutAt n <;> rfl, fun _ => rfl, rfl⟩

theorem Renews.trans {s u v : State} {f g : Nat → Bool} (h : Renews s u f) (k : Renews u v g) :
    Renews s v fun n => f n || g n := by
  refine ⟨fun n => ?_, fun n => (k.generations n).trans (h.generations n), ?_⟩
  · rw [k.checkouts, h.checkouts, Option.map_map]
    exact congrArg (fun f => (s.checkoutAt n).map f) (funext fun e => renewIf_renewIf (f n) (g n) e)
  · exact (congrArg (fun w : State => { w with grant := { w.grant with table := s.grant.table } }) k.rest).trans h.rest

/-- Renewing changes neither what a handle finds nor what decides its result. -/
theorem Renews.outcome {s u : State} {on : Nat → Bool} (h : Renews s u on) (b : Basis) (kept : Bool) (p : Port)
    (x : Nat) :
    beatOutcome u b kept p x = beatOutcome s b kept p x := by
  have hfind : u.findHandle x = (s.findHandle x).map fun y => (y.1, renewIf (on (x % 256)) y.2) := by
    unfold State.findHandle
    rw [h.checkouts, h.generations]
    cases s.checkoutAt (x % 256) with
    | none => rfl
    | some e => by_cases hg : s.generationAt (x % 256) = x / 256 <;> simp [hg]
  rw [beatOutcome, beatOutcome, hfind]
  cases s.findHandle x with
  | none => rfl
  | some y => simp only [Option.map_some, renewIf_owner, renewIf_lines]

theorem renews_setSlot {s : State} {n : Nat} {e : Checkout} (he : s.checkoutAt n = some e) :
    Renews s (s.setSlot n { generation := s.generationAt n, entry := some { e with renewed := true } })
      fun m => n == m := by
  obtain ⟨c, hc, -⟩ := checkoutAt_iff.mp he
  obtain ⟨hn, -⟩ := List.getElem?_eq_some_iff.mp hc
  obtain ⟨hentry, hgen, hothers⟩ := checkoutAt_eq_of_table
    (u := s.setSlot n { generation := s.generationAt n, entry := some { e with renewed := true } }) rfl hn
  refine ⟨fun m => ?_, fun m => ?_, rfl⟩
  · by_cases hm : m = n
    · subst hm
      rw [hentry, he, beq_self_eq_true]
      rfl
    · rw [State.checkoutAt, hothers m hm, beq_eq_false_iff_ne.mpr (Ne.symm hm)]
      exact ((Renews.refl s).checkouts m)
  · by_cases hm : m = n
    · rw [hm, hgen]
    · rw [State.generationAt, hothers m hm]
      rfl

/-- One handle judged: its result is that of the table, and a checkout that it renews is the only thing it changes. -/
theorem beat_renews (s : State) (b : Basis) (kept : Bool) (p : Port) (h : Nat) :
    (s.beat b kept p h).2 = beatOutcome s b kept p h ∧
    Renews s (s.beat b kept p h).1 fun n => h % 256 == n && beatOutcome s b kept p h == .renewed := by
  have hnone {result : BeatResult} (hr : (result == .renewed) = false) :
      Renews s s fun n => h % 256 == n && result == .renewed := by
    simpa only [hr, Bool.and_false] using Renews.refl s
  unfold State.beat beatOutcome
  cases hfind : s.findHandle h with
  | none => exact ⟨rfl, hnone rfl⟩
  | some y =>
    obtain ⟨n, e⟩ := y
    obtain ⟨hn, he, -⟩ := (findHandle_iff s h n e).mp hfind
    by_cases howner : e.owner ≠ p
    · simp only [if_pos howner]
      exact ⟨trivial, hnone rfl⟩
    · simp only [if_neg howner]
      by_cases hlapsed : e.lines.any (lineLapsed b kept) = true
      · simp only [if_pos hlapsed]
        exact ⟨trivial, hnone rfl⟩
      · simp only [if_neg hlapsed, beq_self_eq_true, Bool.and_true, ← hn]
        exact ⟨trivial, renews_setSlot he⟩

/-- The handles judged in order: each has the result of the table as it stood, and exactly the renewed ones' checkouts
change (R105, R106). -/
theorem beatAll_renews (b : Basis) (kept : Bool) (p : Port) (hs : List Nat) (s : State) :
    (s.beatAll b kept p hs).2 = hs.map (beatOutcome s b kept p) ∧
    Renews s (s.beatAll b kept p hs).1
      fun n => hs.any fun h => h % 256 == n && beatOutcome s b kept p h == .renewed := by
  induction hs generalizing s with
  | nil => exact ⟨rfl, Renews.refl s⟩
  | cons h hs ih =>
    obtain ⟨hresult, hone⟩ := beat_renews s b kept p h
    obtain ⟨hresults, hall⟩ := ih (s.beat b kept p h).1
    have hsame : beatOutcome (s.beat b kept p h).1 b kept p = beatOutcome s b kept p :=
      funext fun x => hone.outcome b kept p x
    simp only [hsame] at hresults hall
    simp only [List.any_cons]
    refine ⟨?_, hone.trans hall⟩
    rw [List.map_cons, ← hresult, ← hresults]
    rfl

/-! ### HEARTBEAT carried out -/

/-- Which lines refuse renewal (R106, R108). -/
theorem lineLapsed_iff {s : State} {r : Request} (hc : r.command = .heartbeat) (l : Line) :
    lineLapsed (s.basis r) r.under.isNone l = true ↔
      (r.under = none ∧ l.orphan = false ∧ s.cat.lineTerm l = some .lapsed) ∨
      (r.under ≠ none ∧ ∃ i, (s.basis r).catalogue.findCode l.code = some i ∧
        ((s.basis r).catalogue.slot i).term = some .lapsed) := by
  unfold lineLapsed
  cases hu : r.under with
  | none =>
    have hcat : (s.basis r).catalogue = s.cat := by simp [State.basis, hc, outlasts, hu, State.activeBasis]
    rw [hcat]
    simp
  | some b =>
    cases (s.basis r).catalogue.findCode l.code <;> simp

theorem heartbeatWork_serving {r : Request} {s : State} (h : (s.basis r).serving = true) :
    heartbeatWork r s = match parseHandles r.payload with
      | none => (s, .bare .badRequest)
      | some hs =>
        let x := s.beatAll (s.basis r) r.under.isNone r.port hs
        (x.1, .ok (b1 hs.length ++ x.2.flatMap (fun y => b1 y.code) ++
          b1 (x.2.filter fun y => y == .renewed).length ++ b1 s.time.mode.code ++ b2 s.time.length ++
          b2 s.time.windowTimer)) :=
  needsCatalogue_serving h

/-- Settles O28. -/
theorem heartbeatRenews : Obligations.HeartbeatRenews := by
  refine ⟨parseHandles_iff, ?_⟩
  rintro s r c lapsed hr hc rfl hserving hlapsed
  have hbase : (s.dropRequest .heartbeat r.port).basis r = s.basis r := dropRequest_basis ..
  have hwork := heartbeatWork_serving (s := s.dropRequest .heartbeat r.port) (by rw [hbase]; exact hserving)
  refine ⟨fun hp => serve_answers hr hc (by rw [hwork, hp]), ?_⟩
  rintro hs result hp rfl
  have hline : lapsed = lineLapsed (s.basis r) r.under.isNone := funext fun l => by
    rw [Bool.eq_iff_iff, hlapsed, lineLapsed_iff hc]
  subst hline
  rw [hp] at hwork
  obtain ⟨hresults, hrenews⟩ := beatAll_renews (s.basis r) r.under.isNone r.port hs (s.dropRequest .heartbeat r.port)
  refine ⟨_, (serve_gives hr hc hwork).trans ?_, hrenews.checkouts, hrenews.generations, hrenews.rest⟩
  rw [hbase, hresults, List.flatMap_map, ← List.countP_eq_length_filter, List.countP_map]
  rfl

end Sys2Proof.Machine.Units

end

section
/-! SUPPORT. What TIME ASSERT does to the clock and to what follows it (R15, R97 to R99, R102, R103; O33). -/

namespace Sys2Proof.Machine.Units

open Charges Links Checkouts Timekeeping

theorem needsTime_time {b : Basis} {s : State} {work : State × Reply} (h : b.privileges.time = true) :
    needsTime b s work = work := by
  simp [needsTime, h]

theorem timeAssertWork_time {r : Request} {s : State} (h : (s.basis r).privileges.time = true) :
    timeAssertWork r s = match parseNumber 4 r.payload with
      | none => (s, .bare .badRequest)
      | some v =>
        if v < s.time.clock then (s, { status := .timeHeld, payload := b4 s.time.clock })
        else
          (s.assertTime r.port v,
           .ok (b4 (min v (assertReach s.time.clock)) ++ b4 v ++ indication (decide (assertReach s.time.clock < v)))) :=
  needsTime_time h

theorem parseFour_iff (payload : List Byte) (n : Nat) :
    parseNumber 4 payload = some n ↔ n < 4294967296 ∧ payload = b4 n := by
  rw [parseNumber_iff, b4]
  norm_num

/-- The furthest value an assertion reaches, formed without wrapping (R98). -/
theorem assertReach_eq (clock : Nat) : assertReach clock = min 4294967295 (clock + 1440) := rfl

theorem assertTime_stays {s : State} {v : Nat} (h : min v (assertReach s.time.clock) = s.time.clock) (p : Port) :
    s.assertTime p v = s := if_pos h

theorem assertTime_moves {s : State} {v : Nat} (h : min v (assertReach s.time.clock) ≠ s.time.clock) (p : Port) :
    s.assertTime p v = (s.changeClock (min v (assertReach s.time.clock))).recordDroppable
      (RecordBody.plain .time p 0 v 0 (Quad.fill 0)) := if_neg h

theorem changeClock_journal (s : State) (n : Nat) : (s.changeClock n).journal = s.journal := by
  obtain ⟨-, e⟩ | ⟨-, u, hu, e, e'⟩ := s.changeClock_cases n
  · rw [e]
  · by_cases hd : n / 60 = s.time.clock / 60
    · rw [e hd, hu]
    · rw [e' hd, askSave_eq, hu]

/-- A change of the clock reaches the Timebase, the Catalogue, the store and the ports alone. -/
theorem changeClock_rest (s : State) (n : Nat) :
    { s.changeClock n with time := s.time, cat := s.cat, store := s.store, ports := s.ports } = s := by
  obtain ⟨-, e⟩ | ⟨-, u, hu, e, e'⟩ := s.changeClock_cases n
  · rw [e]
  · by_cases hd : n / 60 = s.time.clock / 60
    · rw [e hd, hu]
    · rw [e' hd, askSave_eq, hu]

/-- An assertion that moves the clock: what follows the clock, and the TIME record (R98, R102, R103). -/
theorem assertTime_effects {s : State} {v w : Nat} (hw : w = min v (min 4294967295 (s.time.clock + 1440)))
    (hmoves : s.time.clock < w) (p : Port) :
    (s.assertTime p v).time = { s.time with clock := w } ∧
    (s.assertTime p v).cat = { s.cat with slots := s.cat.slots.map fun sl =>
      { sl with term := sl.feature.map fun f => f.termAt w } } ∧
    (s.assertTime p v).ports = s.ports.map (fun (q : PortIf) => q.handAll (s.termsRaised w)) ∧
    (s.assertTime p v).journal = s.journal.writeDroppable w (RecordBody.plain .time p 0 v 0 (Quad.fill 0)) ∧
    (w / 60 = s.time.clock / 60 → (s.assertTime p v).store = s.store) ∧
    (w / 60 ≠ s.time.clock / 60 → s.store.write = .idle → (s.assertTime p v).store = { s.store with
      saveWaiting := false
      write := .saving { clock := w, meters := s.watches.map fun (x : Watch) => x.meter
                         sequence := s.journal.nextSeq } }) ∧
    (w / 60 ≠ s.time.clock / 60 → s.store.write ≠ .idle →
      (s.assertTime p v).store = { s.store with saveWaiting := true }) ∧
    { s.assertTime p v with time := s.time, cat := s.cat, journal := s.journal, store := s.store, ports := s.ports } =
      s := by
  have hreach : w = min v (assertReach s.time.clock) := by rw [assertReach_eq]; exact hw
  rw [assertTime_moves (by omega), ← hreach]
  obtain ⟨hports, hcat, hsame, hbegins, hwaits⟩ := changeClock_follows (s := s) (n := w) (by omega)
  refine ⟨changeClock_time s w, hcat, hports, ?_, hsame, hbegins, hwaits, ?_⟩
  · show (s.changeClock w).journal.writeDroppable (s.changeClock w).time.clock _ = _
    rw [changeClock_journal, changeClock_time]
  · exact (congrArg (fun u : State => { u with journal := s.journal }) (changeClock_rest s w))

/-- Settles O33. -/
theorem timeAssertMovesClock : Obligations.TimeAssertMovesClock := by
  refine ⟨parseFour_iff, fun s r hr hc htime => ?_⟩
  have hwork := timeAssertWork_time (s := s.dropRequest .timeAssert r.port) (r := r)
    (by rw [dropRequest_basis]; exact htime)
  refine ⟨fun hp => ?_, fun v hp hv => ?_, fun v hp hv hclock => ?_, fun v w hp hv hw hmoves => ?_⟩
  all_goals rw [hp] at hwork
  · exact serve_answers hr hc hwork
  · exact serve_answers hr hc (hwork.trans (if_pos hv))
  · have hstays : min v (assertReach s.time.clock) = s.time.clock := by rw [assertReach_eq]; omega
    have hwithin : decide (assertReach s.time.clock < v) = false := by
      rw [assertReach_eq, decide_eq_false_iff_not]; omega
    refine serve_answers hr hc (hwork.trans ((if_neg (Nat.not_lt.mpr hv.ge)).trans ?_))
    show ((s.dropRequest .timeAssert r.port).assertTime r.port v,
      Reply.ok (b4 (min v (assertReach s.time.clock)) ++ b4 v ++ indication (decide (assertReach s.time.clock < v)))) = _
    rw [assertTime_stays (s := s.dropRequest .timeAssert r.port) hstays, hstays, hwithin, hv]
    rfl
  · have hreach : min v (assertReach s.time.clock) = w := by rw [assertReach_eq]; exact hw.symm
    have hbeyond : (assertReach s.time.clock < v) = (w < v) := propext (by omega)
    have hreply : Reply.ok (b4 (min v (assertReach s.time.clock)) ++ b4 v ++
        indication (decide (assertReach s.time.clock < v))) =
        .ok (b4 w ++ b4 v ++ indication (decide (w < v))) := by simp only [hbeyond, hreach]
    exact ⟨_, (serve_gives hr hc (hwork.trans (if_neg (Nat.not_lt.mpr hv.le)))).trans
        (congrArg (fun reply => Host.Outcome.next (State.respond _ r reply)) hreply),
      assertTime_effects (s := s.dropRequest .timeAssert r.port) hw hmoves r.port⟩

end Sys2Proof.Machine.Units

end

section
/-! SUPPORT. How image records are read into the catalogue, and what the catalogue says of terms, privileges and locking
(R1 to R14, R18, R193; O45). -/

namespace Sys2Proof.Machine.Units

open Charges Images

/-! ### Records found (R145) -/

/-- The record of a kind and index is the first that has them. -/
theorem bodyAt_iff (rs : List ImageRecord) (kind index : Nat) (body : List Byte) : bodyAt rs kind index = some body ↔
    ∃ (n : Nat) (r : ImageRecord), rs[n]? = some r ∧ r.kind.toNat = kind ∧ field r.body 0 1 = index ∧ r.body = body ∧
      ∀ (m : Nat) (x : ImageRecord), m < n → rs[m]? = some x →
        ¬ (x.kind.toNat = kind ∧ field x.body 0 1 = index) := by
  simp only [bodyAt, Option.map_eq_some_iff, List.find?_eq_some_iff_getElem, ImageRecord.isKind, ImageRecord.index,
    Bool.and_eq_true, beq_iff_eq, Bool.not_eq_true', Bool.and_eq_false_iff, beq_eq_false_iff_ne]
  constructor
  · rintro ⟨r, ⟨⟨hkind, hindex⟩, n, hn, rfl, hfirst⟩, hbody⟩
    refine ⟨n, rs[n], List.getElem?_eq_getElem hn, hkind, hindex, hbody, fun m x hm hx => ?_⟩
    rw [List.getElem?_eq_getElem (hm.trans hn), Option.some.injEq] at hx
    subst hx
    rintro ⟨hk, hi⟩
    exact (hfirst m hm).elim (fun h => h hk) fun h => h hi
  · rintro ⟨n, r, hr, hkind, hindex, hbody, hfirst⟩
    obtain ⟨hn, rfl⟩ := List.getElem?_eq_some_iff.mp hr
    refine ⟨rs[n], ⟨⟨hkind, hindex⟩, n, hn, rfl, fun m hm => ?_⟩, hbody⟩
    exact not_and_or.mp (hfirst m _ hm (List.getElem?_eq_getElem (hm.trans hn)))

/-! ### The HEADER, CLASS and POOL records (R1, R3, R5, R7) -/

theorem headOf_header {r : ImageRecord} (h : r.kind = 1#8) (rest : List ImageRecord) :
    (headOf (r :: rest)).header = headerOf r.body := by
  have hkind : r.isKind kindHeader = true := by rw [ImageRecord.isKind, h]; rfl
  simp only [headOf, List.find?_cons, hkind, Option.map_some, Option.getD_some]

theorem windowSeconds_of_code {n : Nat} (h : n ≤ 5) : [15, 30, 60, 120, 300, 600][n]? = some (windowSeconds n) := by
  interval_cases n <;> rfl

theorem classMapEntry_strap : classMapEntry 0x80 = none := rfl

theorem classMapEntry_class (c : Class) : classMapEntry c.val = some c := by
  have hc : c.val ≠ 0x80 := by have := c.isLt; omega
  rw [classMapEntry, if_neg hc, Fin.ofNat_eq_cast, Fin.cast_val_eq_self]

/-- The fields of a HEADER body (R193). -/
theorem headerOf_reads (body : List Byte) :
    (headerOf body).issue = field body 0 4 ∧ (headerOf body).issueMinute = field body 4 4 ∧
    (field body 8 1 ≤ 5 → [15, 30, 60, 120, 300, 600][field body 8 1]? = some (headerOf body).windowLength) ∧
    ((headerOf body).windowMode = .strobe ↔ (field body 9 1).testBit 0 = true) ∧
    ((headerOf body).requestMode = .pulse ↔ (field body 9 1).testBit 1 = true) ∧
    (headerOf body).threshold = field body 10 1 ∧ (headerOf body).boundary = field body 11 1 ∧
    (headerOf body).batchLimit = field body 16 1 ∧
    ∀ p : Port, (field body (12 + p.val) 1 = 0x80 → (headerOf body).classMap.get p = none) ∧
      ∀ c : Class, field body (12 + p.val) 1 = c.val → (headerOf body).classMap.get p = some c := by
  refine ⟨rfl, rfl, windowSeconds_of_code, ?_, ?_, rfl, rfl, rfl, fun p => ?_⟩
  · cases h : (field body 9 1).testBit 0 <;> simp [headerOf, h]
  · cases h : (field body 9 1).testBit 1 <;> simp [headerOf, h]
  · simp only [headerOf, Quad.get_ofFn]
    exact ⟨fun h => by rw [h, classMapEntry_strap], fun c h => by rw [h, classMapEntry_class]⟩

theorem headOf_class {rs : List ImageRecord} {c : Class} {b : List Byte} (h : bodyAt rs 2 c.val = some b) :
    (headOf rs).classes.get c = privilegesOf b := by
  have h' : bodyAt rs kindClass c.val = some b := h
  simp only [headOf, Quad.get_ofFn, h', Option.getD_some]

theorem headOf_pool {rs : List ImageRecord} {k : Pool} {b : List Byte} (h : bodyAt rs 3 k.val = some b) :
    (headOf rs).pools.get k = poolRecOf b := by
  have h' : bodyAt rs kindPool k.val = some b := h
  simp only [headOf, Quad.get_ofFn, h', Option.getD_some]

/-! ### The slots and the bundles (R8, R12, R18) -/

section

variable (rs : List ImageRecord) (clock : Nat) (flags : Nat → SiteFlags)

theorem catalogueOf_slot_absent {i : Nat} (hi : i < 64) (h : bodyAt rs 4 i = none) :
    (catalogueOf rs clock flags).slot i = FeatureSlot.empty := by
  have h' : bodyAt rs kindFeature i = none := h
  have hi' : i < Config.featureSlots := hi
  simp [Catalogue.slot, catalogueOf, hi', h']

theorem catalogueOf_slot_present {i : Nat} {b : List Byte} (hi : i < 64) (h : bodyAt rs 4 i = some b) :
    (catalogueOf rs clock flags).slot i =
      { feature := some (featureOf b), site := flags (featureOf b).code
        term := some ((featureOf b).termAt clock) } := by
  have h' : bodyAt rs kindFeature i = some b := h
  have hi' : i < Config.featureSlots := hi
  simp [Catalogue.slot, catalogueOf, hi', h']

theorem catalogueOf_bundle {i : Nat} (hi : i < 32) :
    (catalogueOf rs clock flags).bundles[i]? = some ((bodyAt rs 5 i).map bundleOf) :=
  (holds_catalogueOf rs clock flags).2.2 i hi

end

/-- The fields of a FEATURE body (R193). -/
theorem featureOf_reads {b : List Byte} {k : Pool} (h : field b 3 1 = k.val) : featureOf b =
    { code := field b 1 2, pool := k, rate := field b 4 1
      scales := ⟨field b 5 1, field b 6 1, field b 7 1, field b 8 1⟩, maxQuantity := field b 9 1
      termStart := field b 10 4, termEnd := field b 14 4, grace := field b 18 2
      metered := (field b 20 1).testBit 0, overdraftOk := (field b 20 1).testBit 1
      queueable := (field b 20 1).testBit 2 } := by
  have hk : Fin.ofNat 4 (field b 3 1) = k := by rw [h, Fin.ofNat_eq_cast, Fin.cast_val_eq_self]
  rw [featureOf, hk]
  rfl

/-- The held lines of a BUNDLE body are those before the first 255 (R12). -/
theorem bundleLines_held {b : List Byte} {m : Nat} (hm : m ≤ 8) (hheld : ∀ j, j < m → field b (4 + 2 * j) 1 ≠ 255)
    (hend : m < 8 → field b (4 + 2 * m) 1 = 255) : bundleLines b =
      (List.range m).map fun j => { feature := field b (4 + 2 * j) 1, base := field b (5 + 2 * j) 1 } := by
  have hheldFirst : (bundlePositions b).takeWhile (fun x => x.1 != 255) =
      (List.range m).map fun j => (field b (4 + 2 * j) 1, field b (5 + 2 * j) 1) :=
    takeWhile_map_range (p := fun x : Nat × Nat => x.1 != 255) hm (fun j hj => bne_iff_ne.mpr (hheld j hj))
      fun hm => by simp only [hend hm]; rfl
  rw [bundleLines, hheldFirst, List.map_map]
  rfl

/-! ### Terms, privileges, locking (R3, R10, R14) -/

/-- The term states by the clock (R14). -/
theorem termAt_iff {f : Feature} (clock : Nat) (h : f.termStart < f.termEnd) :
    (f.termAt clock = .pending ↔ clock < f.termStart) ∧
    (f.termAt clock = .active ↔ f.termStart ≤ clock ∧ clock < f.termEnd) ∧
    (f.termAt clock = .grace ↔ f.termEnd ≤ clock ∧ clock < f.termEnd + f.grace) ∧
    (f.termAt clock = .lapsed ↔ f.termEnd + f.grace ≤ clock) := by
  unfold Feature.termAt
  by_cases hstart : clock < f.termStart
  · simp [hstart]; omega
  · by_cases hend : clock < f.termEnd
    · simp [hstart, hend]; omega
    · by_cases hgrace : clock < f.termEnd + f.grace
      · simp [hstart, hend, hgrace]; omega
      · simp [hstart, hend, hgrace]; omega

theorem privileges_noImage {b : Basis} (h : b.catalogue.head = none) :
    b.privileges = { admin := true, time := true } := by
  simp only [Basis.privileges, h]

theorem privileges_serving {b : Basis} {x : ImageHead} (h : b.catalogue.head = some x) :
    b.privileges = x.classes.get b.effClass := by
  simp only [Basis.privileges, h]

theorem locked_iff (c : Catalogue) (i : Nat) : c.locked i = true ↔ ∃ h, c.head = some h ∧ h.header.boundary ≤ i := by
  unfold Catalogue.locked
  cases c.head <;> simp

/-- Settles O45. -/
theorem catalogueReadsImage : Obligations.CatalogueReadsImage := by
  refine ⟨bodyAt_iff, ?_, fun rs c b h => (headOf_class h).trans rfl, fun rs k b h => (headOf_pool h).trans rfl, ?_,
    fun f clock => termAt_iff clock, fun b => ⟨privileges_noImage, fun h => privileges_serving⟩, locked_iff⟩
  · rintro r rest f h hkind hf rfl
    simp only [hf, headOf_header hkind rest]
    exact headerOf_reads r.body
  · rintro rs clock flags c rfl
    refine ⟨rfl, by simp [catalogueOf, Config.featureSlots], by simp [catalogueOf, Config.bundleSlots],
      fun i hi h => catalogueOf_slot_absent rs clock flags hi h, ?_, fun i hi h => ?_, ?_⟩
    · rintro i b k f hi h hk rfl
      rw [← featureOf_reads hk]
      exact catalogueOf_slot_present rs clock flags hi h
    · rw [catalogueOf_bundle rs clock flags hi, h, Option.map_none]
    · intro i m b hi h hm hheld hend
      rw [catalogueOf_bundle rs clock flags hi, h, Option.map_some, bundleOf, bundleLines_held hm hheld hend]

end Sys2Proof.Machine.Units

end

section
/-! SUPPORT. What POLICY STAGE and POLICY APPLY read, hold and answer (R10, R159 to R161, R193; O50). -/

namespace Sys2Proof.Machine.Units

open Charges Links

/-! ### The payload of POLICY APPLY (R160, R193) -/

/-- The byte of a mode (R193). -/
def modeByte : ApplyMode → Byte
  | .copy => 0#8
  | .merge => 1#8
  | .strip => 2#8

theorem length_b8 (n : Nat) : (b8 n).length = 8 := rfl

theorem field_b8 {n : Nat} (h : n < 2 ^ 64) (x : Byte) :
    field (b8 n ++ [x]) 0 8 = n ∧ field (b8 n ++ [x]) 8 1 = x.toNat := by
  constructor
  · rw [field, List.drop_zero, List.take_left' (length_b8 n)]
    exact (beNat_beBytes 8 n).trans (Nat.mod_eq_of_lt (h.trans_eq (by norm_num)))
  · rw [field, List.drop_left' (length_b8 n)]
    simp [beNat]

/-- Nine bytes are eight bytes of a number and one more. -/
theorem eq_b8_append {payload : List Byte} (h : payload.length = 9) :
    ∃ x : Byte, payload = b8 (field payload 0 8) ++ [x] ∧ field payload 8 1 = x.toNat ∧ field payload 0 8 < 2 ^ 64 := by
  obtain ⟨x, hx⟩ := List.length_eq_one_iff.mp (show (payload.drop 8).length = 1 by rw [List.length_drop, h])
  have hmask : b8 (field payload 0 8) = payload.take 8 := by
    have hbytes := beBytes_beNat (payload.take 8)
    rwa [List.length_take, h] at hbytes
  refine ⟨x, ?_, ?_, ?_⟩
  · rw [hmask, ← hx, List.take_append_drop]
  · rw [field, hx]
    simp [beNat]
  · have hlt := beNat_lt (payload.take 8)
    rw [List.length_take, h] at hlt
    exact hlt

theorem parseApply_iff (payload : List Byte) (mask : Nat) (m : ApplyMode) :
    parseApply payload = some (mask, m) ↔ mask < 2 ^ 64 ∧ payload = b8 mask ++ [modeByte m] := by
  constructor
  · intro h
    unfold parseApply at h
    split at h
    · rename_i hlength
      obtain ⟨x, hpayload, hx, hlt⟩ := eq_b8_append hlength
      have hmode {y : Byte} (hy : field payload 8 1 = y.toNat) : payload = b8 (field payload 0 8) ++ [y] := by
        rw [← BitVec.eq_of_toNat_eq (hx.symm.trans hy)]
        exact hpayload
      split at h
      · rename_i hn; cases h; exact ⟨hlt, hmode (y := 0#8) hn⟩
      · rename_i hn; cases h; exact ⟨hlt, hmode (y := 1#8) hn⟩
      · rename_i hn; cases h; exact ⟨hlt, hmode (y := 2#8) hn⟩
      · cases h
    · cases h
  · rintro ⟨hlt, rfl⟩
    obtain ⟨hmask, hx⟩ := field_b8 hlt (modeByte m)
    have hlength : (b8 mask ++ [modeByte m]).length = 9 := rfl
    rw [parseApply, if_pos hlength, hx, hmask]
    cases m <;> rfl

/-! ### POLICY STAGE (R159) -/

/-- The four flags of a byte, and the byte of the four flags (R193). -/
theorem ofByte_bits {n : Nat} (h : n < 16) : SiteFlags.bits
    { enabled := n.testBit 0, queue := n.testBit 1, watchMask := n.testBit 2, termNotice := n.testBit 3 } = n := by
  interval_cases n <;> decide

theorem parseStageFlags_byte {b : Byte} (h : b.toNat < 16) : parseStageFlags [b] = some
    { enabled := b.getLsbD 0, queue := b.getLsbD 1, watchMask := b.getLsbD 2, termNotice := b.getLsbD 3 } := if_pos h

theorem parseStageFlags_malformed {payload : List Byte} (h : ∀ b : Byte, payload = [b] → 16 ≤ b.toNat) :
    parseStageFlags payload = none := by
  unfold parseStageFlags
  split
  · exact if_neg (Nat.not_lt.mpr (h _ rfl))
  · rfl

/-! ### POLICY APPLY (R160, R161) -/

theorem maskOf_lt (f : Nat → Bool) : maskOf f < 2 ^ 64 :=
  (flagBits_lt _).trans_eq (by rw [List.length_map, List.length_range]; rfl)

theorem maskOf_testBit (f : Nat → Bool) {i : Nat} (h : i < 64) : (maskOf f).testBit i = f i := by
  have hi : i < Config.featureSlots := h
  rw [maskOf, Images.flagBits_testBit]
  simp [hi]

/-- A slot is skipped when it is empty or at or above B (R10, R160). -/
theorem skips_iff {c : Catalogue} {h : ImageHead} (hh : c.head = some h) (i : Nat) :
    c.skips i = true ↔ (c.feature i).isNone = true ∨ h.header.boundary ≤ i := by
  simp only [Catalogue.skips, Catalogue.locked, hh, Bool.or_eq_true, decide_eq_true_eq]

/-- The flags of a slot after an apply, where `f` gives the masked slots that are present and not locked the flags of the
mode and leaves every other (R160, R161). -/
theorem flagsAfter_eq {c : Catalogue} {h : ImageHead} (hh : c.head = some h) {mask : Nat} {m : ApplyMode}
    {staged : SiteFlags} {f : Nat → FeatureSlot → FeatureSlot}
    (hf : ∀ i sl, f i sl = if mask.testBit i = true ∧ sl.feature.isSome = true ∧ i < h.header.boundary then
      { sl with site := m.flags staged sl.site } else sl) (i : Nat) :
    { c.slot i with site := c.flagsAfter mask m staged i } = f i (c.slot i) := by
  have hskips : (mask.testBit i && !c.skips i) = true ↔
      mask.testBit i = true ∧ (c.slot i).feature.isSome = true ∧ i < h.header.boundary := by
    rw [Bool.and_eq_true, Bool.not_eq_true', Bool.eq_false_iff, Ne, skips_iff hh, not_or, Nat.not_le,
      Bool.not_eq_true, Option.isNone_eq_false_iff]
    rfl
  rw [hf, Catalogue.flagsAfter]
  simp only [hskips]
  split <;> rfl

/-- An apply changes every slot by `f`. -/
theorem applyFlags_eq {c : Catalogue} {mask : Nat} {m : ApplyMode} {staged : SiteFlags}
    {f : Nat → FeatureSlot → FeatureSlot}
    (hf : ∀ i, { c.slot i with site := c.flagsAfter mask m staged i } = f i (c.slot i)) :
    c.applyFlags mask m staged = { c with slots := c.slots.mapIdx f } := by
  have hslots : (c.slots.mapIdx fun i sl => { sl with site := c.flagsAfter mask m staged i }) = c.slots.mapIdx f := by
    refine List.ext_getElem (by simp) fun i hi _ => ?_
    have hlt : i < c.slots.length := by simpa using hi
    have hslot : c.slot i = c.slots[i] := by rw [Catalogue.slot, List.getD_eq_getElem _ _ hlt]
    rw [List.getElem_mapIdx, List.getElem_mapIdx, ← hslot, hf]
  exact congrArg (fun slots => { c with slots := slots }) hslots

theorem changedMask_testBit {c : Catalogue} {mask : Nat} {m : ApplyMode} {staged : SiteFlags}
    {f : Nat → FeatureSlot → FeatureSlot}
    (hf : ∀ i, { c.slot i with site := c.flagsAfter mask m staged i } = f i (c.slot i)) {i : Nat} (hi : i < 64) :
    (c.changedMask mask m staged).testBit i = true ↔ (f i (c.slot i)).site ≠ (c.slot i).site := by
  rw [Catalogue.changedMask, maskOf_testBit _ hi, ← hf, bne_iff_ne]

theorem skippedMask_testBit {c : Catalogue} {h : ImageHead} (hh : c.head = some h) (mask : Nat) {i : Nat}
    (hi : i < 64) :
    (c.skippedMask mask).testBit i = true ↔
      mask.testBit i = true ∧ ((c.feature i).isNone = true ∨ h.header.boundary ≤ i) := by
  rw [Catalogue.skippedMask, maskOf_testBit _ hi, Bool.and_eq_true, skips_iff hh]

theorem policyStageWork_passes {r : Request} {s : State} (hc : r.command = .policyStage) (hserving : s.serving = true)
    (hadmin : (s.basis r).privileges.admin = true) : policyStageWork r s =
    match parseStageFlags r.payload with
    | none => (s, .bare .badRequest)
    | some f => ({ s with policy := s.policy.set r.port f }, .ok (b1 f.bits)) :=
  policyCommand_passes (by rw [hc]; rfl) hserving hadmin

theorem policyApplyWork_passes {r : Request} {s : State} (hc : r.command = .policyApply) (hserving : s.serving = true)
    (hadmin : (s.basis r).privileges.admin = true) : policyApplyWork r s =
    match parseApply r.payload with
    | none => (s, .bare .badRequest)
    | some (mask, m) =>
      let staged := s.policy.get r.port
      (({ s with cat := s.cat.applyFlags mask m staged }).applyPass,
       .ok (b8 (s.cat.changedMask mask m staged) ++ b8 (s.cat.skippedMask mask) ++ b1 staged.bits)) :=
  policyCommand_passes (by rw [hc]; rfl) hserving hadmin

end Sys2Proof.Machine.Units

end

section
/-! SUPPORT. What POLICY APPLY's queue pass leaves behind a full table, and which of the entries there it removes (R74 to
R77, R162; O50). -/

namespace Sys2Proof.Machine.Units

open Charges Links WaitQueue

theorem recheckFails_congr {s u : State} (h : u.cat = s.cat) (e : WaitEntry) : u.recheckFails e = s.recheckFails e := by
  unfold State.recheckFails
  rw [h]

/-! ### The queue of distinct slots along a pass (R69) -/

/-- The removal of an entry leaves those of other slots. -/
theorem filter_leaves {done es : List WaitEntry} {e : WaitEntry}
    (hnodup : ((done ++ e :: es).map fun x => x.slot).Nodup) :
    ((done ++ e :: es).filter fun x => x.slot != e.slot) = done ++ es := by
  simp only [List.map_append, List.map_cons, List.nodup_append, List.nodup_cons, List.mem_map, List.mem_cons] at hnodup
  obtain ⟨-, ⟨hes, -⟩, hdone⟩ := hnodup
  rw [List.filter_append, List.filter_cons_of_neg (by simp)]
  congr 1
  · exact List.filter_eq_self.mpr fun x hx => bne_iff_ne.mpr (hdone x.slot ⟨x, hx, rfl⟩ _ (.inl rfl))
  · exact List.filter_eq_self.mpr fun x hx => bne_iff_ne.mpr fun he => hes ⟨x, hx, he⟩

/-- The marking of an entry leaves those of other slots. -/
theorem map_marks {done es : List WaitEntry} {e : WaitEntry} (f : WaitEntry → WaitEntry)
    (hnodup : ((done ++ e :: es).map fun x => x.slot).Nodup) :
    ((done ++ e :: es).map fun x => if x.slot = e.slot then f x else x) = (done ++ [f e]) ++ es := by
  simp only [List.map_append, List.map_cons, List.nodup_append, List.nodup_cons, List.mem_map, List.mem_cons] at hnodup
  obtain ⟨-, ⟨hes, -⟩, hdone⟩ := hnodup
  rw [List.map_append, map_marked_cons (fun x hx he => hes ⟨x, hx, he⟩),
    List.map_congr_left fun x hx => if_neg (hdone x.slot ⟨x, hx, rfl⟩ _ (.inl rfl)), List.map_id',
    List.append_assoc]
  rfl

theorem nodup_without {done es : List WaitEntry} {e : WaitEntry}
    (hnodup : ((done ++ e :: es).map fun x => x.slot).Nodup) : ((done ++ es).map fun x => x.slot).Nodup :=
  hnodup.sublist (((List.sublist_cons_self e es).append_left done).map _)

theorem nodup_marked {done es : List WaitEntry} {e e' : WaitEntry} (he : e'.slot = e.slot)
    (hnodup : ((done ++ e :: es).map fun x => x.slot).Nodup) : (((done ++ [e']) ++ es).map fun x => x.slot).Nodup := by
  simpa [he] using hnodup

/-! ### Entries excused by an older one (R74, R162) -/

/-- An older entry with its blocking flag set needs a pool that the entry needs. -/
def BlockedBy (older : List WaitEntry) (e : WaitEntry) : Prop :=
  ∃ x ∈ older, x.blocking = true ∧ ∃ k, 1 ≤ x.charges.get k ∧ 1 ≤ e.charges.get k

/-- Every entry that a condition names has an older one that blocks one of its pools. -/
def Excused (fails : WaitEntry → Bool) (queue : List WaitEntry) : Prop :=
  ∀ older younger e, queue = older ++ e :: younger → fails e = true → BlockedBy older e

/-- Every pool of the blocked set is needed by an entry with its blocking flag set (R75). -/
def Covers (queue : List WaitEntry) (blocked : Quad Bool) : Prop :=
  ∀ k, blocked.get k = true → ∃ x ∈ queue, x.blocking = true ∧ 1 ≤ x.charges.get k

theorem BlockedBy.mono {older more : List WaitEntry} {e : WaitEntry} (h : BlockedBy older e) (hsub : older ⊆ more) :
    BlockedBy more e := by
  obtain ⟨x, hx, h⟩ := h
  exact ⟨x, hsub hx, h⟩

theorem Covers.mono {queue more : List WaitEntry} {b : Quad Bool} (h : Covers queue b) (hsub : queue ⊆ more) :
    Covers more b := fun k hk => by
  obtain ⟨x, hx, h⟩ := h k hk
  exact ⟨x, hsub hx, h⟩

/-- An entry that the blocked set stops has an older one that blocks one of its pools. -/
theorem Covers.blockedBy {queue : List WaitEntry} {b : Quad Bool} {e : WaitEntry} (h : Covers queue b)
    (he : anyBlocked b e.charges = true) : BlockedBy queue e := by
  obtain ⟨k, hk, hc⟩ := (anyBlocked_iff b e.charges).mp he
  obtain ⟨x, hx, hblocking, hx'⟩ := h k hk
  exact ⟨x, hx, hblocking, k, hx', hc⟩

/-- The blocked set grows by the pools of an entry whose blocking flag is set (R75). -/
theorem Covers.blockAll {queue : List WaitEntry} {b : Quad Bool} {e : WaitEntry} (h : Covers queue b)
    (he : e.blocking = true) : Covers (queue ++ [e]) (Machine.blockAll b e.charges) := fun k hk => by
  rcases (blockAll_get b e.charges k).mp hk with hk | hk
  · exact h.mono (List.subset_append_left _ _) k hk
  · exact ⟨e, by simp, he, hk⟩

theorem Excused.append {fails : WaitEntry → Bool} {done rest : List WaitEntry} (h : Excused fails done)
    (hrest : ∀ e ∈ rest, fails e = true → BlockedBy done e) : Excused fails (done ++ rest) := by
  intro older younger e he hfails
  rcases List.append_eq_append_iff.mp he with ⟨mid, rfl, hmid⟩ | ⟨mid, hdone, hmid⟩
  · exact (hrest e (by rw [hmid]; simp) hfails).mono (List.subset_append_left _ _)
  · cases mid with
    | nil =>
      rw [List.append_nil] at hdone
      subst hdone
      exact hrest e (by rw [show rest = e :: younger from hmid.symm]; simp) hfails
    | cons x xs =>
      obtain ⟨rfl, -⟩ := List.cons.inj hmid
      exact h older xs _ hdone hfails

theorem Excused.snoc {fails : WaitEntry → Bool} {done : List WaitEntry} {e : WaitEntry} (h : Excused fails done)
    (he : fails e = true → BlockedBy done e) : Excused fails (done ++ [e]) :=
  h.append fun x hx => by rw [List.mem_singleton.mp hx]; exact he

/-! ### How a pass ends (R74, R77) -/

/-- A pass over the entries behind `done` ends with the entries it did not visit as they were, behind entries that are
excused where their re-check fails. -/
theorem passOver_excuses (fails : WaitEntry → Bool) (es : List WaitEntry) (done : List WaitEntry) (s : State)
    (b : Quad Bool) (hfails : ∀ e, s.recheckFails e = fails e)
    (hkeep : ∀ (e : WaitEntry) (b : Bool) (r : QueueReason), fails { e with blocking := b, last := r } = fails e)
    (hqueue : s.grant.queue = done ++ es) (hnodup : (s.grant.queue.map fun x => x.slot).Nodup)
    (hcovers : Covers done b) (hexcused : Excused fails done) :
    ∃ visited, (s.passOver b es).state.grant.queue = visited ++ (s.passOver b es).unvisited ∧
      Covers visited (s.passOver b es).blocked ∧ Excused fails visited := by
  induction es generalizing done s b with
  | nil => exact ⟨done, hqueue, hcovers, hexcused⟩
  | cons e es ih =>
    rw [hqueue] at hnodup
    have hskip (hb : fails e = true → BlockedBy done e) : ∃ visited,
        (s.passOver b es).state.grant.queue = visited ++ (s.passOver b es).unvisited ∧
        Covers visited (s.passOver b es).blocked ∧ Excused fails visited :=
      ih (done ++ [e]) s b hfails (by rw [hqueue]; simp) (by rw [hqueue]; exact hnodup)
        (hcovers.mono (List.subset_append_left _ _)) (hexcused.snoc hb)
    have hleave {u : State} (hcat : u.cat = s.cat)
        (hu : u.grant.queue = s.grant.queue.filter fun x => x.slot != e.slot) : ∃ visited,
        (u.passOver b es).state.grant.queue = visited ++ (u.passOver b es).unvisited ∧
        Covers visited (u.passOver b es).blocked ∧ Excused fails visited := by
      rw [hqueue, filter_leaves hnodup] at hu
      exact ih done u b (fun x => (recheckFails_congr hcat x).trans (hfails x)) hu
        (by rw [hu]; exact nodup_without hnodup) hcovers hexcused
    have hmark (f : WaitEntry → WaitEntry) : (s.updateEntry e.slot f).grant.queue = (done ++ [f e]) ++ es := by
      rw [updateEntry_queue, hqueue, map_marks f hnodup]
    cases hb : anyBlocked b e.charges with
    | true => rw [passOver_skips hb]; exact hskip fun _ => hcovers.blockedBy hb
    | false =>
      cases hf : s.recheckFails e with
      | true => rw [passOver_fails hb hf]; exact hleave (by simp) (endWait_queue s _ e)
      | false =>
        have hnot : ¬ fails e = true := by rw [← hfails, hf]; exact Bool.false_ne_true
        cases hr : s.entryFailure e with
        | some r =>
          rw [passOver_keeps hb hf hr]
          refine ih (done ++ [_]) _ _ hfails (hmark _) (by rw [hmark]; exact nodup_marked (by rfl) hnodup) ?_
            (hexcused.snoc fun he => absurd ((hkeep e _ _).symm.trans he) hnot)
          by_cases hcap : r.reason = .shareCap
          · rw [if_pos hcap]
            exact hcovers.mono (List.subset_append_left _ _)
          · rw [if_neg hcap]
            exact hcovers.blockAll (e := { e with blocking := decide (r.reason ≠ .shareCap), last := r })
              (decide_eq_true hcap)
        | none =>
          cases hn : s.freeSlot with
          | none =>
            rw [passOver_full hb hf hr hn]
            exact ⟨_, hmark _, hcovers.mono (List.subset_append_left _ _),
              hexcused.snoc fun he => absurd ((hkeep e _ _).symm.trans he) hnot⟩
          | some n =>
            rw [passOver_fits hb hf hr hn]
            split
            · exact hskip fun he => absurd he hnot
            · exact hleave (by simp) (grantWaiting_queue s n e)

/-- A pass leaves entries unvisited only at a full table (R77). -/
theorem passOver_unvisited (es : List WaitEntry) (s : State) (b : Quad Bool) :
    (s.passOver b es).unvisited = [] ∨ (s.passOver b es).state.freeSlot = none := by
  induction es generalizing s b with
  | nil => exact .inl rfl
  | cons e es ih =>
    cases hb : anyBlocked b e.charges with
    | true => rw [passOver_skips hb]; exact ih s b
    | false =>
      cases hf : s.recheckFails e with
      | true => rw [passOver_fails hb hf]; exact ih _ b
      | false =>
        cases hr : s.entryFailure e with
        | some r => rw [passOver_keeps hb hf hr]; exact ih _ _
        | none =>
          cases hn : s.freeSlot with
          | none => rw [passOver_full hb hf hr hn]; exact .inr hn
          | some n =>
            rw [passOver_fits hb hf hr hn]
            split <;> exact ih _ b

theorem queuePass_excuses {s : State} (hnodup : (s.grant.queue.map fun x => x.slot).Nodup) :
    ∃ visited, s.queuePass.grant.queue = visited ++ s.pass.unvisited ∧ Covers visited s.pass.blocked ∧
      Excused s.recheckFails visited :=
  passOver_excuses s.recheckFails s.grant.queue [] s (Quad.fill false) (fun _ => rfl) (fun _ _ _ => rfl) rfl
    hnodup
    (fun k hk => absurd hk (by simp)) fun older younger e he => absurd he (by simp)

/-! ### The entries removed behind a full table (R162) -/

theorem endWaits_queue (c : Option WaitCause) (es : List WaitEntry) (s : State) :
    (s.endWaits c es).grant.queue = s.grant.queue.filter fun x => !es.any fun e => e.slot == x.slot := by
  induction es generalizing s with
  | nil => simp [State.endWaits]
  | cons e es ih =>
    refine (ih (s.endWait c e)).trans ?_
    rw [endWait_queue, List.filter_filter]
    refine List.filter_congr fun x _ => ?_
    rw [List.any_cons, Bool.not_or, Bool.and_comm, Bool.beq_comm (a := e.slot)]
    rfl

theorem queuePass_gensLength (s : State) : s.queuePass.grant.waitGens.length = s.grant.waitGens.length :=
  State.queuePass_induct (P := fun t => t.grant.waitGens.length = s.grant.waitGens.length)
    (fun t e _ ht => by rw [(endWait_frame t _ e).1, List.length_set, ht]) (fun _ _ _ _ ht => ht)
    (fun t n e _ _ _ _ ht => by rw [grantWaiting_grant_eq, List.length_set, ht]) s rfl

/-- What a POLICY APPLY removes after its pass: entries of the queue as the pass left it, whose re-check fails, and none
where a slot of the checkout table is FREE. -/
theorem failing_of_pass {s : State} (hnodup : (s.grant.queue.map fun x => x.slot).Nodup) :
    s.pass.failing.Sublist s.queuePass.grant.queue ∧ (∀ e ∈ s.pass.failing, s.recheckFails e = true) ∧
    (s.queuePass.freeSlot ≠ none → s.pass.failing = []) := by
  obtain ⟨visited, hqueue, -⟩ := queuePass_excuses hnodup
  refine ⟨List.filter_sublist.trans (hqueue ▸ List.sublist_append_right _ _), fun e he => ?_, fun hfree => ?_⟩
  · have hfails := (List.mem_filter.mp he).2
    rw [Bool.and_eq_true, recheckFails_congr (u := s.pass.state) s.queuePass_cat] at hfails
    exact hfails.2
  · obtain hnone | hfull := passOver_unvisited s.grant.queue s (Quad.fill false)
    · rw [PassResult.failing, show s.pass.unvisited = [] from hnone]
      rfl
    · exact absurd hfull hfree

/-- Where each entry has a slot of its own, those of a part of the queue are known by their slots (R69). -/
theorem any_slot_iff {queue gone : List WaitEntry} (hnodup : (queue.map fun x => x.slot).Nodup)
    (hsub : gone.Sublist queue) {x : WaitEntry} (hx : x ∈ queue) :
    (!gone.any fun e => e.slot == x.slot) = decide (x ∉ gone) := by
  rw [Bool.eq_iff_iff, Bool.not_eq_true', decide_eq_true_eq, List.any_eq_false]
  simp only [beq_iff_eq]
  exact ⟨fun h hmem => h x hmem rfl, fun h e he hs =>
    h (List.inj_on_of_nodup_map hnodup (hsub.subset he) hx hs ▸ he)⟩

/-- The effects of the removals behind a full table (R79, R162). -/
theorem applyPass_effects {s : State} (hbounded : s.QueueBounded) :
    Ended s.queuePass s.pass.failing (s.queuePass.endWaits none s.pass.failing) ∧
    s.applyPass = { s.queuePass.endWaits none s.pass.failing with
      ports := handWaits s.queuePass .failed s.pass.failing } := by
  obtain ⟨hnodup, hslots, hlength, -⟩ := hbounded
  obtain ⟨hsub, -⟩ := failing_of_pass hnodup
  have hgone : (s.pass.failing.map fun x => x.slot).Nodup :=
    (hnodup.sublist (queuePass_slots s)).sublist (hsub.map _)
  have hin : ∀ e ∈ s.pass.failing, e.slot < s.queuePass.grant.waitGens.length := fun e he => by
    obtain ⟨x, hx, hxe⟩ := queuePass_entries s e (hsub.subset he)
    rw [hxe, queuePass_gensLength, hlength]
    exact hslots x hx
  exact ⟨ended_endWaits _ _ hgone hin, endWaits_some _ _ _ hgone hin⟩

/-- An entry whose re-check fails stays only behind an older one that blocks one of its pools (R162). -/
theorem applyPass_excuses {s : State} (hnodup : (s.grant.queue.map fun x => x.slot).Nodup) :
    Excused s.recheckFails s.applyPass.grant.queue := by
  obtain ⟨visited, hqueue, hcovers, hexcused⟩ := queuePass_excuses hnodup
  have hslots := hnodup.sublist (queuePass_slots s)
  have hrest : s.applyPass.grant.queue = visited ++ s.pass.unvisited.filter fun e =>
      !(!anyBlocked s.pass.blocked e.charges && s.pass.state.recheckFails e) := by
    rw [State.applyPass, endWaits_queue, hqueue, List.filter_append]
    rw [hqueue, List.map_append, List.nodup_append] at hslots
    obtain ⟨-, hunvisited, hapart⟩ := hslots
    congr 1
    · refine List.filter_eq_self.mpr fun x hx => ?_
      rw [Bool.not_eq_true', List.any_eq_false]
      intro e he hs
      exact hapart x.slot (List.mem_map.mpr ⟨x, hx, rfl⟩) e.slot
        (List.mem_map.mpr ⟨e, List.mem_of_mem_filter he, rfl⟩) (beq_iff_eq.mp hs).symm
    · exact filter_of_slots hunvisited _
  rw [hrest]
  refine hexcused.append fun e he hfails => hcovers.blockedBy ?_
  have hkept := (List.mem_filter.mp he).2
  rw [recheckFails_congr (u := s.pass.state) s.queuePass_cat, hfails] at hkept
  simpa using hkept

/-- Settles O50. -/
theorem policyAppliesByMode : Obligations.PolicyAppliesByMode := by
  refine ⟨fun payload mask m => by cases m <;> exact parseApply_iff payload mask _, ?_,
    fun s older younger e hnodup hqueue hfails => applyPass_excuses hnodup older younger e hqueue hfails, ?_⟩
  · rintro s u hbounded rfl
    obtain ⟨hended, happly⟩ := applyPass_effects hbounded
    obtain ⟨hsub, hfails, hfree⟩ := failing_of_pass hbounded.1
    have hslots := hbounded.1.sublist (queuePass_slots s)
    have htime : s.queuePass.time = s.time := by
      have := congrArg State.time (queuePass_frame s)
      exact this
    refine ⟨s.pass.failing, hsub, hfails, hfree, ?_, ?_, ?_, fun n => ?_, ?_, ?_, ?_⟩
    all_goals rw [happly]
    · exact hended.queue.trans (List.filter_congr fun x hx => any_slot_iff hslots hsub hx)
    · exact hended.table
    · exact hended.pools
    · exact hended.waitGeneration n
    · rfl
    · rw [← htime]
      exact hended.journal
    · refine Eq.trans (congrArg (fun w : State =>
        { w with grant := s.grant, journal := s.journal, ports := s.ports }) hended.frame) (queuePass_frame s)
  · intro s r h hr hh hadmin
    have hserving : s.serving = true := by rw [State.serving, Catalogue.serving, hh]; rfl
    refine ⟨fun hc => ?_, fun hc => ?_⟩
    · have hwork := policyStageWork_passes (s := s.dropRequest .policyStage r.port) hc hserving
        (by rw [dropRequest_basis]; exact hadmin)
      refine ⟨fun b hp hb => serve_gives hr hc ?_, fun hb => serve_answers hr hc ?_⟩
      · have hbyte : b1 b.toNat = [b] := b1_toNat b
        rw [hwork, hp, parseStageFlags_byte hb, ← hbyte, ← ofByte_bits hb]
        rfl
      · rw [hwork, parseStageFlags_malformed hb]
    · have hwork := policyApplyWork_passes (s := s.dropRequest .policyApply r.port) hc hserving
        (by rw [dropRequest_basis]; exact hadmin)
      refine ⟨fun hp => serve_answers hr hc (by rw [hwork, hp]), fun mask m f hp hf => ?_⟩
      have hslot := flagsAfter_eq hh (mask := mask) (m := m) (staged := s.policy.get r.port) (f := f)
        fun i sl => by rw [hf]; cases m <;> rfl
      refine ⟨s.cat.changedMask mask m (s.policy.get r.port), s.cat.skippedMask mask, serve_gives hr hc ?_,
        maskOf_lt _, maskOf_lt _, fun i hi _ => ⟨changedMask_testBit hslot hi, skippedMask_testBit hh mask hi⟩⟩
      rw [hwork, hp, ← applyFlags_eq hslot]
      rfl

end Sys2Proof.Machine.Units

end

section
/-! SUPPORT. What is done before the completion of an activation: the requests to be finished and the window ends still
to be taken (R90, R152, R169; O48). -/

namespace Sys2Proof.Machine.Units

open Charges Links WaitQueue

theorem exec_imageWriteComplete {s : State} (ahead : Quad Nat) (hrun : s.running = true)
    (hwrite : s.store.write = .imageWrite) :
    exec (.imageWriteComplete ahead) s = .next (s.completeActivation ahead) := by
  have hpowered : s.powered = true := by simp only [State.running, Bool.and_eq_true] at hrun; exact hrun.1
  show Host.Outcome.next _ = _
  rw [hpowered, hwrite]
  simp only [hrun, if_true]

theorem mem_of_outlasts {c : Command} (h : outlasts c = true) : c ∈ outlastingCommands := by
  cases c
  case checkout | heartbeat | readNotice | setNotice => decide
  all_goals cases h

/-- A request that does not outlast the completion and stands before the others that do not is finished first, as its own
row finishes it (R152, R169). -/
theorem completes_after_request {s u : State} (ahead : Quad Nat) {older younger : List Request} {r : Request}
    (hrun : s.running = true) (hwrite : s.store.write = .imageWrite) (hr : s.requests = older ++ r :: younger)
    (hc : r.command ∉ outlastingCommands) (ho : ∀ x ∈ older, x.command ∈ outlastingCommands)
    (hu : exec (commandRow r.command r.port) s = .next u) :
    exec (.imageWriteComplete ahead) s = exec (.imageWriteComplete ahead) u := by
  have hdue {x : Request} (hx : x.isFor r.command r.port = true) : outlasts x.command = false := by
    simp only [Request.isFor, Bool.and_eq_true, beq_iff_eq] at hx
    rw [Bool.eq_false_iff, hx.1]
    exact fun h => hc (mem_of_outlasts h)
  have hold : ∀ x ∈ older, outlasts x.command = true := fun x hx => outlasts_of_mem (ho x hx)
  have hnext := nextRequest_of_oldest hr fun x hx => Bool.eq_false_iff.mpr fun hf =>
    Bool.false_ne_true ((hdue hf).symm.trans (hold x hx))
  rw [exec_commandRow, serve_eq _ _ _ _ r hrun hnext] at hu
  obtain rfl : s.carryOut r.command r.port r (workOf r.command) = u := Host.Outcome.next.inj hu
  have hsame := s.carryOut_sameRun r.command r.port r
  have hrun' : (s.carryOut r.command r.port r (workOf r.command)).running = true := by
    rw [State.running, hsame.powered, hsame.resetPin]
    exact hrun
  have hfinish : s.finishTaken = (s.carryOut r.command r.port r (workOf r.command)).finishTaken :=
    s.finish_oldest _ older younger r hr (fun x hx => by rw [hold x hx]; rfl) fun x hx => by rw [hdue hx]; rfl
  rw [exec_imageWriteComplete ahead hrun hwrite, exec_imageWriteComplete ahead hrun' (hsame.imageWrite hwrite),
    State.completeActivation, State.completeActivation, hfinish]

/-! ### Window ends taken (R90) -/

/-- `u` has the supply, the RESET input, the requests and the store of `s`, and the window ends `d` still to be taken. -/
structure Takes (s u : State) (d : WindowEnds) : Prop where
  powered : u.powered = s.powered
  resetPin : u.resetPin = s.resetPin
  requests : u.requests = s.requests
  store : u.store = s.store
  due : u.due = d

theorem Takes.running {s u : State} {d : WindowEnds} (h : Takes s u d) : u.running = s.running := by
  rw [State.running, h.powered, h.resetPin]
  rfl

theorem sweepTakes_takes (s : State) : Takes s s.sweepTakes { s.due with sweep := s.due.sweep - 1 } := by
  unfold State.sweepTakes State.startWalk
  dsimp only
  split
  · split <;> exact ⟨rfl, rfl, rfl, rfl, rfl⟩
  · exact ⟨rfl, rfl, rfl, rfl, rfl⟩

theorem enterShort_takes (s : State) (k : Pool) (w : Watch) (allowance : Nat) :
    Takes s (s.enterShort k w allowance) s.due := by
  unfold State.enterShort
  dsimp only
  split
  · exact ⟨by simp, by simp, by simp, by simp, by simp⟩
  · exact ⟨rfl, rfl, rfl, rfl, rfl⟩

theorem enterClear_takes (s : State) (k : Pool) (w : Watch) : Takes s (s.enterClear k w) s.due := by
  unfold State.enterClear
  dsimp only
  split <;> exact ⟨rfl, rfl, rfl, rfl, rfl⟩

theorem watchWork_takes (s : State) (k : Pool) (q : PoolRec) : Takes s (s.watchWork k q) s.due := by
  unfold State.watchWork
  dsimp only
  split
  · exact enterShort_takes s k _ _
  · exact enterClear_takes s k _
  all_goals exact ⟨rfl, rfl, rfl, rfl, rfl⟩

theorem watchTakes_takes (s : State) (k : Pool) :
    Takes s (s.watchTakes k) { s.due with demand := s.due.demand.modify k (· - 1) } := by
  unfold State.watchTakes
  dsimp only
  split
  · exact ⟨rfl, rfl, rfl, rfl, rfl⟩
  · obtain ⟨hpowered, hpin, hrequests, hstore, hdue⟩ :=
      watchWork_takes (s.withDue { s.due with demand := s.due.demand.modify k (· - 1) }) k ‹PoolRec›
    exact ⟨hpowered, hpin, hrequests, hstore, hdue⟩

theorem grantTakes_takes (s : State) : Takes s s.grantTakes { s.due with grant := s.due.grant - 1 } := by
  unfold State.grantTakes State.grantWork
  exact ⟨by simp, by simp, by simp, by simp, by simp⟩

theorem portTakes_takes (s : State) (p : Port) (first : List Pool) :
    Takes s (s.portTakes p first) { s.due with port := s.due.port.modify p (· - 1) } := ⟨rfl, rfl, rfl, rfl, rfl⟩

/-! ### The receivers in order (R90, log 32) -/

/-- What a receiver does with the window ends of its own that are still to be taken. -/
def drain (takes : State → State) (count : WindowEnds → Nat) (s : State) : State := takes^[count s.due] s

theorem drain_none {takes : State → State} {count : WindowEnds → Nat} {s : State} (h : count s.due = 0) :
    drain takes count s = s := by rw [drain, h]; rfl

/-- A receiver that has one to take takes it first. -/
theorem drain_one {takes : State → State} {count : WindowEnds → Nat} {s : State} (h : 0 < count s.due)
    (hcount : count (takes s).due = count s.due - 1) : drain takes count s = drain takes count (takes s) := by
  obtain ⟨n, hn⟩ : ∃ n, count s.due = n + 1 := ⟨count s.due - 1, by omega⟩
  rw [drain, drain, hcount, hn, Nat.add_sub_cancel, Function.iterate_succ_apply]

/-- The receivers of the four pools, or the four ports, one after another in index order. -/
def drainFour (takes : Fin 4 → State → State) (count : Fin 4 → WindowEnds → Nat) (s : State) : State :=
  fours.foldl (fun s k => drain (takes k) (count k) s) s

theorem drainFour_eq (takes : Fin 4 → State → State) (count : Fin 4 → WindowEnds → Nat) (s : State) :
    drainFour takes count s = drain (takes 3) (count 3) (drain (takes 2) (count 2) (drain (takes 1) (count 1)
      (drain (takes 0) (count 0) s))) := rfl

theorem drainFour_none {takes : Fin 4 → State → State} {count : Fin 4 → WindowEnds → Nat} {s : State}
    (h : ∀ k, count k s.due = 0) : drainFour takes count s = s := by
  simp only [drainFour_eq, drain_none, h]

/-- The first receiver that has one to take takes it first. -/
theorem drainFour_one {takes : Fin 4 → State → State} {count : Fin 4 → WindowEnds → Nat} {s : State} {k : Fin 4}
    (h : 0 < count k s.due) (hbefore : ∀ j, j < k → count j s.due = 0)
    (hcount : ∀ j, count j (takes k s).due = if j = k then count j s.due - 1 else count j s.due) :
    drainFour takes count s = drainFour takes count (takes k s) := by
  have hone : drain (takes k) (count k) s = drain (takes k) (count k) (takes k s) :=
    drain_one h ((hcount k).trans (if_pos rfl))
  have hs (j : Fin 4) (hj : j < k) : drain (takes j) (count j) s = s := drain_none (hbefore j hj)
  have hu (j : Fin 4) (hj : j < k) : drain (takes j) (count j) (takes k s) = takes k s :=
    drain_none (((hcount j).trans (if_neg hj.ne)).trans (hbefore j hj))
  rw [drainFour_eq, drainFour_eq]
  match k with
  | 0 => rw [hone]
  | 1 => rw [hs 0 (by decide), hu 0 (by decide), hone]
  | 2 => rw [hs 0 (by decide), hs 1 (by decide), hu 0 (by decide), hu 1 (by decide), hone]
  | 3 =>
    rw [hs 0 (by decide), hs 1 (by decide), hs 2 (by decide), hu 0 (by decide), hu 1 (by decide), hu 2 (by decide),
      hone]

def drainSweep : State → State := drain State.sweepTakes fun d => d.sweep

def drainDemand : State → State := drainFour (fun k s => s.watchTakes k) fun k d => d.demand.get k

def drainGrant : State → State := drain State.grantTakes fun d => d.grant

def drainPort : State → State := drainFour (fun p s => s.portTakes p []) fun p d => d.port.get p

/-- The receivers of a completion: the Sweep Unit, the Demand Watch units, the Grant Engine, the Port Interfaces. -/
theorem takeDue_eq (s : State) : s.takeDue = drainPort (drainGrant (drainDemand (drainSweep s))) := rfl

theorem drainSweep_none {s : State} (h : s.due.sweep = 0) : drainSweep s = s := drain_none h

theorem drainDemand_none {s : State} (h : ∀ k, s.due.demand.get k = 0) : drainDemand s = s := drainFour_none h

theorem drainGrant_none {s : State} (h : s.due.grant = 0) : drainGrant s = s := drain_none h

theorem takeDue_sweep {s : State} (h : 0 < s.due.sweep) : s.takeDue = s.sweepTakes.takeDue := by
  have hone : drainSweep s = drainSweep s.sweepTakes := drain_one h (by rw [(sweepTakes_takes s).due])
  rw [takeDue_eq, takeDue_eq, hone]

theorem takeDue_demand {s : State} {k : Pool} (hsweep : s.due.sweep = 0) (h : 0 < s.due.demand.get k)
    (hbefore : ∀ j, j < k → s.due.demand.get j = 0) : s.takeDue = (s.watchTakes k).takeDue := by
  have hdue := (watchTakes_takes s k).due
  have hone : drainDemand s = drainDemand (s.watchTakes k) :=
    drainFour_one h hbefore fun j => by rw [hdue]; exact Quad.get_modify ..
  rw [takeDue_eq, takeDue_eq, drainSweep_none hsweep,
    drainSweep_none (s := s.watchTakes k) (by rw [hdue]; exact hsweep), hone]

theorem takeDue_grant {s : State} (hsweep : s.due.sweep = 0) (hdemand : ∀ k, s.due.demand.get k = 0)
    (h : 0 < s.due.grant) : s.takeDue = s.grantTakes.takeDue := by
  have hdue := (grantTakes_takes s).due
  have hone : drainGrant s = drainGrant s.grantTakes := drain_one h (by rw [hdue])
  rw [takeDue_eq, takeDue_eq, drainSweep_none hsweep, drainDemand_none hdemand,
    drainSweep_none (s := s.grantTakes) (by rw [hdue]; exact hsweep),
    drainDemand_none (s := s.grantTakes) (by rw [hdue]; exact hdemand), hone]

theorem takeDue_port {s : State} {p : Port} (hsweep : s.due.sweep = 0) (hdemand : ∀ k, s.due.demand.get k = 0)
    (hgrant : s.due.grant = 0) (h : 0 < s.due.port.get p) (hbefore : ∀ q, q < p → s.due.port.get q = 0) :
    s.takeDue = (s.portTakes p []).takeDue := by
  have hone : drainPort s = drainPort (s.portTakes p []) :=
    drainFour_one h hbefore fun j => Quad.get_modify ..
  rw [takeDue_eq, takeDue_eq, drainSweep_none hsweep, drainDemand_none hdemand, drainGrant_none hgrant,
    drainSweep_none (s := s.portTakes p []) hsweep, drainDemand_none (s := s.portTakes p []) hdemand,
    drainGrant_none (s := s.portTakes p []) hgrant, hone]

/-- A window end that a receiver takes first leaves the completion what it is (R90). -/
theorem completes_after_take {s u : State} {d : WindowEnds} (ahead : Quad Nat) (hrun : s.running = true)
    (hwrite : s.store.write = .imageWrite) (hrequests : ∀ x ∈ s.requests, x.command ∈ outlastingCommands)
    (hu : Takes s u d) (htake : s.takeDue = u.takeDue) :
    exec (.imageWriteComplete ahead) s = exec (.imageWriteComplete ahead) u := by
  have hs := s.finishTaken_none fun r hr => outlasts_of_mem (hrequests r hr)
  have hu' := u.finishTaken_none fun r hr => outlasts_of_mem (hrequests r (hu.requests ▸ hr))
  rw [exec_imageWriteComplete ahead hrun hwrite,
    exec_imageWriteComplete ahead (hu.running.trans hrun) (by rw [hu.store]; exact hwrite),
    State.completeActivation, State.completeActivation, hs, hu', htake]

end Sys2Proof.Machine.Units

end

section
/-! SUPPORT. What the completion of an activation leaves in each block (R5, R20, R67, R84, R95, R100, R134, R138, R139,
R152, R167, R174; O48). -/

namespace Sys2Proof.Machine.Units

open Charges Links WaitQueue Timekeeping

/-! ### The Grant Engine (R67, R84) -/

theorem leaveQueue_grant_congr {s u : State} (h : u.grant = s.grant) (e : WaitEntry) :
    (u.leaveQueue e).grant = (s.leaveQueue e).grant := by
  unfold State.leaveQueue State.waitGeneration
  rw [h]

/-- Entries that leave the queue one after another leave the Grant Engine as entries that are removed do. -/
theorem leaveAll_grant (es : List WaitEntry) {s u : State} (h : u.grant = s.grant) :
    (es.foldl State.leaveQueue u).grant = (s.endWaits none es).grant := by
  induction es generalizing s u with
  | nil => exact h
  | cons e es ih => exact ih ((leaveQueue_grant_congr h e).trans (State.endWait_grant s none e).symm)

/-- The queue emptied: no entry is left, and each entry's slot is FREE under its next generation (R79, R84). -/
theorem newGrant_queue {s : State} (hbounded : s.QueueBounded) (c : Catalogue) :
    (s.newGrant c).queue = [] ∧ ∀ n, (s.newGrant c).waitGens.getD n 1 =
      if s.grant.queue.any (fun e => e.slot == n) then nextWaitGeneration (s.waitGeneration n)
      else s.waitGeneration n := by
  obtain ⟨hnodup, hslots, hlength, -⟩ := hbounded
  have hended := ended_endWaits s s.grant.queue hnodup fun e he => hlength ▸ hslots e he
  have hgrant := leaveAll_grant s.grant.queue (s := s) rfl
  refine ⟨?_, fun n => ?_⟩
  · show (s.grant.queue.foldl State.leaveQueue s).grant.queue = []
    rw [hgrant, hended.queue, List.filter_eq_nil_iff]
    intro x hx
    rw [Bool.not_eq_true', Bool.not_eq_false, List.any_eq_true]
    exact ⟨x, hx, beq_self_eq_true _⟩
  · show (s.grant.queue.foldl State.leaveQueue s).grant.waitGens.getD n 1 = _
    rw [hgrant]
    exact hended.waitGeneration n

theorem newGrant_table (s : State) (c : Catalogue) :
    (s.newGrant c).table = s.grant.table.map (CheckoutSlot.reconcile c) :=
  congrArg (fun table => table.map (CheckoutSlot.reconcile c)) (leaveAll_frame s.grant.queue s).1

/-- A checkout bound by its lines' codes to another catalogue (R67). -/
theorem reconcile_checkout (c : Catalogue) (e : Checkout) : Checkout.reconcile c e = { e with
    lines := e.lines.map fun l => { l with index := c.findCode l.code, orphan := (c.findCode l.code).isNone }
    flags := { e.flags with orphan := e.lines.any fun l => (c.findCode l.code).isNone } } := by
  have hlines : e.lines.map (Line.reconcile c) =
      e.lines.map fun l => { l with index := c.findCode l.code, orphan := (c.findCode l.code).isNone } :=
    List.map_congr_left fun l _ => reconcile_line c l
  have horphan : (e.lines.map (Line.reconcile c)).any (fun l => l.orphan) =
      e.lines.any fun l => (c.findCode l.code).isNone := by
    rw [hlines, List.any_map]
    rfl
  unfold Checkout.reconcile
  dsimp only
  rw [horphan, hlines]

/-- A table whose checkouts are bound to another catalogue, read slot by slot. -/
theorem reconciled_slots {s u : State} {c : Catalogue}
    (h : u.grant.table = s.grant.table.map (CheckoutSlot.reconcile c)) (n : Nat) :
    u.generationAt n = s.generationAt n ∧ u.checkoutAt n = (s.checkoutAt n).map (Checkout.reconcile c) := by
  unfold State.generationAt State.checkoutAt
  rw [h, List.getElem?_map]
  cases s.grant.table[n]? <;> exact ⟨rfl, rfl⟩

/-! ### The ports (R5, R84, R152) -/

theorem newPort_eq (s : State) (head : ImageHead) (p : Port) (n : Nat) : s.newPort head p n =
    ({ s.ports.get p with
        effClass := ((head.header.classMap.get p).getD (s.ports.get p).strapClass) } : PortIf).handAll
      ((((s.grant.queue.filter fun e => e.port == p).map fun e => .waitEnded (s.ticket e) .image).take n) ++
        [.image head.header.issue] ++
        (((s.grant.queue.filter fun e => e.port == p).map fun e => .waitEnded (s.ticket e) .image).drop n)) := by
  have hfilter : (s.grant.queue.filter fun e => decide (e.port = p)) = s.grant.queue.filter fun e => e.port == p :=
    List.filter_congr fun e _ => (beq_eq_decide e.port p).symm
  rw [State.newPort, State.completionNotices, State.imageWaits, hfilter]
  rfl

/-! ### The Journal, the Timebase and the Store Controller (R95, R100, R138, R174) -/

/-- The state of a completion before its save begins: the blocks, the IMAGE record and the stored image. -/
def imageStored (s : State) (ahead : Quad Nat) : State :=
  ((s.activateBlocks ahead).recordDroppable
    (imageBody (s.stager.port.getD 0) (headOf s.stager.image).header.issue)).storeImage s.stager.image

/-- The clock's floor crosses an hour (R100, R103). -/
def crossesHour (s : State) : Bool := flooredClock s.stager.image s.time.clock / 60 != s.time.clock / 60

theorem activateAll_eq (s : State) (ahead : Quad Nat) :
    s.activateAll ahead = ((imageStored s ahead).saveAfterImage (crossesHour s)).windowAfterImage := rfl

theorem saveAfterImage_rest (s : State) (crossed : Bool) :
    { s.saveAfterImage crossed with store := s.store } = s := by
  unfold State.saveAfterImage
  split <;> rfl

theorem windowAfterImage_rest (s : State) :
    { s.windowAfterImage with time := s.time, due := s.due } = s := by
  unfold State.windowAfterImage
  split <;> rfl

/-- What follows the blocks at a completion touches the Timebase, the window ends and the store alone. -/
theorem activateAll_rest (s : State) (ahead : Quad Nat) :
    { s.activateAll ahead with
      time := (imageStored s ahead).time, due := s.due, store := (imageStored s ahead).store } =
      imageStored s ahead := by
  have hsave := saveAfterImage_rest (imageStored s ahead) (crossesHour s)
  have hwindow := windowAfterImage_rest ((imageStored s ahead).saveAfterImage (crossesHour s))
  have hdue : ((imageStored s ahead).saveAfterImage (crossesHour s)).due = s.due := by
    have := congrArg State.due hsave
    exact this
  have htime : ((imageStored s ahead).saveAfterImage (crossesHour s)).time = (imageStored s ahead).time := by
    have := congrArg State.time hsave
    exact this
  rw [hdue, htime] at hwindow
  exact (congrArg (fun u : State => { u with store := (imageStored s ahead).store }) hwindow).trans hsave

theorem saveAfterImage_store (s : State) (crossed : Bool) : (s.saveAfterImage crossed).store =
    if s.store.saveWaiting = true ∨ crossed = true then
      { s.store with write := .saving s.savedNow, saveWaiting := false }
    else s.store := by
  rw [State.saveAfterImage, apply_ite State.store]
  simp only [Bool.or_eq_true]
  rfl

theorem windowAfterImage_store (s : State) : s.windowAfterImage.store = s.store := by
  have := congrArg State.store (windowAfterImage_rest s)
  exact this

/-- The window timer has reached the window length (R95). -/
abbrev EndsWindow (t : Timebase) : Prop := t.mode = .auto ∧ t.length ≤ t.windowTimer

/-- The Timebase after a completion: floor, mode and length, and a window timer that stands unless the window ends. -/
theorem activateAll_time (s : State) (ahead : Quad Nat) :
    (s.activateAll ahead).time = { s.time.activate s.stager.image with
      windowTimer := if EndsWindow (s.time.activate s.stager.image) then 0 else s.time.windowTimer } ∧
    (s.activateAll ahead).due = if EndsWindow (s.time.activate s.stager.image) then oneMore s.due else s.due := by
  have hsave := saveAfterImage_rest (imageStored s ahead) (crossesHour s)
  have htime : ((imageStored s ahead).saveAfterImage (crossesHour s)).time = s.time.activate s.stager.image := by
    have := congrArg State.time hsave
    exact this
  have hdue : ((imageStored s ahead).saveAfterImage (crossesHour s)).due = s.due := by
    have := congrArg State.due hsave
    exact this
  rw [activateAll_eq, State.windowAfterImage, htime]
  by_cases h : EndsWindow (s.time.activate s.stager.image)
  · rw [if_pos h, if_pos h, if_pos h, produceWindowEnd_eq, htime, hdue]
    exact ⟨rfl, rfl⟩
  · rw [if_neg h, if_neg h, if_neg h, htime, hdue]
    exact ⟨rfl, rfl⟩

/-- The store after a completion: the image, and a save where one waits or the floor crosses an hour (R138, R139). -/
theorem activateAll_store (s : State) (ahead : Quad Nat) : (s.activateAll ahead).store =
    if s.store.saveWaiting = true ∨ crossesHour s = true then
      { s.store with image := some s.stager.image, saveWaiting := false
                     write := .saving (imageStored s ahead).savedNow }
    else { s.store with image := some s.stager.image, write := .idle } := by
  rw [activateAll_eq, windowAfterImage_store, saveAfterImage_store]
  rfl

/-- Settles O48: part by part, each block's work at the completion. -/
theorem activationActsInEveryBlock : Obligations.ActivationActsInEveryBlock := by
  refine ⟨fun s u ahead older younger r hrun hwrite hr hc ho hu =>
    completes_after_request ahead hrun hwrite hr hc ho hu, ?_, ?_⟩
  · rintro s u ahead i hrun hwrite hrequests hi hu
    rcases hi with ⟨rfl, h⟩ | ⟨hsweep, ⟨k, rfl, h, hbefore⟩ | ⟨hdemand, ⟨rfl, h⟩ | ⟨hgrant, p, rfl, h, hbefore⟩⟩⟩
    · rw [exec_sweepWindowEnd hrun, if_pos h] at hu
      obtain rfl := Host.Outcome.next.inj hu
      exact completes_after_take ahead hrun hwrite hrequests (sweepTakes_takes s) (takeDue_sweep h)
    · rw [DemandWatch.exec_demandWatchWindowEnd hrun, if_pos h] at hu
      obtain rfl := Host.Outcome.next.inj hu
      exact completes_after_take ahead hrun hwrite hrequests (watchTakes_takes s k) (takeDue_demand hsweep h hbefore)
    · rw [exec_grantEngineWindowEnd hrun, if_pos h] at hu
      obtain rfl := Host.Outcome.next.inj hu
      exact completes_after_take ahead hrun hwrite hrequests (grantTakes_takes s) (takeDue_grant hsweep hdemand h)
    · rw [execPortWindowEnd_owed hrun h] at hu
      obtain rfl := Host.Outcome.next.inj hu
      exact completes_after_take ahead hrun hwrite hrequests (portTakes_takes s p [])
        (takeDue_port hsweep hdemand hgrant h hbefore)
  · rintro s ahead rs clock x hrun hwrite hx rfl rfl hbounded hrequests hdue
    obtain ⟨hcat, hgrant⟩ := activateAll_frame s ahead
    obtain ⟨hqueue, hgens⟩ := newGrant_queue hbounded (newCatalogue s.cat s.stager.image s.time.clock)
    obtain ⟨htime, hends⟩ := activateAll_time s ahead
    have hrest := activateAll_rest s ahead
    have hslots := reconciled_slots (u := s.activateAll ahead) (s := s) (c := (s.activateAll ahead).cat)
      ((congrArg GrantEngine.table hgrant).trans (by rw [hcat]; exact newGrant_table s _))
    have hstore := activateAll_store s ahead
    have hports : (s.activateAll ahead).ports = (imageStored s ahead).ports := by
      have := congrArg State.ports hrest
      exact this
    have hwatches : (s.activateAll ahead).watches = (imageStored s ahead).watches := by
      have := congrArg State.watches hrest
      exact this
    have hjournal : (s.activateAll ahead).journal = (imageStored s ahead).journal := by
      have := congrArg State.journal hrest
      exact this
    have hcrosses : crossesHour s = true ↔
        max s.time.clock (headOf s.stager.area.dropLast).header.issueMinute / 60 ≠ s.time.clock / 60 := bne_iff_ne
    refine ⟨s.activateAll ahead, execImageWriteComplete_activates ahead hrun hwrite hdue hrequests, ?_, ?_, ?_, ?_, ?_,
      fun n => ?_, fun n => ⟨(hslots n).1, ?_⟩, fun k => ?_, ?_, fun p => ?_, ?_, ?_, ?_, ?_, ?_⟩
    · exact hcat.trans (by rfl)
    · rw [htime]
      rfl
    · intro h
      have hreached : EndsWindow (s.time.activate s.stager.image) := h
      rw [htime, hends, if_pos hreached, if_pos hreached, hdue]
      exact ⟨rfl, rfl⟩
    · intro h
      have hreached : ¬ EndsWindow (s.time.activate s.stager.image) := h
      rw [htime, hends, if_neg hreached, if_neg hreached]
      exact ⟨rfl, rfl⟩
    · exact (congrArg GrantEngine.queue hgrant).trans hqueue
    · exact (congrArg (fun g : GrantEngine => g.waitGens.getD n 1) hgrant).trans (hgens n)
    · rw [(hslots n).2]
      exact congrArg (fun f => (s.checkoutAt n).map f) (funext fun e => reconcile_checkout _ e)
    · rw [hwatches]
      exact Quad.get_map ..
    · have := congrArg State.stager hrest
      exact this
    · rw [hports]
      exact (Quad.get_ofFn _ p).trans (newPort_eq s _ p (ahead.get p))
    · rw [hjournal]
      show s.journal.writeDroppable _ (imageBody (s.stager.port.getD 0) _) = _
      rw [hx]
      rfl
    · have := congrArg State.requests hrest
      exact this
    · rintro ⟨hwaits, hhour⟩
      rw [hstore, if_neg]
      · rfl
      · rw [hwaits, hcrosses]
        simp [hhour]
    · intro h
      rw [hstore, if_pos (h.imp_right hcrosses.mpr), hjournal]
      rfl
    · have := congrArg (fun u : State => { u with
        cat := s.cat, time := s.time, grant := s.grant, watches := s.watches, stager := s.stager, ports := s.ports
        journal := s.journal, requests := s.requests, store := s.store }) hrest
      exact this

end Sys2Proof.Machine.Units

end
